-- ==== Sys2Proof/Word.lean ====
section
/-! DEFINITION. The words the part exchanges: bytes at the ports and in the store, and the 2- and 4-byte fields built of them
(00 "Byte order", 11). Quantities the manual counts or computes with (gains, errors, counts, indices) are `Nat` and `Int`. -/

namespace Sys2Proof

/-- One byte at a port, in the store or on the backlight line. -/
abbrev Byte := BitVec 8

/-- A 2-byte field of a payload or record. -/
abbrev Half := BitVec 16

/-- A 4-byte field of a payload or record. -/
abbrev Quad := BitVec 32

end Sys2Proof
end

