-- ==== Sys2Proof/Config.lean ====
section
/-! DEFINITION. What the manual leaves open, as constants with no body: nothing can evaluate one or prove a value of it. -/

namespace Sys2Proof

/-- The choice of order number `n`, where two orders within one step both stand: the reports of two blocks emitted at one moment
(R192). The step applies it to `State.choices` and advances that counter. Log 8, 10. -/
opaque Config.eitherFirst : Nat → Bool

/-- The commit record byte of a CLOSE reply NV_FAULT whose step is 1 or 3: R188 has it "read only when the step is 2" and states no
value. Log 15. -/
opaque Config.unreadCommitRecord : Byte

/-- The 4-byte generation field of a unit record whose generation exceeds 4,294,967,295: R159 bounds no generation and R189
gives it 4 bytes. Log 16. -/
opaque Config.generationBeyondField : Nat → Quad

end Sys2Proof
end

