-- ==== Sys2Proof/Syntax.lean ====
section
/-! DEFINITION. The commands the part takes: one constructor of `Instr` for each row of spec/opcode_table.json, with the row's operands.
A request's operands are the port it arrives on, its tag and the payload fields of R187, at their widths on the wire. -/

namespace Sys2Proof

/-- The two UARTs (R175). -/
inductive Port where
  | station | system
  deriving DecidableEq, Repr

/-- A reset raised from outside (R162). Cause REQUEST is raised by PART_RESET's reply alone (R183). -/
inductive ResetSource where
  | powerOn | brownOut | pin
  deriving DecidableEq, Repr

/-- What the nonvolatile store holds where a write went, when the write completes or is cut short by a reset (R137, R159, R162):
all of it, or the bytes `left`, which only the key area keeps a trace of (log 6, 7). -/
inductive WriteOutcome where
  | whole
  | torn (left : List Byte)
  deriving DecidableEq, Repr

/-- One input pixel: codes 0 to 1023 of planes R, G and B. -/
structure Pixel where
  r : BitVec 10
  g : BitVec 10
  b : BitVec 10
  deriving DecidableEq, Repr

/-- One reading of input line 0: its first 768 pixels (R119). `meets` says that the reading falls at the very moment of the event before it in
the queue and is taken second (R127, log 33); it is false of a reading at a later moment. -/
structure LineRead where
  pixels : List Pixel
  meets : Bool
  deriving DecidableEq, Repr

/-- The 17 payload bytes of SET_TUNING (R187), field by field. -/
structure TuningFields where
  k : Byte
  kz : Byte
  kr : Byte
  fineBand : Half
  lockWindow : Half
  lockCount : Byte
  lockShift : Byte
  iterationLimit : Byte
  progressIndex : Byte
  gmin : Half
  gmax : Half
  zmin : Byte
  zmax : Byte
  deriving DecidableEq, Repr

/-- The 11 bytes of a profile record (11.4), field by field. -/
structure ProfileFields where
  code : Half
  mains : Byte
  ceiling : Half
  required : Byte
  release : Byte
  bandPlan : Byte
  language0 : Byte
  language1 : Byte
  language2 : Byte
  deriving DecidableEq, Repr

/-- The 8 bytes of a check slot record as SET_CHECK carries it after its slot byte (R187). -/
structure CheckFields where
  quantity : Byte
  argument : Byte
  limit : Quad
  mask : Byte
  absent : Byte
  deriving DecidableEq, Repr

/-- A request and its payload fields, as a frame carries them (R187). -/
inductive Request where
  | status
  | readRegion
  | keyFetch (id offset count : Half)
  | openUnit (given : Half) (serial : List Byte)
  | close
  | reopen
  | partReset
  | setTuning (fields : TuningFields)
  | setLevels (codes : List Half)
  | setAims (aims : List Half)
  | setPin (slice : Byte) (node : Half) (value : Byte)
  | gridRestart (slice : Byte)
  | readNodes (slice : Byte) (first : Half) (count : Byte)
  | readZones (first count : Byte)
  | measure (patchTag row : Byte) (counts : List Half)
  | arm
  | disarm
  | start
  | stop
  | halt
  | advance
  | patchAppend (patchTag slice settle : Byte) (hold : Half) (autoAdvance : Byte)
  | patchClear
  | loadProfile (slot : Byte) (profile : ProfileFields)
  | setRegion (code : Half)
  | keyBegin (id : Half) (cls : Byte) (length : Half) (check : Quad) (regions : List Half)
  | keyChunk (id offset : Half) (body : List Byte)
  | keyDiscard (id : Half)
  | keyFix
  | keyWithdraw (id : Half)
  | keyList
  | setCheck (slot : Byte) (check : CheckFields)
  | evaluate
  deriving DecidableEq, Repr

/-- The commands, one for each row of spec/opcode_table.json, in the table's order. -/
inductive Instr where
  /-- STATUS (R184). -/
  | status (p : Port) (tag : Byte)
  /-- READ_REGION (R126). -/
  | readRegion (p : Port) (tag : Byte)
  /-- KEY_FETCH (R144). -/
  | keyFetch (p : Port) (tag : Byte) (id offset count : Half)
  /-- OPEN (R165). A given region of 0 is absent (R186). -/
  | openUnit (p : Port) (tag : Byte) (given : Half) (serial : List Byte)
  /-- CLOSE (R167). -/
  | close (p : Port) (tag : Byte)
  /-- REOPEN (R172). -/
  | reopen (p : Port) (tag : Byte)
  /-- PART_RESET (R163). -/
  | partReset (p : Port) (tag : Byte)
  /-- SET_TUNING (R6). -/
  | setTuning (p : Port) (tag : Byte) (fields : TuningFields)
  /-- SET_LEVELS (R19). -/
  | setLevels (p : Port) (tag : Byte) (codes : List Half)
  /-- SET_AIMS (R8). -/
  | setAims (p : Port) (tag : Byte) (aims : List Half)
  /-- SET_PIN (R11). -/
  | setPin (p : Port) (tag : Byte) (slice : Byte) (node : Half) (value : Byte)
  /-- GRID_RESTART (R16). Slice 0xFF is all slices (R186). -/
  | gridRestart (p : Port) (tag : Byte) (slice : Byte)
  /-- READ_NODES (R21). -/
  | readNodes (p : Port) (tag : Byte) (slice : Byte) (first : Half) (count : Byte)
  /-- READ_ZONES (R22). -/
  | readZones (p : Port) (tag : Byte) (first count : Byte)
  /-- MEASURE (R51). -/
  | measure (p : Port) (tag : Byte) (patchTag row : Byte) (counts : List Half)
  /-- ARM (R73). -/
  | arm (p : Port) (tag : Byte)
  /-- DISARM (R74). -/
  | disarm (p : Port) (tag : Byte)
  /-- START (R75). -/
  | start (p : Port) (tag : Byte)
  /-- STOP (R76). -/
  | stop (p : Port) (tag : Byte)
  /-- HALT (R77). -/
  | halt (p : Port) (tag : Byte)
  /-- ADVANCE (R78). -/
  | advance (p : Port) (tag : Byte)
  /-- PATCH_APPEND (R69). -/
  | patchAppend (p : Port) (tag : Byte) (patchTag slice settle : Byte) (hold : Half) (autoAdvance : Byte)
  /-- PATCH_CLEAR (R70). -/
  | patchClear (p : Port) (tag : Byte)
  /-- LOAD_PROFILE (R111). -/
  | loadProfile (p : Port) (tag : Byte) (slot : Byte) (profile : ProfileFields)
  /-- SET_REGION (R114). -/
  | setRegion (p : Port) (tag : Byte) (code : Half)
  /-- KEY_BEGIN (R130). An empty region list is an absent one (R190). -/
  | keyBegin (p : Port) (tag : Byte) (id : Half) (cls : Byte) (length : Half) (check : Quad) (regions : List Half)
  /-- KEY_CHUNK (R131). -/
  | keyChunk (p : Port) (tag : Byte) (id offset : Half) (body : List Byte)
  /-- KEY_DISCARD (R134). -/
  | keyDiscard (p : Port) (tag : Byte) (id : Half)
  /-- KEY_FIX (R136). -/
  | keyFix (p : Port) (tag : Byte)
  /-- KEY_WITHDRAW (R139). -/
  | keyWithdraw (p : Port) (tag : Byte) (id : Half)
  /-- KEY_LIST (R142). -/
  | keyList (p : Port) (tag : Byte)
  /-- SET_CHECK (R147). -/
  | setCheck (p : Port) (tag : Byte) (slot : Byte) (check : CheckFields)
  /-- EVALUATE (R156). -/
  | evaluate (p : Port) (tag : Byte)
  /-- BYTE_RECEIVED (R176): a character at a receiver, and whether its stop bit was there (R177). -/
  | byteReceived (p : Port) (b : Byte) (stopBit : Bool)
  /-- PORT_GAP_TIMER_EXPIRY (R177). -/
  | portGapTimerExpiry (p : Port)
  /-- TRANSMISSION_COMPLETE (R181). -/
  | transmissionComplete (p : Port)
  /-- RESET (R162), with what a write it cuts short left in the store. -/
  | reset (source : ResetSource) (cut : WriteOutcome)
  /-- STARTUP_LOADING (R161): the reset ends. -/
  | startupLoading
  /-- INPUT_FRAME_START (R89), with the line and pixel totals of the frame it ends. -/
  | inputFrameStart (lines pixels : Half)
  /-- INPUT_GAP_EXPIRY (R90). -/
  | inputGapExpiry
  /-- INTERNAL_GENERATOR_TICK (R88). -/
  | internalGeneratorTick
  /-- TRIM_FRAME_COMPLETE (R106). -/
  | trimFrameComplete
  /-- PROGRESS_TIMER_EXPIRY (R65). -/
  | progressTimerExpiry
  /-- MARKER_READ (R119, R120): input line 0 as it was read. -/
  | markerRead (line : LineRead)
  /-- ROW_COUNT (R23). -/
  | rowCount
  /-- OPEN_WRITE_COMPLETE (R165). -/
  | openWriteComplete (outcome : WriteOutcome)
  /-- COMMIT_WRITE_COMPLETE (R168). -/
  | commitWriteComplete (outcome : WriteOutcome)
  /-- REOPEN_WRITE_COMPLETE (R173). -/
  | reopenWriteComplete (outcome : WriteOutcome)
  /-- KEY_FIX_WRITE_COMPLETE (R137). -/
  | keyFixWriteComplete (outcome : WriteOutcome)
  /-- KEY_WITHDRAW_WRITE_COMPLETE (R139). -/
  | keyWithdrawWriteComplete (outcome : WriteOutcome)
  deriving DecidableEq, Repr

/-- The request a command delivers, with its port and tag; the events deliver none. -/
def Instr.request? : Instr → Option (Port × Byte × Request)
  | .status p t => some (p, t, .status)
  | .readRegion p t => some (p, t, .readRegion)
  | .keyFetch p t id offset count => some (p, t, .keyFetch id offset count)
  | .openUnit p t given serial => some (p, t, .openUnit given serial)
  | .close p t => some (p, t, .close)
  | .reopen p t => some (p, t, .reopen)
  | .partReset p t => some (p, t, .partReset)
  | .setTuning p t fields => some (p, t, .setTuning fields)
  | .setLevels p t codes => some (p, t, .setLevels codes)
  | .setAims p t aims => some (p, t, .setAims aims)
  | .setPin p t slice node value => some (p, t, .setPin slice node value)
  | .gridRestart p t slice => some (p, t, .gridRestart slice)
  | .readNodes p t slice first count => some (p, t, .readNodes slice first count)
  | .readZones p t first count => some (p, t, .readZones first count)
  | .measure p t patchTag row counts => some (p, t, .measure patchTag row counts)
  | .arm p t => some (p, t, .arm)
  | .disarm p t => some (p, t, .disarm)
  | .start p t => some (p, t, .start)
  | .stop p t => some (p, t, .stop)
  | .halt p t => some (p, t, .halt)
  | .advance p t => some (p, t, .advance)
  | .patchAppend p t patchTag slice settle hold auto => some (p, t, .patchAppend patchTag slice settle hold auto)
  | .patchClear p t => some (p, t, .patchClear)
  | .loadProfile p t slot profile => some (p, t, .loadProfile slot profile)
  | .setRegion p t code => some (p, t, .setRegion code)
  | .keyBegin p t id cls length check regions => some (p, t, .keyBegin id cls length check regions)
  | .keyChunk p t id offset body => some (p, t, .keyChunk id offset body)
  | .keyDiscard p t id => some (p, t, .keyDiscard id)
  | .keyFix p t => some (p, t, .keyFix)
  | .keyWithdraw p t id => some (p, t, .keyWithdraw id)
  | .keyList p t => some (p, t, .keyList)
  | .setCheck p t slot check => some (p, t, .setCheck slot check)
  | .evaluate p t => some (p, t, .evaluate)
  | .byteReceived _ _ _ => none
  | .portGapTimerExpiry _ => none
  | .transmissionComplete _ => none
  | .reset _ _ => none
  | .startupLoading => none
  | .inputFrameStart _ _ => none
  | .inputGapExpiry => none
  | .internalGeneratorTick => none
  | .trimFrameComplete => none
  | .progressTimerExpiry => none
  | .markerRead _ => none
  | .rowCount => none
  | .openWriteComplete _ => none
  | .commitWriteComplete _ => none
  | .reopenWriteComplete _ => none
  | .keyFixWriteComplete _ => none
  | .keyWithdrawWriteComplete _ => none

/-- The number of payload bytes of a request as sent: the fields of R187, with each list at its length. -/
def Request.payloadLength : Request → Nat
  | .status | .readRegion | .close | .reopen | .partReset => 0
  | .arm | .disarm | .start | .stop | .halt | .advance => 0
  | .patchClear | .keyFix | .keyList | .evaluate => 0
  | .keyFetch _ _ _ => 6
  | .openUnit _ serial => 3 + serial.length
  | .setTuning _ => 17
  | .setLevels codes => 2 * codes.length
  | .setAims aims => 2 * aims.length
  | .setPin _ _ _ => 4
  | .gridRestart _ => 1
  | .readNodes _ _ _ => 4
  | .readZones _ _ => 2
  | .measure _ _ counts => 2 + 2 * counts.length
  | .patchAppend _ _ _ _ _ => 6
  | .loadProfile _ _ => 12
  | .setRegion _ => 2
  | .keyBegin _ _ _ _ regions => 10 + 2 * regions.length
  | .keyChunk _ _ body => 6 + body.length
  | .keyDiscard _ => 2
  | .keyWithdraw _ => 2
  | .setCheck _ _ => 9

end Sys2Proof
end

