-- ==== Sys2Proof/WellFormed.lean ====
section
/-! DEFINITION. Which commands are commands of the part at all. A request is one when a frame can carry it (R175: at most 1024
payload bytes; R186: a list's count is one byte); a marker read is one when it has the 768 pixels of R119. A request whose
payload length does not suit its kind is well formed: the part answers it BAD_LENGTH (R179). -/

namespace Sys2Proof

/-- A frame can carry the request: its payload fits (R175) and each count byte holds its list's length (R186). -/
def Request.wellFormed (r : Request) : Bool :=
  decide (r.payloadLength ≤ 1024) &&
    match r with
    | .openUnit _ serial => decide (serial.length ≤ 255)
    | .keyBegin _ _ _ _ regions => decide (regions.length ≤ 255)
    | _ => true

/-- The payload length suits the kind (R179 check 5, R186): a kind of fixed length has that length, and KEY_CHUNK carries 1 to 512
body bytes (R131). A count outside the owner's range with a matching length passes here and is refused by the owner (R186). -/
def Request.lengthSuits : Request → Bool
  | .setLevels codes => decide (codes.length = 5)
  | .setAims aims => decide (aims.length = 16)
  | .measure _ _ counts => decide (counts.length = 32)
  | .keyChunk _ _ body => decide (1 ≤ body.length ∧ body.length ≤ 512)
  | _ => true

/-- The command is one the part can meet. -/
def Instr.wellFormed (i : Instr) : Bool :=
  match i.request? with
  | some (_, _, r) => r.wellFormed
  | none =>
    match i with
    | .markerRead line => decide (line.pixels.length = 768)
    | _ => true

end Sys2Proof
end

