-- ==== Sys2Proof/Decode.lean ====
section
/-! DEFINITION. Reading a request out of a frame's kind and payload (R186, R187), the request's own kind and payload (the encoder), and
`decodeTableWord` over the rows of spec/opcode_table.json that give bits (none does). -/

namespace Sys2Proof

/-- A 2-byte field from its bytes, low byte first (00 "Byte order"). -/
def half (lo hi : Byte) : Half := hi ++ lo

/-- A 4-byte field from its bytes, low byte first. -/
def quad (b0 b1 b2 b3 : Byte) : Quad := (b3 ++ b2) ++ (b1 ++ b0)

/-- The bytes of a 2-byte field, low byte first. -/
def Half.bytes (h : Half) : List Byte := [h.extractLsb' 0 8, h.extractLsb' 8 8]

/-- The bytes of a 4-byte field, low byte first. -/
def Quad.bytes (q : Quad) : List Byte :=
  [q.extractLsb' 0 8, q.extractLsb' 8 8, q.extractLsb' 16 8, q.extractLsb' 24 8]

/-- A run of 2-byte fields; nothing when a byte is left over. -/
def halves : List Byte → Option (List Half)
  | [] => some []
  | [_] => none
  | lo :: hi :: rest => (halves rest).map (half lo hi :: ·)

/-- The bytes of a run of 2-byte fields. -/
def halvesBytes (hs : List Half) : List Byte := hs.flatMap Half.bytes

/-- A run of exactly `n` 2-byte fields. -/
def halvesOf (n : Nat) (bytes : List Byte) : Option (List Half) :=
  if bytes.length = 2 * n then halves bytes else none

/-- The payload of a request of the given kind (R187), or nothing where its length does not suit the kind or disagrees with a count it
carries (R179 check 5, R186). -/
def parseRequest (kind : Byte) (payload : List Byte) : Option Request :=
  match kind.toNat with
  | 0x01 => match payload with
    | [] => some .status
    | _ => none
  | 0x02 => match payload with
    | [] => some .readRegion
    | _ => none
  | 0x03 => match payload with
    | [a, b, c, d, e, f] => some (.keyFetch (half a b) (half c d) (half e f))
    | _ => none
  | 0x10 => match payload with
    | a :: b :: n :: serial => if serial.length = n.toNat then some (.openUnit (half a b) serial) else none
    | _ => none
  | 0x11 => match payload with
    | [] => some .close
    | _ => none
  | 0x12 => match payload with
    | [] => some .reopen
    | _ => none
  | 0x13 => match payload with
    | [] => some .partReset
    | _ => none
  | 0x20 => match payload with
    | [k, kz, kr, f0, f1, w0, w1, c, s, it, p, g0, g1, h0, h1, z0, z1] =>
      some (.setTuning ⟨k, kz, kr, half f0 f1, half w0 w1, c, s, it, p, half g0 g1, half h0 h1, z0, z1⟩)
    | _ => none
  | 0x21 => (halvesOf 5 payload).map .setLevels
  | 0x22 => (halvesOf 16 payload).map .setAims
  | 0x23 => match payload with
    | [s, a, b, v] => some (.setPin s (half a b) v)
    | _ => none
  | 0x24 => match payload with
    | [s] => some (.gridRestart s)
    | _ => none
  | 0x25 => match payload with
    | [s, a, b, n] => some (.readNodes s (half a b) n)
    | _ => none
  | 0x26 => match payload with
    | [z, n] => some (.readZones z n)
    | _ => none
  | 0x30 => match payload with
    | t :: r :: counts => (halvesOf 32 counts).map (.measure t r)
    | _ => none
  | 0x31 => match payload with
    | [] => some .arm
    | _ => none
  | 0x32 => match payload with
    | [] => some .disarm
    | _ => none
  | 0x33 => match payload with
    | [] => some .start
    | _ => none
  | 0x34 => match payload with
    | [] => some .stop
    | _ => none
  | 0x35 => match payload with
    | [] => some .halt
    | _ => none
  | 0x36 => match payload with
    | [] => some .advance
    | _ => none
  | 0x37 => match payload with
    | [t, s, n, h0, h1, a] => some (.patchAppend t s n (half h0 h1) a)
    | _ => none
  | 0x38 => match payload with
    | [] => some .patchClear
    | _ => none
  | 0x40 => match payload with
    | [slot, c0, c1, m, w0, w1, q, r, b, l0, l1, l2] =>
      some (.loadProfile slot ⟨half c0 c1, m, half w0 w1, q, r, b, l0, l1, l2⟩)
    | _ => none
  | 0x41 => match payload with
    | [a, b] => some (.setRegion (half a b))
    | _ => none
  | 0x50 => match payload with
    | i0 :: i1 :: c :: l0 :: l1 :: v0 :: v1 :: v2 :: v3 :: n :: regions =>
      (halvesOf n.toNat regions).map (.keyBegin (half i0 i1) c (half l0 l1) (quad v0 v1 v2 v3))
    | _ => none
  | 0x51 => match payload with
    | i0 :: i1 :: o0 :: o1 :: n0 :: n1 :: body =>
      if body.length = (half n0 n1).toNat ∧ 1 ≤ body.length ∧ body.length ≤ 512 then
        some (.keyChunk (half i0 i1) (half o0 o1) body) else none
    | _ => none
  | 0x52 => match payload with
    | [a, b] => some (.keyDiscard (half a b))
    | _ => none
  | 0x53 => match payload with
    | [] => some .keyFix
    | _ => none
  | 0x54 => match payload with
    | [a, b] => some (.keyWithdraw (half a b))
    | _ => none
  | 0x55 => match payload with
    | [] => some .keyList
    | _ => none
  | 0x60 => match payload with
    | [slot, q, a, l0, l1, l2, l3, m, p] =>
      some (.setCheck slot ⟨q, a, quad l0 l1 l2 l3, m, p⟩)
    | _ => none
  | 0x61 => match payload with
    | [] => some .evaluate
    | _ => none
  | _ => none

/-- The kind byte of a request (R187). -/
def Request.kind : Request → Byte
  | .status => 0x01
  | .readRegion => 0x02
  | .keyFetch _ _ _ => 0x03
  | .openUnit _ _ => 0x10
  | .close => 0x11
  | .reopen => 0x12
  | .partReset => 0x13
  | .setTuning _ => 0x20
  | .setLevels _ => 0x21
  | .setAims _ => 0x22
  | .setPin _ _ _ => 0x23
  | .gridRestart _ => 0x24
  | .readNodes _ _ _ => 0x25
  | .readZones _ _ => 0x26
  | .measure _ _ _ => 0x30
  | .arm => 0x31
  | .disarm => 0x32
  | .start => 0x33
  | .stop => 0x34
  | .halt => 0x35
  | .advance => 0x36
  | .patchAppend _ _ _ _ _ => 0x37
  | .patchClear => 0x38
  | .loadProfile _ _ => 0x40
  | .setRegion _ => 0x41
  | .keyBegin _ _ _ _ _ => 0x50
  | .keyChunk _ _ _ => 0x51
  | .keyDiscard _ => 0x52
  | .keyFix => 0x53
  | .keyWithdraw _ => 0x54
  | .keyList => 0x55
  | .setCheck _ _ => 0x60
  | .evaluate => 0x61

/-- A request's payload bytes, in the order of R187. -/
def Request.payload : Request → List Byte
  | .status | .readRegion | .close | .reopen | .partReset => []
  | .arm | .disarm | .start | .stop | .halt | .advance => []
  | .patchClear | .keyFix | .keyList | .evaluate => []
  | .keyFetch id offset count => id.bytes ++ offset.bytes ++ count.bytes
  | .openUnit given serial => given.bytes ++ BitVec.ofNat 8 serial.length :: serial
  | .setTuning f =>
    [f.k, f.kz, f.kr] ++ f.fineBand.bytes ++ f.lockWindow.bytes ++ [f.lockCount, f.lockShift, f.iterationLimit, f.progressIndex] ++
      f.gmin.bytes ++ f.gmax.bytes ++ [f.zmin, f.zmax]
  | .setLevels codes => halvesBytes codes
  | .setAims aims => halvesBytes aims
  | .setPin slice node value => slice :: node.bytes ++ [value]
  | .gridRestart slice => [slice]
  | .readNodes slice first count => slice :: first.bytes ++ [count]
  | .readZones first count => [first, count]
  | .measure patchTag row counts => patchTag :: row :: halvesBytes counts
  | .patchAppend patchTag slice settle hold auto => [patchTag, slice, settle] ++ hold.bytes ++ [auto]
  | .loadProfile slot f =>
    slot :: f.code.bytes ++ [f.mains] ++ f.ceiling.bytes ++ [f.required, f.release, f.bandPlan, f.language0, f.language1, f.language2]
  | .setRegion code => code.bytes
  | .keyBegin id cls length check regions =>
    id.bytes ++ [cls] ++ length.bytes ++ check.bytes ++ BitVec.ofNat 8 regions.length :: halvesBytes regions
  | .keyChunk id offset body => id.bytes ++ offset.bytes ++ Half.bytes (BitVec.ofNat 16 body.length) ++ body
  | .keyDiscard id => id.bytes
  | .keyWithdraw id => id.bytes
  | .setCheck slot f => [slot, f.quantity, f.argument] ++ f.limit.bytes ++ [f.mask, f.absent]

/-- The command a word of the opcode table spells: the table gives no row any bits, so no word spells one (log 4). -/
def decodeTableWord (_nbits _w : Nat) : Option Instr := none

end Sys2Proof
end

