-- ==== Sys2Proof/Machine/State.lean ====
section
/-! DEFINITION. The state of the T1860, block by block (00 "Blocks and the state they own"), as plain data, its value right after a
power-on reset, and the reasons a step can stop. -/

namespace Sys2Proof.Machine

/-! ### Grid memory (01) -/

/-- The state of a node or zone (R4); zones are never PINNED. -/
inductive CellState where
  | seeking | locked | stalled | pinned
  deriving DecidableEq, Repr

/-- What the loop moves: the fields a node record (R2) and a zone record (R3) share. `value` is a node's gain or a zone's trim. -/
structure Cell where
  value : Nat
  state : CellState
  streak : Nat
  iterations : Nat
  appliedAt : Nat
  saturated : Bool
  deriving DecidableEq, Repr

/-- A node record of a colour slice (R2). -/
structure NodeRec where
  cell : Cell
  lastMeasured : Option Nat
  lastError : Option Int
  pin : Nat
  deriving DecidableEq, Repr

/-- A white node record (R3). -/
structure WhiteRec where
  lastMeasured : Option Nat
  lastError : Option Int
  heldShow : Option Nat
  deriving DecidableEq, Repr

/-- A zone record (R3). -/
structure ZoneRec where
  cell : Cell
  pendingSum : Int
  pendingCount : Nat
  pendingShow : Option Nat
  pendingShort : Bool
  deriving DecidableEq, Repr

/-- The tuning record (R5). -/
structure Tuning where
  k : Nat
  kz : Nat
  kr : Nat
  fineBand : Nat
  lockWindow : Nat
  lockCount : Nat
  lockShift : Nat
  iterationLimit : Nat
  progressIndex : Nat
  gmin : Nat
  gmax : Nat
  zmin : Nat
  zmax : Nat
  deriving DecidableEq, Repr

/-- Whether white measurements move zone trims (R14). -/
inductive GridPhase where
  | coarse | fine
  deriving DecidableEq, Repr

/-- What grid memory holds until the row in process ends (R13). The frame tag of a held request is the reply it owes. -/
inductive HeldItem where
  | setAims (tag : Byte) (aims : List Nat) (clamped : Bool)
  | setPin (tag : Byte) (slice node value : Nat)
  | ceiling (limit : Option Nat)
  deriving DecidableEq, Repr

/-- Grid memory (R1). `ceiling` is the white ceiling it last took from the region unit (R9, R13). -/
structure Grid where
  colour : List (List NodeRec)
  white : List WhiteRec
  zones : List ZoneRec
  tuning : Tuning
  levels : List Nat
  aims : List Nat
  ceiling : Option Nat
  phase : GridPhase
  sticky : List Bool
  held : List HeldItem
  deriving DecidableEq, Repr

/-! ### Measurement intake and convergence engine (02, 03) -/

/-- An accepted row (R23, R49). `frameTag` is the tag of the reply the intake owes. -/
structure Row where
  frameTag : Byte
  patchTag : Nat
  showNumber : Nat
  slice : Nat
  row : Nat
  counts : List Nat
  deriving DecidableEq, Repr

/-- The outcome tallies of the row in process (R24). -/
structure Tally where
  applied : Nat
  stale : Nat
  recordedOnly : Nat
  unusable : Nat
  zonesUpdated : Nat
  deriving DecidableEq, Repr

/-- The row with the engine, the effective aim and tuning record it took when the row began, and the column it takes next (R23). -/
structure RowInProcess where
  row : Row
  aim : Nat
  tuning : Tuning
  column : Nat
  tally : Tally
  deriving DecidableEq, Repr

/-- The measurement intake (R49). `progress` is the progress timer: stopped, or the period in ms of the interval in progress (R64). -/
structure Intake where
  queue : List Row
  inProcess : Option RowInProcess
  progress : Option Nat
  deriving DecidableEq, Repr

/-! ### Pattern sequencer (04) -/

inductive SubPhase where
  | settle | hold
  deriving DecidableEq, Repr

inductive EndReason where
  | timeout | complete | advanced | halted
  deriving DecidableEq, Repr

/-- A patch record (R67). The two sets are lists of row indices with no repeats. -/
structure Patch where
  tag : Nat
  slice : Nat
  settleFrames : Nat
  holdLimit : Nat
  autoAdvance : Bool
  showNumber : Option Nat
  subPhase : Option SubPhase
  settleCounter : Nat
  holdCount : Nat
  ready : Bool
  received : List Nat
  completed : List Nat
  endReason : Option EndReason
  deriving DecidableEq, Repr

inductive SeqState where
  | idle | armed | running | stopping
  deriving DecidableEq, Repr

/-- The pattern sequencer (R68, R71, R72). `history` has the newest record last. -/
structure Sequencer where
  list : List Patch
  current : Option Patch
  history : List Patch
  showNumber : Nat
  state : SeqState
  startPending : Bool
  haltRequested : Bool
  advanceRequested : Bool
  deriving DecidableEq, Repr

/-! ### Frame timing unit (04) -/

inductive TimingSource where
  | input | internal
  deriving DecidableEq, Repr

/-- The frame timing unit (R88). `generator` is the internal generator: stopped, or the rate of the interval in progress (R93).
Rates are 50 or 60 Hz. -/
structure Timing where
  source : TimingSource
  lock : Bool
  matchCount : Nat
  reference : Option (Nat × Nat)
  rate : Nat
  deferred : Option Nat
  gapRunning : Bool
  generator : Option Nat
  deriving DecidableEq, Repr

/-! ### Region unit and marker decoder (06) -/

/-- A set of key classes. -/
structure ClassSet where
  content : Bool
  identity : Bool
  service : Bool
  platform : Bool
  deriving DecidableEq, Repr

/-- A region profile (R110). -/
structure Profile where
  code : Nat
  mains : Nat
  ceiling : Nat
  required : ClassSet
  release : ClassSet
  bandPlan : Byte
  language : List Byte
  deriving DecidableEq, Repr

/-- Where CURRENT's profile was found (R110). -/
inductive ProfilePlace where
  | slot (n : Nat)
  | committed
  deriving DecidableEq, Repr

/-- A CURRENT that is set: its code, the profile it is taken from and that profile's place (R109, R110). -/
structure CurrentRegion where
  code : Nat
  place : ProfilePlace
  profile : Profile
  deriving DecidableEq, Repr

/-- A decoded marker (R120). -/
structure Marker where
  frameIndex : Nat
  line : Nat
  code : Nat
  stationByte : Nat
  deriving DecidableEq, Repr

/-- A station identity: line 0 to 15 and station 0 to 65535 (R109). -/
structure StationId where
  line : Nat
  station : Nat
  deriving DecidableEq, Repr

/-- The region unit (R109). `pendingHigh` keeps the frame index, line and station byte of its marker. `lineArmed` says that line 0 of
the input frame in progress is one the decoder reads (R119). -/
structure Region where
  slots : List (Option Profile)
  committed : Option Profile
  given : Nat
  current : Option CurrentRegion
  sensed : Nat
  sensedValid : Bool
  markerPresent : Bool
  missCount : Nat
  lastMarker : Option Marker
  pendingHigh : Option Marker
  identity : Option StationId
  conflict : Bool
  unknown : Bool
  lineArmed : Bool
  deriving DecidableEq, Repr

/-! ### Correction applier and backlight trim output (05) -/

inductive ApplierMode where
  | bypass | working | committed
  deriving DecidableEq, Repr

/-- The committed image (R95): gains by slice and node, trims, level codes. -/
structure GridImage where
  gains : List (List Nat)
  trims : List Nat
  levels : List Nat
  deriving DecidableEq, Repr

/-- The frame view (R97). In BYPASS it holds no gains. -/
structure FrameView where
  mode : ApplierMode
  gains : List (List Nat)
  levels : List Nat
  deriving DecidableEq, Repr

/-- What an output frame carries before correction (R72, R85): the input frame, or one code per plane for every pixel. -/
inductive Picture where
  | input
  | uniform (r g b : Nat)
  deriving DecidableEq, Repr

/-- The correction applier (R95), with the picture of the output frame in progress (R102). -/
structure Applier where
  mode : ApplierMode
  committed : GridImage
  view : Option FrameView
  picture : Option Picture
  deriving DecidableEq, Repr

/-- 144 trims with the applier mode that selected them (R103). -/
structure TrimImage where
  mode : ApplierMode
  trims : List Nat
  deriving DecidableEq, Repr

/-- A trim frame (R107). -/
structure TrimFrame where
  sequence : Nat
  image : TrimImage
  deriving DecidableEq, Repr

/-- The backlight trim output (R103). `inFlight` is the frame in transmission. -/
structure TrimOutput where
  dirty : Bool
  lastSent : Option TrimImage
  inFlight : Option TrimFrame
  sequence : Nat
  deriving DecidableEq, Repr

/-! ### Key table (07) -/

inductive KeyClass where
  | content | identity | service | platform
  deriving DecidableEq, Repr

inductive KeyState where
  | loading | staged | checkFailed | fixed | withdrawn
  deriving DecidableEq, Repr

/-- A key entry that is not EMPTY (R128). -/
structure KeyEntry where
  id : Nat
  cls : KeyClass
  length : Nat
  check : Quad
  regions : Option (List Nat)
  state : KeyState
  received : Nat
  body : List Byte
  offset : Option Nat
  fixPending : Bool
  deriving DecidableEq, Repr

/-- The four writes of one key, in order (R137). -/
inductive FixStep where
  | spaceWord | header | body | mark
  deriving DecidableEq, Repr

/-- The progress and the deferred reply of a KEY_FIX or KEY_WITHDRAW (R128). `start` is where the space of the key being written
begins. -/
inductive KeyOp where
  | fix (tag : Byte) (count entry : Nat) (step : FixStep) (start : Nat)
  | withdraw (tag : Byte) (entry : Nat)
  deriving DecidableEq, Repr

/-- The key table (R128, R133). An entry that is absent is EMPTY. -/
structure KeyTable where
  entries : List (Option KeyEntry)
  fill : Nat
  areaClosed : Bool
  op : Option KeyOp
  deriving DecidableEq, Repr

/-! ### Acceptance checker (08) -/

inductive Quantity where
  | uniformity | worstError | saturated | satEver | stalled | unlocked | zoneSpread | keys | markerMatch
  deriving DecidableEq, Repr

/-- A condition mask (R146). -/
structure Conditions where
  less : Bool
  greater : Bool
  equal : Bool
  magLess : Bool
  magGreater : Bool
  deriving DecidableEq, Repr

inductive Verdict where
  | pass | fail
  deriving DecidableEq, Repr

/-- A check slot (R146). -/
structure CheckSlot where
  quantity : Quantity
  argument : Nat
  limit : Int
  mask : Conditions
  absent : Verdict
  deriving DecidableEq, Repr

/-! ### Unit controller and nonvolatile store (09) -/

inductive UnitPhase where
  | blank | parked | opened | closing | closed
  deriving DecidableEq, Repr

inductive ResetCause where
  | powerOn | brownOut | pin | request
  deriving DecidableEq, Repr

/-- The writes of a commit, in order (R168). The last carries the station identity taken when it began. -/
inductive CommitStep where
  | closingMark | gridRecord | regionRecord | tuningRecord
  | closedMark (identity : Option StationId)
  deriving DecidableEq, Repr

/-- The operation in flight (R160). The unit controller's own operations keep their deferred reply's tag and what they hold
(R165, R168, R172); of the key table's it records the kind alone. -/
inductive NvOp where
  | openWrite (tag : Byte) (serial : List Byte) (given : Nat)
  | commit (tag : Byte) (step : CommitStep)
  | reopenWrite (tag : Byte)
  | keyFix
  | keyWithdraw
  deriving DecidableEq, Repr

/-- The unit controller (R158). -/
structure UnitCtl where
  phase : UnitPhase
  serial : Option (List Byte)
  rework : Nat
  identity : Option StationId
  cause : ResetCause
  op : Option NvOp
  resetPending : Bool
  deriving DecidableEq, Repr

/-- The places a write goes (R159, R160). -/
inductive NvPlace where
  | copyA | copyB | gridRecord | regionRecord | tuningRecord
  | keyArea (offset : Nat)
  deriving DecidableEq, Repr

/-- The write in flight: where it goes and the bytes it writes. -/
structure NvWrite where
  place : NvPlace
  data : List Byte
  deriving DecidableEq, Repr

/-- The nonvolatile store (R133, R159). A copy or record that was never written whole, or lost its check code, is absent
(log 6, 18). `keyArea` lists the written bytes of the key area, offsets rising. -/
structure NvStore where
  copyA : Option (List Byte)
  copyB : Option (List Byte)
  gridRecord : Option (List Byte)
  regionRecord : Option (List Byte)
  tuningRecord : Option (List Byte)
  keyArea : List Host.Cell
  write : Option NvWrite
  deriving DecidableEq, Repr

/-! ### Ports (10) -/

/-- A reply or report: its kind, tag and payload (R175). -/
structure Frame where
  kind : Byte
  tag : Byte
  payload : List Byte
  deriving DecidableEq, Repr

/-- A receiver's assembly stage (R176). -/
inductive RxStage where
  | hunt | length | body | crc
  deriving DecidableEq, Repr

/-- A port controller (R175). `buffer` holds the frame being assembled from its start byte on. The system port's `reports` and
`dropped` stay empty and clear: it has neither. -/
structure PortCtl where
  stage : RxStage
  buffer : List Byte
  gapRunning : Bool
  replies : List Frame
  reports : List Frame
  dropped : Bool
  sending : Option Frame
  deriving DecidableEq, Repr

/-! ### The whole part -/

/-- Whether a reset is held, with its cause so far, or start-up loading is complete (R161, R162). -/
inductive Power where
  | held (cause : ResetCause)
  | running
  deriving DecidableEq, Repr

/-- The whole state. `pending` is the queue of commands that wait; `choices` is the counter free choices of order read and advance
(`Config.eitherFirst`); both are the model's own. -/
structure State where
  power : Power
  grid : Grid
  intake : Intake
  seq : Sequencer
  timing : Timing
  region : Region
  applier : Applier
  trim : TrimOutput
  keys : KeyTable
  checks : List CheckSlot
  unit : UnitCtl
  nv : NvStore
  station : PortCtl
  system : PortCtl
  pending : List Instr
  choices : Nat
  deriving DecidableEq, Repr

/-- The part has no fault that stops it: what goes wrong is answered by a status code, a report or silence (R178, R185). -/
inductive Fault where
  deriving DecidableEq, Repr

/-- Why the model has no next state. -/
inductive Refusal where
  /-- Raised by `exec` for a command with no meaning yet. Safe: nothing follows. -/
  | notModelled (mnemonic : String)
  /-- Raised by a command that is no command of the part: a request no frame can carry (R175), or a marker read without the 768
  pixels of R119. Safe: the part never meets one (log 23). -/
  | illFormed
  deriving DecidableEq, Repr

/-! ### Values after a reset -/

/-- A node's or zone's loop fields after a restart, at the given gain or trim (R2, R3). -/
def Cell.fresh (value : Nat) : Cell :=
  { value := value, state := .seeking, streak := 0, iterations := 0, appliedAt := 0, saturated := false }

/-- A node that is not pinned, after a restart (R2). -/
def NodeRec.fresh : NodeRec := { cell := .fresh 2048, lastMeasured := none, lastError := none, pin := 0 }

/-- A white node after a restart (R3). -/
def WhiteRec.fresh : WhiteRec := { lastMeasured := none, lastError := none, heldShow := none }

/-- A zone after a restart (R3). -/
def ZoneRec.fresh : ZoneRec :=
  { cell := .fresh 128, pendingSum := 0, pendingCount := 0, pendingShow := none, pendingShort := false }

/-- The default tuning record (R5). -/
def Tuning.default : Tuning :=
  { k := 40, kz := 32, kr := 16, fineBand := 164, lockWindow := 41, lockCount := 2, lockShift := 1, iterationLimit := 12,
    progressIndex := 4, gmin := 1536, gmax := 2560, zmin := 96, zmax := 160 }

/-- The default level codes (R19). -/
def defaultLevels : List Nat := [64, 256, 512, 768, 1023]

/-- Grid memory as start-up fills it for any mark but CLOSED (R20). -/
def Grid.fresh : Grid :=
  { colour := List.replicate 15 (List.replicate 576 .fresh)
    white := List.replicate 576 .fresh
    zones := List.replicate 144 .fresh
    tuning := .default
    levels := defaultLevels
    aims := List.replicate 16 0
    ceiling := none
    phase := .coarse
    sticky := List.replicate 16 false
    held := [] }

/-- The intake after any reset (R49, R64). -/
def Intake.fresh : Intake := { queue := [], inProcess := none, progress := none }

/-- The sequencer after any reset (R71, R72). -/
def Sequencer.fresh : Sequencer :=
  { list := [], current := none, history := [], showNumber := 0, state := .idle, startPending := false, haltRequested := false,
    advanceRequested := false }

/-- The frame timing unit after any reset (R88); the generator starts when start-up loading is complete. -/
def Timing.fresh : Timing :=
  { source := .internal, lock := false, matchCount := 0, reference := none, rate := 60, deferred := none, gapRunning := false,
    generator := none }

/-- The region unit after any reset, before start-up loading (R109). -/
def Region.fresh : Region :=
  { slots := List.replicate 8 none, committed := none, given := 0, current := none, sensed := 0, sensedValid := false,
    markerPresent := false, missCount := 0, lastMarker := none, pendingHigh := none, identity := none, conflict := false,
    unknown := false, lineArmed := false }

/-- The committed image of a part without a commit in force (R95). -/
def GridImage.unity : GridImage :=
  { gains := List.replicate 15 (List.replicate 576 2048), trims := List.replicate 144 128, levels := defaultLevels }

/-- The applier of a part without a commit in force, before the first frame boundary (R95). -/
def Applier.fresh : Applier := { mode := .bypass, committed := .unity, view := none, picture := none }

/-- The trim output after any reset (R103). -/
def TrimOutput.fresh : TrimOutput := { dirty := true, lastSent := none, inFlight := none, sequence := 0 }

/-- A key table with every entry EMPTY over a blank area (R128, R141). -/
def KeyTable.fresh : KeyTable := { entries := List.replicate 24 none, fill := 0, areaClosed := false, op := none }

/-- A check slot after any reset (R146). -/
def CheckSlot.fresh : CheckSlot :=
  { quantity := .uniformity, argument := 0, limit := 0,
    mask := { less := false, greater := false, equal := false, magLess := false, magGreater := false }, absent := .pass }

/-- The unit controller before start-up loading (R158). -/
def UnitCtl.fresh (cause : ResetCause) : UnitCtl :=
  { phase := .blank, serial := none, rework := 0, identity := none, cause := cause, op := none, resetPending := false }

/-- The store of a part that nothing has ever been written to (log 18). -/
def NvStore.unwritten : NvStore :=
  { copyA := none, copyB := none, gridRecord := none, regionRecord := none, tuningRecord := none, keyArea := [], write := none }

/-- A port after any reset (R175). -/
def PortCtl.fresh : PortCtl :=
  { stage := .hunt, buffer := [], gapRunning := false, replies := [], reports := [], dropped := false, sending := none }

/-- Every volatile block at its value after a reset, the reset still held, over the given store, queue and choice counter. -/
def State.volatileReset (cause : ResetCause) (nv : NvStore) (pending : List Instr) (choices : Nat) : State :=
  { power := .held cause
    grid := .fresh
    intake := .fresh
    seq := .fresh
    timing := .fresh
    region := .fresh
    applier := .fresh
    trim := .fresh
    keys := .fresh
    checks := List.replicate 16 .fresh
    unit := .fresh cause
    nv := nv
    station := .fresh
    system := .fresh
    pending := pending
    choices := choices }

/-- The machine right after a reset: a new part held in its power-on reset, start-up loading (R161) still to come (log 4). -/
def State.reset : State := State.volatileReset .powerOn .unwritten [] 0

/-! ### Updates, one for each block -/

def State.setPower (s : State) (x : Power) : State := { s with power := x }
def State.setGrid (s : State) (x : Grid) : State := { s with grid := x }
def State.setIntake (s : State) (x : Intake) : State := { s with intake := x }
def State.setSeq (s : State) (x : Sequencer) : State := { s with seq := x }
def State.setTiming (s : State) (x : Timing) : State := { s with timing := x }
def State.setRegion (s : State) (x : Region) : State := { s with region := x }
def State.setApplier (s : State) (x : Applier) : State := { s with applier := x }
def State.setTrim (s : State) (x : TrimOutput) : State := { s with trim := x }
def State.setKeys (s : State) (x : KeyTable) : State := { s with keys := x }
def State.setChecks (s : State) (x : List CheckSlot) : State := { s with checks := x }
def State.setUnit (s : State) (x : UnitCtl) : State := { s with unit := x }
def State.setNv (s : State) (x : NvStore) : State := { s with nv := x }
def State.setStation (s : State) (x : PortCtl) : State := { s with station := x }
def State.setSystem (s : State) (x : PortCtl) : State := { s with system := x }
def State.setPending (s : State) (x : List Instr) : State := { s with pending := x }
def State.setChoices (s : State) (x : Nat) : State := { s with choices := x }

end Sys2Proof.Machine
end

