-- ==== Sys2Proof/Machine/Ops.lean ====
section
/-! DEFINITION. The operations every block shares: rounding (00), byte fields (00, 11), check codes (R120, R132, R176), the codes of R185,
replies, reports and the transmitters (R180 to R182), the key area's bytes (R133) and the nonvolatile store's writes (R159, R160). -/

namespace Sys2Proof.Machine

/-! ### Rounding and limits (00 "Rounding", "Limits") -/

/-- `n / d` rounded to the nearest integer, halves away from zero. -/
def roundDiv (n : Int) (d : Nat) : Int :=
  let q : Nat := (2 * n.natAbs + d) / (2 * d)
  if n < 0 then -(q : Int) else q

/-- `n / d` rounded to the nearest integer, halves up, for values that are not negative. -/
def roundNat (n d : Nat) : Nat := (2 * n + d) / (2 * d)

/-- `x` brought into `lo` to `hi`. -/
def clampNat (lo hi x : Nat) : Nat := if x < lo then lo else if hi < x then hi else x

/-- `x` brought into `lo` to `hi`. -/
def clampInt (lo hi x : Int) : Int := if x < lo then lo else if hi < x then hi else x

/-- The largest show number (R71). -/
def maxShow : Nat := 4294967295

/-! ### Byte fields (00 "Byte order", 11) -/

def u8 (n : Nat) : List Byte := [BitVec.ofNat 8 n]
def u16 (n : Nat) : List Byte := Half.bytes (BitVec.ofNat 16 n)
def u32 (n : Nat) : List Byte := Quad.bytes (BitVec.ofNat 32 n)
def s16 (i : Int) : List Byte := Half.bytes (BitVec.ofInt 16 i)
def s32 (i : Int) : List Byte := Quad.bytes (BitVec.ofInt 32 i)
/-- A yes or no (R185). -/
def flag (b : Bool) : List Byte := [if b then 1 else 0]
def zeros (n : Nat) : List Byte := List.replicate n 0

/-- A byte whose bit `i` is the `i`-th of the given answers: presence bytes and masks (R186). -/
def bitByte (bits : List Bool) : Byte := bits.foldr (fun b acc => (acc <<< 1) ||| (if b then 1 else 0)) 0

/-- An optional field's bytes: zero when absent (R186). -/
def optionalField {α : Type} (width : Nat) (enc : α → List Byte) : Option α → List Byte
  | none => zeros width
  | some x => enc x

/-- Bytes of a list at a fixed length: cut there, or filled up with `fill`. -/
def padTo (n : Nat) (fill : Byte) (bytes : List Byte) : List Byte :=
  bytes.take n ++ List.replicate (n - bytes.length) fill

/-! ### Check codes -/

/-- The bits of a byte, most significant first. -/
def bitsMsbFirst (b : Byte) : List Bool := [7, 6, 5, 4, 3, 2, 1, 0].map b.getLsbD

/-- The bits of a byte, least significant first. -/
def bitsLsbFirst (b : Byte) : List Bool := [0, 1, 2, 3, 4, 5, 6, 7].map b.getLsbD

/-- One bit of the port frame's CRC-16 (R176). -/
def crc16Bit (r : BitVec 16) (bit : Bool) : BitVec 16 :=
  if bit = r.msb then r <<< 1 else (r <<< 1) ^^^ 0x1021

/-- The CRC-16 of the port frame and the trim frame (R107, R176). -/
def crc16 (bytes : List Byte) : Half := (bytes.flatMap bitsMsbFirst).foldl crc16Bit 0xFFFF

/-- One bit of the CRC-32 (R132). -/
def crc32Bit (r : BitVec 32) (bit : Bool) : BitVec 32 :=
  if bit = r.getLsbD 0 then r >>> 1 else (r >>> 1) ^^^ 0xEDB88320

/-- The CRC-32 of key bodies and unit records (R132, R189). -/
def crc32 (bytes : List Byte) : Quad := ~~~ ((bytes.flatMap bitsLsbFirst).foldl crc32Bit 0xFFFFFFFF)

/-- One bit of the marker's CRC-8 (R120). -/
def crc8Bit (r : Byte) (bit : Bool) : Byte :=
  if bit = r.msb then r <<< 1 else (r <<< 1) ^^^ 0x07

/-- The CRC-8 of a marker's message bits (R120). -/
def crc8 (bits : List Bool) : Byte := bits.foldl crc8Bit 0

/-! ### The codes of R185 -/

/-- The status codes, in the order of the table in chapter 10. -/
inductive Status where
  | ok | unknownKind | badLength | badValue | wrongPhase | busy | full | tagInUse | unknownPatch | notReady | duplicateRow | noAim
  | discarded | noProfile | inUse | duplicate | keyExists | keyFixed | noKey | outOfOrder | noSpace | noRegion | conflict
  | keysPending | keysMissing | checkFail | nvFault | reworkLimit | serialMismatch | notCommissioned | denied | limit
  deriving DecidableEq, Repr

def Status.code : Status → Byte
  | .ok => 0x00 | .unknownKind => 0x01 | .badLength => 0x02 | .badValue => 0x03
  | .wrongPhase => 0x04 | .busy => 0x05 | .full => 0x06 | .tagInUse => 0x07
  | .unknownPatch => 0x08 | .notReady => 0x09 | .duplicateRow => 0x0A | .noAim => 0x0B
  | .discarded => 0x0C | .noProfile => 0x0D | .inUse => 0x0E | .duplicate => 0x0F
  | .keyExists => 0x10 | .keyFixed => 0x11 | .noKey => 0x12 | .outOfOrder => 0x13
  | .noSpace => 0x14 | .noRegion => 0x15 | .conflict => 0x16 | .keysPending => 0x17
  | .keysMissing => 0x18 | .checkFail => 0x19 | .nvFault => 0x1A | .reworkLimit => 0x1B
  | .serialMismatch => 0x1C | .notCommissioned => 0x1D | .denied => 0x1E | .limit => 0x1F

def CellState.code : CellState → Nat
  | .seeking => 0 | .locked => 1 | .stalled => 2 | .pinned => 3

def GridPhase.code : GridPhase → Nat
  | .coarse => 0 | .fine => 1

def UnitPhase.code : UnitPhase → Nat
  | .blank => 0 | .parked => 1 | .opened => 2 | .closing => 3 | .closed => 4

def SeqState.code : SeqState → Nat
  | .idle => 0 | .armed => 1 | .running => 2 | .stopping => 3

def ApplierMode.code : ApplierMode → Nat
  | .bypass => 0 | .working => 1 | .committed => 2

def KeyState.code : KeyState → Nat
  | .loading => 1 | .staged => 2 | .checkFailed => 3 | .fixed => 4 | .withdrawn => 5

def EndReason.code : EndReason → Nat
  | .timeout => 0 | .complete => 1 | .advanced => 2 | .halted => 3

/-- Why a run ended (R79, R83). -/
inductive RunEnd where
  | listEmpty | stopped | halted | limit
  deriving DecidableEq, Repr

def RunEnd.code : RunEnd → Nat
  | .listEmpty => 0 | .stopped => 1 | .halted => 2 | .limit => 3

def Verdict.code : Verdict → Nat
  | .pass => 0 | .fail => 1

def ResetCause.code : ResetCause → Nat
  | .powerOn => 0 | .brownOut => 1 | .pin => 2 | .request => 3

/-- The operation in flight by kind; 0 is none. -/
def NvOp.code : NvOp → Nat
  | .openWrite _ _ _ => 1 | .commit _ _ => 2 | .reopenWrite _ => 3 | .keyFix => 4 | .keyWithdraw => 5

def opCode : Option NvOp → Nat
  | none => 0
  | some op => op.code

def TimingSource.code : TimingSource → Nat
  | .input => 0 | .internal => 1

def ProfilePlace.code : ProfilePlace → Nat
  | .slot n => n | .committed => 8

def KeyClass.code : KeyClass → Nat
  | .content => 1 | .identity => 2 | .service => 3 | .platform => 4

def Quantity.code : Quantity → Nat
  | .uniformity => 0 | .worstError => 1 | .saturated => 2 | .satEver => 3 | .stalled => 4 | .unlocked => 5 | .zoneSpread => 6
  | .keys => 7 | .markerMatch => 8

/-- A class set's byte: bit (class − 1) for each member (R186). -/
def ClassSet.byte (c : ClassSet) : Byte := bitByte [c.content, c.identity, c.service, c.platform]

/-- The class set a byte names; its bits 4 to 7 are not read. -/
def ClassSet.ofByte (b : Byte) : ClassSet :=
  { content := b.getLsbD 0, identity := b.getLsbD 1, service := b.getLsbD 2, platform := b.getLsbD 3 }

def ClassSet.has (c : ClassSet) : KeyClass → Bool
  | .content => c.content | .identity => c.identity | .service => c.service | .platform => c.platform

/-- A mask's bits as SET_CHECK codes them (R187). -/
def Conditions.byte (c : Conditions) : Byte := bitByte [c.less, c.greater, c.equal, c.magLess, c.magGreater]

/-! ### Port frames (R175) -/

/-- A frame's bytes on the wire, from start byte to CRC. -/
def Frame.wire (f : Frame) : List Byte :=
  let covered := u16 (f.payload.length + 2) ++ f.kind :: f.tag :: f.payload
  0xA5 :: covered ++ Half.bytes (crc16 covered)

/-! ### Replies and reports (R180, R182) -/

def State.port (s : State) : Port → PortCtl
  | .station => s.station
  | .system => s.system

def State.setPort (s : State) : Port → PortCtl → State
  | .station, x => s.setStation x
  | .system, x => s.setSystem x

/-- A reply joins the reply queue of its port at the tail (R180). -/
def State.passReply (s : State) (p : Port) (f : Frame) : State :=
  s.setPort p { s.port p with replies := (s.port p).replies ++ [f] }

/-- The reply to a request of kind `kind` and tag `tag`: kind plus 0x80, the status, then the fields (R180, R185). -/
def replyFrame (kind tag : Byte) (status : Status) (fields : List Byte) : Frame :=
  { kind := kind + 0x80, tag := tag, payload := status.code :: fields }

/-- Form a reply and pass it to its port. -/
def State.reply (s : State) (p : Port) (kind tag : Byte) (status : Status) (fields : List Byte) : State :=
  s.passReply p (replyFrame kind tag status fields)

/-- A reply of status alone. -/
def State.refuse (s : State) (p : Port) (kind tag : Byte) (status : Status) : State := s.reply p kind tag status []

/-- A report joins the station port's report queue, or is dropped when the queue holds 16 (R182). -/
def State.emit (s : State) (f : Frame) : State :=
  if s.station.reports.length < 16 then s.setStation { s.station with reports := s.station.reports ++ [f] }
  else s.setStation { s.station with dropped := true }

/-- A report of the given kind, with tag 0 (R181). -/
def State.report (s : State) (kind : Byte) (payload : List Byte) : State :=
  s.emit { kind := kind, tag := 0, payload := payload }

/-- A choice of order that the spec leaves open, and the state that has made it (log 10). -/
def State.choose (s : State) (first second : State → State) : State :=
  if Config.eitherFirst s.choices then first (s.setChoices (s.choices + 1)) else second (s.setChoices (s.choices + 1))

/-! ### The transmitters (R181, R182) -/

/-- The frame is a STATUS reply that carries the status fields, the reports-dropped flag among them. A refused STATUS, which carries its
status alone, can carry no flag, and by the model's reading of R182 clears none (log 34). -/
def Frame.isStatusReply (f : Frame) : Bool := decide (f.kind = 0x81 ∧ f.payload.head? = some Status.ok.code)

/-- The frame as its transmission begins: a STATUS reply's reports-dropped flag is filled in then (R182). -/
def Frame.begun (f : Frame) (dropped : Bool) : Frame :=
  if f.isStatusReply then { f with payload := f.payload.dropLast ++ flag dropped } else f

/-- The reply at the head of a port's queue begins transmission. On the station port a STATUS reply clears the reports-dropped
flag as it begins; on the system port it leaves the flag as it is (R182). -/
def State.beginReply (s : State) (p : Port) : State :=
  match (s.port p).replies with
  | [] => s
  | f :: rest =>
    s.setPort p
      { s.port p with
        replies := rest
        sending := some (f.begun s.station.dropped)
        dropped := (s.port p).dropped && !f.isStatusReply }

/-- The report at the head of the report queue begins transmission. -/
def State.beginReport (s : State) : State :=
  match s.station.reports with
  | [] => s
  | f :: rest => s.setStation { s.station with reports := rest, sending := some f }

/-- What the arbiter starts on a port that has just finished a frame: a reply if one waits, else a report (R181). -/
def State.serveNext (s : State) (p : Port) : State :=
  match p with
  | .station => if s.station.replies = [] then s.beginReport else s.beginReply .station
  | .system => s.beginReply .system

/-- A port's arbiter at the end of an event (R181): a free transmitter starts the reply at the head of the reply queue, or else the
report at the head of the report queue. An event is one moment, so the reply goes first where one event passed both (log 9). -/
def State.arbitratePort (s : State) (p : Port) : State := if (s.port p).sending.isSome then s else s.serveNext p

/-- The arbiters of both ports at the end of an event (R181). -/
def State.arbitrate (s : State) : State := (s.arbitratePort .station).arbitratePort .system

/-! ### The key area's bytes (R133, R190) -/

/-- What a byte of the key area reads as until it is written (R190). -/
def blank : Byte := 0xFF

/-- The size of the key area (R133). -/
def areaSize : Nat := 16384

/-- One byte of the key area. -/
def Cells.read : List Host.Cell → Nat → Byte
  | [], _ => blank
  | (a, b) :: rest, x => if a = x then b else Cells.read rest x

/-- `n` bytes of the key area from offset `x`. -/
def Cells.readAll (cells : List Host.Cell) (x : Nat) : Nat → List Byte
  | 0 => []
  | n + 1 => Cells.read cells x :: Cells.readAll cells (x + 1) n

/-- Enter a byte that is not blank, keeping the offsets rising. -/
def Cells.put : List Host.Cell → Nat → Byte → List Host.Cell
  | [], x, b => [(x, b)]
  | (a, c) :: rest, x, b =>
    if x < a then (x, b) :: (a, c) :: rest
    else if x = a then (x, b) :: rest
    else (a, c) :: Cells.put rest x b

/-- Write one byte. A written byte can never be made blank again (R133), and the area ends at 16,384. -/
def Cells.write (cells : List Host.Cell) (x : Nat) (b : Byte) : List Host.Cell :=
  if b = blank ∨ areaSize ≤ x then cells else Cells.put cells x b

/-- Write bytes at rising offsets from `x`. -/
def Cells.writeAll (cells : List Host.Cell) (x : Nat) : List Byte → List Host.Cell
  | [] => cells
  | b :: rest => Cells.writeAll (Cells.write cells x b) (x + 1) rest

/-- The canonical form: offsets rise and lie in the area, and no listed byte is blank. -/
def Cells.wf : List Host.Cell → Bool
  | [] => true
  | (a, b) :: rest =>
    decide (a < areaSize) && decide (b ≠ blank) && (match rest with | [] => true | (c, _) :: _ => decide (a < c)) && Cells.wf rest

/-! ### Writes to the store (R159, R160) -/

/-- A write begins. -/
def NvStore.beginWrite (nv : NvStore) (place : NvPlace) (data : List Byte) : NvStore :=
  { nv with write := some { place := place, data := data } }

/-- The bytes a write left where it went. What it left beyond the bytes given is blank (log 25). -/
def landed (outcome : WriteOutcome) (data : List Byte) : List Byte :=
  match outcome with
  | .whole => data
  | .torn left => padTo data.length blank left

/-- The store once the write in flight has ended, whole or cut short. A copy or record not written whole is left without a
matching check code (R159), or partial and not read (R161). -/
def NvStore.endWrite (nv : NvStore) (outcome : WriteOutcome) : NvStore :=
  match nv.write with
  | none => nv
  | some w =>
    let record : Option (List Byte) := if outcome = .whole then some w.data else none
    match w.place with
    | .copyA => { nv with copyA := record, write := none }
    | .copyB => { nv with copyB := record, write := none }
    | .gridRecord => { nv with gridRecord := record, write := none }
    | .regionRecord => { nv with regionRecord := record, write := none }
    | .tuningRecord => { nv with tuningRecord := record, write := none }
    | .keyArea offset => { nv with keyArea := Cells.writeAll nv.keyArea offset (landed outcome w.data), write := none }

/-- Begin a write of one of the unit controller's records or of the key table. -/
def State.beginWrite (s : State) (place : NvPlace) (data : List Byte) : State := s.setNv (s.nv.beginWrite place data)

end Sys2Proof.Machine
end

