-- ==== Sys2Proof/Machine/Operands.lean ====
section
/-! DEFINITION. From payload fields to values, and back: ranges that refuse and ranges that clamp (R5, R8, R69, R110, R130, R147), and the
record layouts that requests, replies and the store share (11.3, 11.4, R188 to R190). -/

namespace Sys2Proof.Machine

/-! ### Tuning records (R5, R6) -/

/-- The fields of a SET_TUNING as values, before clamping. -/
def tuningGiven (f : TuningFields) : Tuning :=
  { k := f.k.toNat, kz := f.kz.toNat, kr := f.kr.toNat, fineBand := f.fineBand.toNat, lockWindow := f.lockWindow.toNat,
    lockCount := f.lockCount.toNat, lockShift := f.lockShift.toNat, iterationLimit := f.iterationLimit.toNat,
    progressIndex := f.progressIndex.toNat, gmin := f.gmin.toNat, gmax := f.gmax.toNat, zmin := f.zmin.toNat, zmax := f.zmax.toNat }

/-- Each field brought into its range; W against the F that results from F's own clamping (R6). -/
def Tuning.clamped (t : Tuning) : Tuning :=
  let fineBand := clampNat 1 2048 t.fineBand
  { k := clampNat 1 64 t.k, kz := clampNat 1 64 t.kz, kr := clampNat 0 63 t.kr, fineBand := fineBand,
    lockWindow := clampNat 1 fineBand t.lockWindow, lockCount := clampNat 1 8 t.lockCount, lockShift := clampNat 0 3 t.lockShift,
    iterationLimit := clampNat 1 63 t.iterationLimit, progressIndex := clampNat 0 15 t.progressIndex,
    gmin := clampNat 1024 2048 t.gmin, gmax := clampNat 2048 4095 t.gmax, zmin := clampNat 64 128 t.zmin,
    zmax := clampNat 128 255 t.zmax }

/-- A tuning record's 17 bytes (R187, 11.4). -/
def Tuning.bytes (t : Tuning) : List Byte :=
  u8 t.k ++ u8 t.kz ++ u8 t.kr ++ u16 t.fineBand ++ u16 t.lockWindow ++ u8 t.lockCount ++ u8 t.lockShift ++ u8 t.iterationLimit ++
    u8 t.progressIndex ++ u16 t.gmin ++ u16 t.gmax ++ u8 t.zmin ++ u8 t.zmax

/-- The tuning record that 17 stored bytes hold. -/
def Tuning.ofBytes (bytes : List Byte) : Option Tuning :=
  match parseRequest 0x20 bytes with
  | some (.setTuning f) => some (tuningGiven f)
  | _ => none

/-! ### Aims and level codes (R8, R19) -/

/-- An aim of 65535 is taken as 65534 (R8). -/
def aimGiven (a : Half) : Nat := if a.toNat = 65535 then 65534 else a.toNat

/-- Five codes, strictly increasing within 1 to 1023 (R19). -/
def levelsValid : List Nat → Bool
  | [a, b, c, d, e] => decide (1 ≤ a ∧ a < b ∧ b < c ∧ c < d ∧ d < e ∧ e ≤ 1023)
  | _ => false

/-! ### Patch records (R67, R69) -/

/-- A record as it joins the patch list, with settle frames and hold limit clamped (R69). -/
def patchGiven (patchTag slice settle : Byte) (hold : Half) (auto : Byte) : Patch :=
  { tag := patchTag.toNat, slice := slice.toNat, settleFrames := clampNat 1 60 settle.toNat, holdLimit := clampNat 1 1200 hold.toNat,
    autoAdvance := decide (auto = 1), showNumber := none, subPhase := none, settleCounter := 0, holdCount := 0, ready := false,
    received := [], completed := [], endReason := none }

/-! ### Region profiles (R110) -/

/-- Every field lies within the values of R110; a class set byte has bits 4 to 7 clear (R186). -/
def profileValid (f : ProfileFields) : Bool :=
  decide (1 ≤ f.code.toNat ∧ f.code.toNat ≤ 999) && decide (f.mains = 50 ∨ f.mains = 60) &&
    decide (1 ≤ f.ceiling.toNat ∧ f.ceiling.toNat ≤ 65534) && decide (f.required.toNat < 16) && decide (f.release.toNat < 16) &&
    [f.language0, f.language1, f.language2].all (fun l => decide (0x41 ≤ l.toNat ∧ l.toNat ≤ 0x5A))

/-- The profile that the fields of a profile record give. -/
def profileGiven (f : ProfileFields) : Profile :=
  { code := f.code.toNat, mains := f.mains.toNat, ceiling := f.ceiling.toNat, required := .ofByte f.required,
    release := .ofByte f.release, bandPlan := f.bandPlan, language := [f.language0, f.language1, f.language2] }

/-- A profile record's 11 bytes (11.4). -/
def Profile.bytes (p : Profile) : List Byte :=
  u16 p.code ++ u8 p.mains ++ u16 p.ceiling ++ [p.required.byte, p.release.byte, p.bandPlan] ++ padTo 3 0 p.language

/-- The profile that 11 stored bytes hold. -/
def Profile.ofBytes (bytes : List Byte) : Option Profile :=
  match parseRequest 0x40 (0 :: bytes) with
  | some (.loadProfile _ f) => some (profileGiven f)
  | _ => none

/-! ### Keys (R128, R130) -/

def KeyClass.ofNat? : Nat → Option KeyClass
  | 1 => some .content
  | 2 => some .identity
  | 3 => some .service
  | 4 => some .platform
  | _ => none

/-- A region list that may be sent: at most four distinct codes, each 1 to 999; an empty one is an absent one (R130, R190). -/
def regionListValid (regions : List Half) : Bool :=
  decide (regions.length ≤ 4) && decide (regions.Nodup) && regions.all (fun c => decide (1 ≤ c.toNat ∧ c.toNat ≤ 999))

/-- The region list given, absent when empty. -/
def regionListGiven (regions : List Half) : Option (List Nat) := if regions = [] then none else some (regions.map (·.toNat))

/-! ### Serial numbers (R165) -/

/-- A serial number of 1 to 24 characters, each 0x20 to 0x7E. -/
def serialValid (serial : List Byte) : Bool :=
  decide (1 ≤ serial.length ∧ serial.length ≤ 24) && serial.all (fun c => decide (0x20 ≤ c.toNat ∧ c.toNat ≤ 0x7E))

/-! ### Check slots (R146, R147) -/

def Quantity.ofNat? : Nat → Option Quantity
  | 0 => some .uniformity
  | 1 => some .worstError
  | 2 => some .saturated
  | 3 => some .satEver
  | 4 => some .stalled
  | 5 => some .unlocked
  | 6 => some .zoneSpread
  | 7 => some .keys
  | 8 => some .markerMatch
  | _ => none

/-- The argument suits the quantity (R147). -/
def argumentSuits : Quantity → Nat → Bool
  | .keys, a => decide (1 ≤ a ∧ a ≤ 4)
  | .zoneSpread, a => decide (a = 0)
  | .markerMatch, a => decide (a = 0)
  | _, a => decide (a ≤ 15)

def Conditions.ofByte (b : Byte) : Conditions :=
  { less := b.getLsbD 0, greater := b.getLsbD 1, equal := b.getLsbD 2, magLess := b.getLsbD 3, magGreater := b.getLsbD 4 }

/-- The slot record a SET_CHECK carries, or nothing where R147's checks 2 and 3 refuse a field. -/
def checkGiven (f : CheckFields) : Option CheckSlot :=
  match Quantity.ofNat? f.quantity.toNat with
  | none => none
  | some q =>
    if f.mask.toNat < 32 ∧ f.absent.toNat ≤ 1 ∧ argumentSuits q f.argument.toNat = true then
      some { quantity := q, argument := f.argument.toNat, limit := f.limit.toInt, mask := .ofByte f.mask,
             absent := if f.absent = 0 then .pass else .fail }
    else none

/-- A slot record's 8 bytes, in the layout of the request (R188). -/
def CheckSlot.bytes (c : CheckSlot) : List Byte :=
  u8 c.quantity.code ++ u8 c.argument ++ s32 c.limit ++ [c.mask.byte] ++ u8 c.absent.code

/-! ### Station identities and serial numbers in records -/

/-- An identity's line and station bytes; zero when absent (R186). -/
def identityBytes : Option StationId → List Byte := optionalField 3 (fun i => u8 i.line ++ u16 i.station)

/-- A serial number as a count and its characters (R186); nothing but a count of 0 when absent. -/
def serialText : Option (List Byte) → List Byte
  | none => [0]
  | some s => u8 s.length ++ s

/-- A serial number as a count and 24 character bytes (R188, R189). -/
def serialField : Option (List Byte) → List Byte
  | none => zeros 25
  | some s => u8 s.length ++ padTo 24 0 s

/-! ### Unit records (R159, R189) -/

/-- The phase mark of a unit record. -/
inductive Mark where
  | opened | closing | closed
  deriving DecidableEq, Repr

def Mark.code : Mark → Nat
  | .opened => 1 | .closing => 2 | .closed => 3

/-- A unit record (R159). -/
structure UnitRecord where
  generation : Nat
  mark : Mark
  rework : Nat
  serial : List Byte
  identity : Option StationId
  deriving DecidableEq, Repr

/-- The generation's 4 bytes; past 4 bytes the spec gives no value (log 16). -/
def generationBytes (g : Nat) : List Byte :=
  if g ≤ 4294967295 then u32 g else Quad.bytes (Config.generationBeyondField g)

/-- The first 35 bytes of a copy (R189). -/
def UnitRecord.content (r : UnitRecord) : List Byte :=
  generationBytes r.generation ++ u8 r.mark.code ++ u8 r.rework ++ serialField (some r.serial) ++ flag r.identity.isSome ++
    identityBytes r.identity

/-- A copy's 39 bytes, the check code last (R189). -/
def UnitRecord.bytes (r : UnitRecord) : List Byte := r.content ++ Quad.bytes (crc32 r.content)

/-- The record a copy holds when it is valid: its check code equals the CRC-32 of its first 35 bytes and its mark is 1 to 3 (R189). A
serial count of 0 or above 24 leaves it valid, with the serial cut to the 24 characters there are: the model's choice (log 35). -/
def UnitRecord.ofBytes (bytes : List Byte) : Option UnitRecord :=
  match bytes with
  | g0 :: g1 :: g2 :: g3 :: mark :: rework :: count :: rest =>
    if bytes.length = 39 ∧ bytes.drop 35 = Quad.bytes (crc32 (bytes.take 35)) then
      let record (m : Mark) : UnitRecord :=
        { generation := (quad g0 g1 g2 g3).toNat, mark := m, rework := rework.toNat, serial := (rest.take 24).take count.toNat,
          identity :=
            if (rest.getD 24 0).getLsbD 0 then
              some { line := (rest.getD 25 0).toNat, station := (half (rest.getD 26 0) (rest.getD 27 0)).toNat }
            else none }
      match mark.toNat with
      | 1 => some (record .opened)
      | 2 => some (record .closing)
      | 3 => some (record .closed)
      | _ => none
    else none
  | _ => none

/-! ### Grid records (11.4) -/

/-- The grid record's bytes: the gains by slice and node, the trims by zone, the level codes. -/
def GridImage.bytes (g : GridImage) : List Byte :=
  g.gains.flatMap (fun slice => slice.flatMap u16) ++ g.trims.flatMap u8 ++ g.levels.flatMap u16

/-- `count` 2-byte values from the front of `bytes`; a missing byte reads as zero. -/
def valuesOf : Nat → List Byte → List Nat
  | 0, _ => []
  | n + 1, bytes => (half (bytes.getD 0 0) (bytes.getD 1 0)).toNat :: valuesOf n (bytes.drop 2)

/-- The gains, trims and level codes that a grid record's bytes hold. -/
def GridImage.ofBytes (bytes : List Byte) : GridImage :=
  { gains := (List.range 15).map (fun s => valuesOf 576 (bytes.drop (1152 * s)))
    trims := (List.range 144).map (fun z => (bytes.getD (17280 + z) 0).toNat)
    levels := valuesOf 5 (bytes.drop 17424) }

/-! ### The header of a key's space (R135, R190) -/

/-- The bytes a key takes in the area: 32 header bytes and its length rounded up to a multiple of 16 (R133). -/
def footprint (length : Nat) : Nat := 32 + 16 * ((length + 15) / 16)

/-- A space word: the footprint and its ones' complement. -/
def spaceWord (size : Nat) : List Byte := u16 size ++ Half.bytes (~~~ (BitVec.ofNat 16 size))

/-- The header fields of step 2, at offsets 4 to 21 of the space; unused region places stay blank (R190). -/
def KeyEntry.header (e : KeyEntry) : List Byte :=
  let codes := e.regions.getD []
  u16 e.id ++ u8 e.cls.code ++ u8 codes.length ++ u16 e.length ++ Quad.bytes e.check ++ padTo 8 blank (codes.flatMap u16)

/-- The completion mark (R190). -/
def completionMark : Byte := 0x5A

/-- The withdraw mark KEY_WITHDRAW writes (R190). -/
def withdrawMark : Byte := 0x00

/-- What a space word says at an offset (R135). -/
inductive SpaceReading where
  | length (size : Nat)
  | blankWord
  | torn
  deriving DecidableEq, Repr

/-- Read a space word's four bytes at `offset` (R135). -/
def readSpaceWord (offset : Nat) (word : List Byte) : SpaceReading :=
  match word with
  | [a, b, c, d] =>
    let size := (half a b).toNat
    if half c d = ~~~ (half a b) ∧ size % 16 = 0 ∧ 48 ≤ size ∧ size ≤ 1056 ∧ offset + size ≤ areaSize then .length size
    else if a = blank ∧ b = blank ∧ c = blank ∧ d = blank then .blankWord
    else .torn
  | _ => .torn

end Sys2Proof.Machine
end

