-- ==== Sys2Proof/Machine/Flags.lean ====
section
/-! DEFINITION. The flags the part computes: clamped flags (R6, R8, R69), sticky saturation flags (R15), the trim output's dirty flag
(R104), and the region unit's conflict flag and unknown condition (R116, R117). -/

namespace Sys2Proof.Machine

/-- SET_TUNING's clamped flag: some field was changed by clamping (R6). -/
def tuningClampedFlag (f : TuningFields) : Bool := decide ((tuningGiven f).clamped ≠ tuningGiven f)

/-- SET_AIMS's clamped flag: some aim was 65535 (R8). -/
def aimsClampedFlag (aims : List Half) : Bool := aims.any (fun a => decide (a.toNat = 65535))

/-- PATCH_APPEND's clamped flag: settle frames or hold limit was changed (R69). -/
def patchClampedFlag (settle : Byte) (hold : Half) : Bool :=
  decide (clampNat 1 60 settle.toNat ≠ settle.toNat ∨ clampNat 1 1200 hold.toNat ≠ hold.toNat)

/-- The sticky flags with `slice`'s set when `clamped` (R15). -/
def stickyAfter (sticky : List Bool) (slice : Nat) (clamped : Bool) : List Bool :=
  if clamped then sticky.set slice true else sticky

/-- The dirty flag after working trims become `after`: set when one took a different value while the mode is WORKING (R104). -/
def dirtyAfter (dirty : Bool) (mode : ApplierMode) (before after : List Nat) : Bool :=
  dirty || (decide (mode = .working) && decide (before ≠ after))

/-- The conflict flag (R116). -/
def conflictFlag (given sensed : Nat) (sensedValid : Bool) : Bool :=
  decide (given ≠ 0) && sensedValid && decide (sensed ≠ given)

/-- The unknown condition (R117). `profiled` says that SENSED has a profile. -/
def unknownCondition (phase : UnitPhase) (given : Nat) (sensedValid profiled : Bool) : Bool :=
  decide (phase = .opened) && decide (given = 0) && sensedValid && !profiled

/-- A two-byte mask with bit `i` set where the `i`-th answer is yes (R188). -/
def maskOf (bits : List Bool) : Nat := bits.foldr (fun b acc => 2 * acc + (if b then 1 else 0)) 0

end Sys2Proof.Machine
end

