-- ==== Sys2Proof/Machine/Loop.lean ====
section
/-! DEFINITION. The arithmetic of the convergence loop (02): what one count does to a node, a white node and a zone, as functions of
records. -/

namespace Sys2Proof.Machine

/-- What the loop takes from the tuning record: the fine loop's fields, or the zone loop's (R46). -/
structure LoopParams where
  gain : Nat
  reduction : Nat
  fineBand : Nat
  lockWindow : Nat
  lockCount : Nat
  lockShift : Nat
  iterationLimit : Nat
  low : Nat
  high : Nat
  deriving DecidableEq, Repr

/-- The fine loop: gain k, reduction the smaller of kr and k − 1, limits gmin and gmax (R33, R36). -/
def Tuning.fineLoop (t : Tuning) : LoopParams :=
  { gain := t.k, reduction := min t.kr (t.k - 1), fineBand := t.fineBand, lockWindow := t.lockWindow, lockCount := t.lockCount,
    lockShift := t.lockShift, iterationLimit := t.iterationLimit, low := t.gmin, high := t.gmax }

/-- The zone loop: gain kz, reduction kr, limits zmin and zmax (R46). -/
def Tuning.zoneLoop (t : Tuning) : LoopParams :=
  { gain := t.kz, reduction := t.kr, fineBand := t.fineBand, lockWindow := t.lockWindow, lockCount := t.lockCount,
    lockShift := t.lockShift, iterationLimit := t.iterationLimit, low := t.zmin, high := t.zmax }

/-- The error of a usable count `m` under a nonzero aim (R29). -/
def errorOf (aim m : Nat) : Int := clampInt (-4096) 4096 (roundDiv (((aim : Int) - m) * 4096) aim)

/-- The shaped loop gain for an error of the given magnitude (R33), never below 1 (R46). -/
def shapedGain (p : LoopParams) (magnitude : Nat) : Nat :=
  let shaped : Int :=
    if 2 * p.fineBand ≤ magnitude then p.gain
    else if p.fineBand < magnitude then
      (p.gain : Int) - ((p.reduction * (2 * p.fineBand - magnitude) / p.fineBand : Nat) : Int)
    else (p.gain : Int) - p.reduction
  (max 1 shaped).toNat

/-- The lock streak after an error (R32). -/
def streakAfter (p : LoopParams) (streak : Nat) (e : Int) : Nat :=
  if e.natAbs ≤ p.lockWindow then min (streak + 1) p.lockCount else 0

/-- The node or zone was LOCKED and this error unlocks it (R32). -/
def unlocks (p : LoopParams) (state : CellState) (e : Int) : Bool :=
  decide (state = .locked) && decide (2 * p.lockWindow < e.natAbs)

/-- The node or zone is LOCKED after R32. -/
def lockedAfter (p : LoopParams) (c : Cell) (e : Int) : Bool :=
  (decide (c.state = .locked) && !unlocks p c.state e) ||
    (decide (c.state = .seeking) && decide (streakAfter p c.streak e = p.lockCount))

/-- The loop gain in force for the step: the shaped gain, or the locked rate (R34). -/
def effectiveGain (p : LoopParams) (c : Cell) (e : Int) : Nat :=
  let shaped := shapedGain p e.natAbs
  if lockedAfter p c e then max 1 (shaped / 2 ^ p.lockShift) else shaped

/-- The step, at least one unit outside the lock window (R35). -/
def stepOf (p : LoopParams) (value : Nat) (e : Int) (gain : Nat) : Int :=
  let rounded := roundDiv (e * value * gain) 262144
  if rounded = 0 ∧ p.lockWindow < e.natAbs then e.sign else rounded

/-- The value before the limits: the present value plus the step (R36). -/
def loopTarget (p : LoopParams) (c : Cell) (e : Int) : Int := (c.value : Int) + stepOf p c.value e (effectiveGain p c e)

/-- The step was clamped at a limit (R36). -/
def loopClamped (p : LoopParams) (c : Cell) (e : Int) : Bool :=
  decide (loopTarget p c e < p.low) || decide ((p.high : Int) < loopTarget p c e)

/-- The iterations after an update: counted from 0 on unlocking, one more while SEEKING, unchanged when LOCKED (R32, R38). -/
def iterationsAfter (p : LoopParams) (c : Cell) (e : Int) : Nat :=
  let before := if unlocks p c.state e then 0 else c.iterations
  if lockedAfter p c e then before else before + 1

/-- One applied update of a SEEKING or LOCKED node or zone (R32 to R38, R46), stamped with the current show number (R26). -/
def loopUpdate (p : LoopParams) (showNow : Nat) (e : Int) (c : Cell) : Cell :=
  let value := (clampInt p.low p.high (loopTarget p c e)).toNat
  { value := value
    state :=
      if lockedAfter p c e then .locked
      else if p.iterationLimit ≤ iterationsAfter p c e then .stalled
      else .seeking
    streak := if unlocks p c.state e then 0 else streakAfter p c.streak e
    iterations := iterationsAfter p c e
    appliedAt := if value = c.value then c.appliedAt else showNow
    saturated := loopClamped p c e }

/-- The four outcomes of a count (R24). -/
inductive CountOutcome where
  | applied | stale | recordedOnly | unusable
  deriving DecidableEq, Repr

/-- What one count did: the record after it, its outcome, whether a step was clamped, whether a zone took an update. -/
structure CountResult (α : Type) where
  after : α
  outcome : CountOutcome
  clamped : Bool
  updated : Bool
  deriving DecidableEq, Repr

/-- One colour count `m` of a row with show number `rowShow`, under the row's effective aim (section 2.2). -/
def fineCount (t : Tuning) (aim rowShow showNow m : Nat) (n : NodeRec) : CountResult NodeRec :=
  if m = 65535 then { after := n, outcome := .unusable, clamped := false, updated := false }
  else if aim = 0 then
    { after := { n with lastMeasured := some m }, outcome := .recordedOnly, clamped := false, updated := false }
  else
    let e := errorOf aim m
    let recorded : NodeRec := { n with lastMeasured := some m, lastError := some e }
    if n.cell.state = .stalled ∨ n.cell.state = .pinned then
      { after := recorded, outcome := .recordedOnly, clamped := false, updated := false }
    else if n.cell.appliedAt < rowShow then
      { after := { recorded with cell := loopUpdate t.fineLoop showNow e n.cell }, outcome := .applied,
        clamped := loopClamped t.fineLoop n.cell e, updated := false }
    else { after := recorded, outcome := .stale, clamped := false, updated := false }

/-- The white node stage (R42). -/
def whiteStage (aim rowShow m : Nat) (w : WhiteRec) : WhiteRec :=
  if m = 65535 then w
  else if aim = 0 then { w with lastMeasured := some m, heldShow := some rowShow }
  else { lastMeasured := some m, lastError := some (errorOf aim m), heldShow := some rowShow }

/-- An empty pending set (R45, R48). -/
def ZoneRec.emptied (z : ZoneRec) : ZoneRec :=
  { z with pendingSum := 0, pendingCount := 0, pendingShow := none, pendingShort := false }

/-- The zone with its pending set settled for show number `rowShow` (R44): continued, or opened anew. -/
def ZoneRec.settled (z : ZoneRec) (rowShow : Nat) : ZoneRec :=
  if z.pendingShow = some rowShow then z
  else { z with pendingSum := 0, pendingCount := 0, pendingShow := some rowShow, pendingShort := false }

/-- The count belongs to a picture older than the zone's last change or than the set being gathered (R44). -/
def ZoneRec.outdated (z : ZoneRec) (rowShow : Nat) : Bool :=
  decide (rowShow ≤ z.cell.appliedAt) ||
    (match z.pendingShow with | some pending => decide (rowShow < pending) | none => false)

/-- The zone update of a whole set (R45, R46): from the mean of its four errors, the set then emptied. -/
def ZoneRec.update (t : Tuning) (showNow : Nat) (z : ZoneRec) : ZoneRec :=
  { z.emptied with cell := loopUpdate t.zoneLoop showNow (roundDiv z.pendingSum 4) z.cell }

/-- The zone stage of a white count in phase COARSE (R44 to R46). `reading` is the error of a usable count under its aim, or
absent for a count of 65535. -/
def zoneStage (t : Tuning) (rowShow showNow : Nat) (reading : Option Int) (z : ZoneRec) : CountResult ZoneRec :=
  let left (usable : CountOutcome) (z' : ZoneRec) : CountResult ZoneRec :=
    { after := z', outcome := if reading.isSome then usable else .unusable, clamped := false, updated := false }
  if z.cell.state = .stalled ∨ z.cell.state = .pinned then left .recordedOnly z
  else if z.outdated rowShow then left .stale z
  else
    let opened := z.settled rowShow
    match reading with
    | none => left .stale { opened with pendingShort := true }
    | some e =>
      if opened.pendingShort then left .recordedOnly opened
      else
        let gathered : ZoneRec :=
          { opened with pendingSum := opened.pendingSum + e, pendingCount := opened.pendingCount + 1 }
        if gathered.pendingCount = 4 then
          { after := gathered.update t showNow, outcome := .applied,
            clamped := loopClamped t.zoneLoop gathered.cell (roundDiv gathered.pendingSum 4), updated := true }
        else { after := gathered, outcome := .applied, clamped := false, updated := false }

/-- The zone's part of a white count (the table that ends section 2.4): the phase and the aim first, then the zone stage. -/
def zoneCount (t : Tuning) (phase : GridPhase) (aim rowShow showNow m : Nat) (z : ZoneRec) : CountResult ZoneRec :=
  if m ≠ 65535 ∧ aim = 0 then { after := z, outcome := .recordedOnly, clamped := false, updated := false }
  else if phase = .fine then
    { after := z, outcome := if m = 65535 then .unusable else .recordedOnly, clamped := false, updated := false }
  else zoneStage t rowShow showNow (if m = 65535 then none else some (errorOf aim m)) z

/-- A tally with one more count of the given outcome (R24). -/
def Tally.count (t : Tally) (outcome : CountOutcome) (updated : Bool) : Tally :=
  let t1 : Tally := if updated then { t with zonesUpdated := t.zonesUpdated + 1 } else t
  match outcome with
  | .applied => { t1 with applied := t1.applied + 1 }
  | .stale => { t1 with stale := t1.stale + 1 }
  | .recordedOnly => { t1 with recordedOnly := t1.recordedOnly + 1 }
  | .unusable => { t1 with unusable := t1.unusable + 1 }

def Tally.zero : Tally := { applied := 0, stale := 0, recordedOnly := 0, unusable := 0, zonesUpdated := 0 }

end Sys2Proof.Machine
end

