-- ==== Sys2Proof/Machine/Grid.lean ====
section
/-! DEFINITION. Grid memory (01): access to its records, the effective aims and what their change does (R9, R10), the re-clamp (R7), pins
(R11, R12), the items held between rows (R13), restarts (R16, R18), and the replies of its requests. -/

namespace Sys2Proof.Machine

/-! ### Records -/

/-- A slice's node records; none for a slice that is no colour slice. -/
def Grid.slice (g : Grid) (slice : Nat) : List NodeRec := g.colour.getD slice []

/-- Node record `n` of a colour slice. -/
def Grid.node (g : Grid) (slice n : Nat) : NodeRec := (g.slice slice).getD n .fresh

/-- White node record `n`. -/
def Grid.whiteNode (g : Grid) (n : Nat) : WhiteRec := g.white.getD n .fresh

/-- Zone record `z`. -/
def Grid.zone (g : Grid) (z : Nat) : ZoneRec := g.zones.getD z .fresh

/-- The zone that contains node `n` (00 "Zone index"). -/
def zoneOf (n : Nat) : Nat := (n / 32 / 2) * 16 + n % 32 / 2

/-- Replace one node record. -/
def Grid.putNode (g : Grid) (slice n : Nat) (r : NodeRec) : Grid :=
  { g with colour := g.colour.set slice ((g.slice slice).set n r) }

/-- Replace one white node record. -/
def Grid.putWhite (g : Grid) (n : Nat) (r : WhiteRec) : Grid := { g with white := g.white.set n r }

/-- The working grid's trims, in zone order. -/
def trimsOf (zones : List ZoneRec) : List Nat := zones.map (·.cell.value)

/-- Replace the zone records; a trim that takes a different value in mode WORKING sets the dirty flag (R104). -/
def State.putZones (s : State) (zones : List ZoneRec) : State :=
  (s.setTrim { s.trim with dirty := dirtyAfter s.trim.dirty s.applier.mode (trimsOf s.grid.zones) (trimsOf zones) }).setGrid
    { s.grid with zones := zones }

/-- The colour gains by slice and node. -/
def Grid.gains (g : Grid) : List (List Nat) := g.colour.map (fun slice => slice.map (·.cell.value))

/-- The working grid as an image: gains, trims and level codes (R95, R168). -/
def Grid.image (g : Grid) : GridImage := { gains := g.gains, trims := trimsOf g.zones, levels := g.levels }

/-- A slice's sticky saturation flag (R15). -/
def Grid.stickyFlag (g : Grid) (slice : Nat) : Bool := g.sticky.getD slice false

/-! ### Effective aims (R9, R10) -/

/-- A slice's effective aim under an aim table and a white ceiling (R9). -/
def effectiveAim (aims : List Nat) (ceiling : Option Nat) (slice : Nat) : Nat :=
  let aim := aims.getD slice 0
  if slice = 15 ∧ aim ≠ 0 then
    match ceiling with
    | some limit => min aim limit
    | none => aim
  else aim

/-- A slice's effective aim in force. -/
def Grid.effectiveAim (g : Grid) (slice : Nat) : Nat := Machine.effectiveAim g.aims g.ceiling slice

/-- A node or zone when its slice's effective aim changes (R10). -/
def Cell.retargeted (c : Cell) : Cell :=
  match c.state with
  | .locked | .stalled => { c with state := .seeking, streak := 0, iterations := 0 }
  | .seeking => { c with streak := 0 }
  | .pinned => c

def NodeRec.retargeted (n : NodeRec) : NodeRec := { n with cell := n.cell.retargeted }

/-- A zone when slice 15's effective aim changes (R10); its trim stays. -/
def ZoneRec.retargeted (z : ZoneRec) : ZoneRec := { z.emptied with cell := z.cell.retargeted }

/-- For each slice, whether its effective aim changes under a new aim table and ceiling. -/
def Grid.aimChanges (g : Grid) (aims : List Nat) (ceiling : Option Nat) : List Bool :=
  (List.range 16).map (fun s => decide (Machine.effectiveAim aims ceiling s ≠ g.effectiveAim s))

/-- A new aim table and white ceiling take force, with the effects of R10 on each slice whose effective aim changes. -/
def Grid.retarget (g : Grid) (aims : List Nat) (ceiling : Option Nat) : Grid :=
  let changed := g.aimChanges aims ceiling
  { g with
    aims := aims
    ceiling := ceiling
    colour := List.zipWith (fun slice (c : Bool) => if c then slice.map NodeRec.retargeted else slice) g.colour (changed.take 15)
    zones := if changed.getD 15 false then g.zones.map ZoneRec.retargeted else g.zones }

/-! ### The re-clamp (R7) -/

/-- A cell brought into the limits, moved or not (R7, R12): a move sets saturated and stamps applied_at. -/
def Cell.limited (low high showNow : Nat) (c : Cell) : Cell :=
  let value := clampNat low high c.value
  if value = c.value then c else { c with value := value, saturated := true, appliedAt := showNow }

/-- The cell's value lies outside the limits. -/
def Cell.outside (low high : Nat) (c : Cell) : Bool := decide (clampNat low high c.value ≠ c.value)

/-- The cell's lock streak cut to C (R7). -/
def Cell.cut (lockCount : Nat) (c : Cell) : Cell := { c with streak := min c.streak lockCount }

/-- A node that the re-clamp moves (R7). -/
def NodeRec.moves (t : Tuning) (n : NodeRec) : Bool := decide (n.cell.state ≠ .pinned) && n.cell.outside t.gmin t.gmax

def NodeRec.reclamped (t : Tuning) (showNow : Nat) (n : NodeRec) : NodeRec :=
  { n with
    cell := (if n.cell.state = .pinned then n.cell else n.cell.limited t.gmin t.gmax showNow).cut t.lockCount }

def ZoneRec.reclamped (t : Tuning) (showNow : Nat) (z : ZoneRec) : ZoneRec :=
  { z with cell := (z.cell.limited t.zmin t.zmax showNow).cut t.lockCount }

/-- The number of gains the re-clamp moves. -/
def Grid.gainsMoved (g : Grid) (t : Tuning) : Nat := (g.colour.map (fun slice => slice.countP (NodeRec.moves t))).sum

/-- The number of trims the re-clamp moves. -/
def Grid.trimsMoved (g : Grid) (t : Tuning) : Nat := g.zones.countP (fun z => z.cell.outside t.zmin t.zmax)

/-- The sticky flags after the re-clamp (R7, R15). -/
def Grid.reclampedSticky (g : Grid) (t : Tuning) : List Bool :=
  List.zipWith (fun flag (moved : Bool) => flag || moved) g.sticky
    (g.colour.map (fun slice => slice.any (NodeRec.moves t)) ++ [g.zones.any (fun z => z.cell.outside t.zmin t.zmax)])

/-- A new tuning record takes force and the grid is brought into agreement with it (R6, R7). -/
def State.retune (s : State) (t : Tuning) : State :=
  let g := s.grid
  (s.putZones (g.zones.map (ZoneRec.reclamped t s.seq.showNumber))).setGrid
    { g with
      tuning := t
      colour := g.colour.map (fun slice => slice.map (NodeRec.reclamped t s.seq.showNumber))
      zones := g.zones.map (ZoneRec.reclamped t s.seq.showNumber)
      sticky := g.reclampedSticky t }

/-! ### Pins (R11, R12) -/

/-- A node with a new pin value (R11, R12). -/
def NodeRec.pinned (t : Tuning) (showNow value : Nat) (n : NodeRec) : NodeRec :=
  if value ≠ 0 then
    { n with
      pin := value
      cell :=
        { n.cell with
          value := 16 * value
          state := .pinned
          streak := 0
          saturated := false
          appliedAt := if 16 * value = n.cell.value then n.cell.appliedAt else showNow } }
  else if n.cell.state = .pinned then
    { n with
      pin := 0
      cell := ({ n.cell with state := .seeking, streak := 0, iterations := 0, saturated := false } : Cell).limited t.gmin t.gmax showNow }
  else n

/-- The pin request moves an unpinned node's gain to a limit (R12, R15). -/
def NodeRec.unpinMoves (t : Tuning) (value : Nat) (n : NodeRec) : Bool :=
  decide (value = 0) && decide (n.cell.state = .pinned) && n.cell.outside t.gmin t.gmax

/-- Take a SET_PIN (R11, R12). -/
def State.takePin (s : State) (slice node value : Nat) : State :=
  let g := s.grid
  let n := g.node slice node
  s.setGrid
    { g.putNode slice node (n.pinned g.tuning s.seq.showNumber value) with
      sticky := stickyAfter g.sticky slice (n.unpinMoves g.tuning value) }

/-! ### Kinds of the requests whose replies can be deferred or sent by another event -/

def kindSetAims : Byte := 0x22
def kindSetPin : Byte := 0x23
def kindMeasure : Byte := 0x30

/-- SET_AIMS takes force, and its reply (R8, R188). -/
def State.takeAims (s : State) (tag : Byte) (aims : List Nat) (clamped : Bool) : State :=
  (s.setGrid (s.grid.retarget aims s.grid.ceiling)).reply .station kindSetAims tag .ok
    (flag clamped ++ aims.flatMap u16 ++ u16 (maskOf (s.grid.aimChanges aims s.grid.ceiling)))

/-- SET_PIN is taken, and its reply (R11, R12, R188). -/
def State.takePinReplying (s : State) (tag : Byte) (slice node value : Nat) : State :=
  let s1 := s.takePin slice node value
  let cell := (s1.grid.node slice node).cell
  s1.reply .station kindSetPin tag .ok (u8 cell.state.code ++ u16 cell.value)

/-! ### Items held between rows (R13) -/

/-- Take one held item with its full effect (R13). -/
def State.takeHeldItem (s : State) : HeldItem → State
  | .setAims tag aims clamped => s.takeAims tag aims clamped
  | .setPin tag slice node value => s.takePinReplying tag slice node value
  | .ceiling limit => s.setGrid (s.grid.retarget s.grid.aims limit)

/-- Take every held item in its order of arrival. -/
def State.takeHeld (s : State) : State :=
  s.grid.held.foldl State.takeHeldItem (s.setGrid { s.grid with held := [] })

/-- The held item is a request. -/
def HeldItem.isRequest : HeldItem → Bool
  | .ceiling _ => false
  | _ => true

/-- The held requests, SET_AIMS and SET_PIN together. -/
def Grid.heldRequests (g : Grid) : Nat := g.held.countP HeldItem.isRequest

/-- A region change joins the held items: in the place of one already held, else last (R13). -/
def holdCeiling (limit : Option Nat) : List HeldItem → List HeldItem
  | [] => [.ceiling limit]
  | .ceiling _ :: rest => .ceiling limit :: rest
  | item :: rest => item :: holdCeiling limit rest

/-- Hold a request of grid memory: refused BUSY when four are held already (R13). -/
def State.hold (s : State) (kind tag : Byte) (item : HeldItem) : State :=
  if s.grid.heldRequests < 4 then s.setGrid { s.grid with held := s.grid.held ++ [item] }
  else s.refuse .station kind tag .busy

/-- Hold a region change, which is never refused (R13). -/
def State.holdCeiling (s : State) (limit : Option Nat) : State :=
  s.setGrid { s.grid with held := Machine.holdCeiling limit s.grid.held }

/-- A request of grid memory: taken at once with no row in process, rows queued or not, and held while one is (R13, R56). -/
def State.takeOrHold (s : State) (kind tag : Byte) (item : HeldItem) : State :=
  if s.intake.inProcess.isNone then s.takeHeldItem item else s.hold kind tag item

/-- The region unit's report of its white ceiling reaches grid memory, and is taken or held in the same way (R9, R10, R13, R115). -/
def State.takeCeiling (s : State) (limit : Option Nat) : State :=
  if s.intake.inProcess.isNone then s.takeHeldItem (.ceiling limit) else s.holdCeiling limit

/-! ### Restarts (R16, R18) -/

/-- A node after a restart of its slice: a pinned one keeps its pin and pin gain (R2, R16). -/
def NodeRec.restarted (n : NodeRec) : NodeRec :=
  if n.cell.state = .pinned then
    { cell := { Cell.fresh n.cell.value with state := .pinned }, lastMeasured := none, lastError := none, pin := n.pin }
  else .fresh

/-- A node when REOPEN clears the loop state: gain and pin kept (R18). -/
def NodeRec.reopened (n : NodeRec) : NodeRec :=
  { cell := { Cell.fresh n.cell.value with state := if n.cell.state = .pinned then .pinned else .seeking }
    lastMeasured := none
    lastError := none
    pin := n.pin }

/-- A zone when REOPEN clears the loop state: trim kept (R18). -/
def ZoneRec.reopened (z : ZoneRec) : ZoneRec := { ZoneRec.fresh with cell := .fresh z.cell.value }

/-- The slices a restart names: one, or all (R16). -/
inductive RestartScope where
  | one (slice : Nat)
  | all
  deriving DecidableEq, Repr

def RestartScope.covers : RestartScope → Nat → Bool
  | .one slice, s => decide (s = slice)
  | .all, _ => true

/-- Grid memory's part of a restart: records, sticky flags and phase (R14, R15, R16). -/
def Grid.restarted (g : Grid) (scope : RestartScope) : Grid :=
  { g with
    colour :=
      List.zipWith (fun slice i => if scope.covers i then slice.map NodeRec.restarted else slice) g.colour (List.range 15)
    white := if scope.covers 15 then g.white.map (fun _ => WhiteRec.fresh) else g.white
    zones := if scope.covers 15 then g.zones.map (fun _ => ZoneRec.fresh) else g.zones
    sticky := List.zipWith (fun flag i => flag && !scope.covers i) g.sticky (List.range 16)
    phase := if scope.covers 15 then .coarse else g.phase }

/-- The sequencer's part of a restart: history patches of restarted slices go, and a restart of all slices sets the show number
to 0 (R16, R71). -/
def Sequencer.restarted (q : Sequencer) (scope : RestartScope) : Sequencer :=
  { q with
    history := q.history.filter (fun p => !scope.covers p.slice)
    showNumber := match scope with | .all => 0 | .one _ => q.showNumber }

/-- The records, flags, phase, history and show number of a restart (R16), rows apart. -/
def State.restartRecords (s : State) (scope : RestartScope) : State :=
  ((s.putZones (s.grid.restarted scope).zones).setGrid (s.grid.restarted scope)).setSeq (s.seq.restarted scope)

/-- REOPEN's clearing of loop state (R18) and of the sequencer (R87). -/
def State.clearLoopState (s : State) : State :=
  let g := s.grid
  ((s.putZones (g.zones.map ZoneRec.reopened)).setGrid
    { g with
      colour := g.colour.map (fun slice => slice.map NodeRec.reopened)
      white := g.white.map (fun _ => WhiteRec.fresh)
      zones := g.zones.map ZoneRec.reopened
      sticky := g.sticky.map (fun _ => false)
      phase := .coarse }).setSeq
    { s.seq with list := [], history := [], showNumber := 0 }

/-! ### Requests (R6, R8, R11, R21, R22) -/

/-- SET_TUNING (R6, R7). -/
def State.takeSetTuning (s : State) (tag : Byte) (f : TuningFields) : State :=
  if s.unit.phase ≠ .opened then s.refuse .station 0x20 tag .wrongPhase
  else if s.intake.queue ≠ [] ∨ s.intake.inProcess.isSome then s.refuse .station 0x20 tag .busy
  else
    let t := (tuningGiven f).clamped
    (s.retune t).reply .station 0x20 tag .ok
      (flag (tuningClampedFlag f) ++ t.bytes ++ u16 (s.grid.gainsMoved t) ++ u8 (s.grid.trimsMoved t))

/-- SET_AIMS (R8, R13). -/
def State.takeSetAims (s : State) (tag : Byte) (aims : List Half) : State :=
  if s.unit.phase ≠ .opened then s.refuse .station kindSetAims tag .wrongPhase
  else s.takeOrHold kindSetAims tag (.setAims tag (aims.map aimGiven) (aimsClampedFlag aims))

/-- SET_PIN (R11, R12, R13). -/
def State.takeSetPin (s : State) (tag slice : Byte) (node : Half) (value : Byte) : State :=
  if s.unit.phase ≠ .opened then s.refuse .station kindSetPin tag .wrongPhase
  else if 14 < slice.toNat ∨ 575 < node.toNat then s.refuse .station kindSetPin tag .badValue
  else s.takeOrHold kindSetPin tag (.setPin tag slice.toNat node.toNat value.toNat)

/-- A colour node record's 16 bytes (R188). -/
def NodeRec.bytes (n : NodeRec) : List Byte :=
  u16 n.cell.value ++ u8 n.cell.state.code ++ u8 n.cell.streak ++ u8 n.cell.iterations ++
    [bitByte [n.lastMeasured.isSome, n.lastError.isSome]] ++ optionalField 2 u16 n.lastMeasured ++ optionalField 2 s16 n.lastError ++
    u32 n.cell.appliedAt ++ flag n.cell.saturated ++ u8 n.pin

/-- A white node record's 9 bytes (R188). -/
def WhiteRec.bytes (w : WhiteRec) : List Byte :=
  [bitByte [w.lastMeasured.isSome, w.lastError.isSome, w.heldShow.isSome]] ++ optionalField 2 u16 w.lastMeasured ++
    optionalField 2 s16 w.lastError ++ optionalField 4 u32 w.heldShow

/-- A zone record's 16 bytes (R188). -/
def ZoneRec.bytes (z : ZoneRec) : List Byte :=
  u8 z.cell.value ++ u8 z.cell.state.code ++ u8 z.cell.streak ++ u8 z.cell.iterations ++ u32 z.cell.appliedAt ++
    [bitByte [z.cell.saturated, z.pendingShort, z.pendingShow.isSome]] ++ s16 z.pendingSum ++ u8 z.pendingCount ++
    optionalField 4 u32 z.pendingShow

/-- The records READ_NODES returns (R21). -/
def Grid.nodeBytes (g : Grid) (slice first count : Nat) : List Byte :=
  (List.range count).flatMap (fun i =>
    if slice = 15 then (g.whiteNode (first + i)).bytes else (g.node slice (first + i)).bytes)

/-- READ_NODES (R21, R188). -/
def State.takeReadNodes (s : State) (tag slice : Byte) (first : Half) (count : Byte) : State :=
  if 15 < slice.toNat ∨ count.toNat = 0 ∨ 32 < count.toNat ∨ 575 < first.toNat + count.toNat - 1 then
    s.refuse .station 0x25 tag .badValue
  else
    s.reply .station 0x25 tag .ok
      (slice :: u8 s.grid.phase.code ++ flag (s.grid.stickyFlag slice.toNat) ++ u16 (s.grid.effectiveAim slice.toNat) ++ [count] ++
        s.grid.nodeBytes slice.toNat first.toNat count.toNat)

/-- READ_ZONES (R22, R188). -/
def State.takeReadZones (s : State) (tag first count : Byte) : State :=
  if count.toNat = 0 ∨ 48 < count.toNat ∨ 143 < first.toNat + count.toNat - 1 then s.refuse .station 0x26 tag .badValue
  else
    s.reply .station 0x26 tag .ok
      (u8 s.grid.phase.code ++ flag (s.grid.stickyFlag 15) ++ u16 (s.grid.effectiveAim 15) ++ u8 s.grid.tuning.zmin ++
        u8 s.grid.tuning.zmax ++ [count] ++ (List.range count.toNat).flatMap (fun i => (s.grid.zone (first.toNat + i)).bytes))

end Sys2Proof.Machine
end

