-- ==== Sys2Proof/Machine/Intake.lean ====
section
/-! DEFINITION. The measurement intake (03) and the convergence engine's row processing (2.1): MEASURE, the queue, one count at a time,
completion, what a restart discards, and the PROGRESS report. -/

namespace Sys2Proof.Machine

/-! ### Patch records the intake reads (R52, R53) -/

/-- The current patch and the history records (R52). The list is not searched. -/
def Sequencer.shown (q : Sequencer) : List Patch := q.current.toList ++ q.history

/-- The current or history patch that carries a tag (R52). -/
def Sequencer.findShown (q : Sequencer) (tag : Nat) : Option Patch := q.shown.find? (fun p => decide (p.tag = tag))

/-- A set of row indices with one more (R53, R54). -/
def insertRow (rows : List Nat) (row : Nat) : List Nat := if row ∈ rows then rows else rows ++ [row]

/-- The patch with a row index in its received set (R54). -/
def Patch.receive (p : Patch) (row : Nat) : Patch := { p with received := insertRow p.received row }

/-- The record with the given tag, current or in the history, receives a row (R54). -/
def Sequencer.receive (q : Sequencer) (tag row : Nat) : Sequencer :=
  let mark (p : Patch) : Patch := if p.tag = tag then p.receive row else p
  { q with current := q.current.map mark, history := q.history.map mark }

/-! ### Occupancy and row begin (R50, R55) -/

/-- The rows queued plus one if a row is in process (R50). -/
def Intake.occupancy (i : Intake) : Nat := i.queue.length + (if i.inProcess.isSome then 1 else 0)

/-- The head of the queue becomes the row in process, under the effective aim and tuning record in force (R23, R55). -/
def State.beginRow (s : State) : State :=
  match s.intake.queue with
  | [] => s
  | row :: rest =>
    s.setIntake
      { s.intake with
        queue := rest
        inProcess :=
          some { row := row, aim := s.grid.effectiveAim row.slice, tuning := s.grid.tuning, column := 0, tally := .zero } }

/-- With no row in process, grid memory takes what it holds and the next queued row begins (R13, R17, R25, R55). -/
def State.advanceRows (s : State) : State :=
  if s.intake.inProcess.isSome then s else s.takeHeld.beginRow

/-- A marker read that falls at the moment of the event being taken is to be taken second (R127, log 33). -/
def State.markerWaits (s : State) : Bool :=
  match s.pending with
  | .markerRead line :: _ => line.meets
  | _ => false

/-- After a marker read: where it met a completion, the row that the completion left to begin begins (R55, R127). -/
def State.beginDue (s : State) (meets : Bool) : State :=
  if meets && s.intake.inProcess.isNone && s.grid.held.isEmpty then s.beginRow else s

/-! ### The MEASURE reply (R61, R62, R188) -/

/-- The 13 fields of a MEASURE reply after its status. -/
def measureFields (patchTag row showNumber slice : Nat) (t : Tally) (sticky : Bool) : List Byte :=
  u8 patchTag ++ u8 row ++ u32 showNumber ++ u8 slice ++ u8 t.applied ++ u8 t.stale ++ u8 t.recordedOnly ++ u8 t.unusable ++
    u8 t.zonesUpdated ++ flag sticky

/-- A refused MEASURE's reply: the tag and row as given, the other fields zero (R62). -/
def State.refuseMeasure (s : State) (tag patchTag row : Byte) (status : Status) : State :=
  s.reply .station kindMeasure tag status (measureFields patchTag.toNat row.toNat 0 0 .zero false)

/-- A discarded row's reply (R57, R62). -/
def State.replyDiscarded (s : State) (row : Row) : State :=
  s.reply .station kindMeasure row.frameTag .discarded
    (measureFields row.patchTag row.row row.showNumber row.slice .zero false)

/-! ### MEASURE (R51 to R54) -/

/-- MEASURE, its seven checks in order (R51) and its acceptance (R54). -/
def State.takeMeasure (s : State) (tag patchTag row : Byte) (counts : List Half) : State :=
  if s.unit.phase ≠ .opened then s.refuseMeasure tag patchTag row .wrongPhase
  else if 17 < row.toNat then s.refuseMeasure tag patchTag row .badValue
  else
    match s.seq.findShown patchTag.toNat with
    | none => s.refuseMeasure tag patchTag row .unknownPatch
    | some p =>
      if p.ready = false then s.refuseMeasure tag patchTag row .notReady
      else if row.toNat ∈ p.received then s.refuseMeasure tag patchTag row .duplicateRow
      else if s.grid.aims.getD p.slice 0 = 0 then s.refuseMeasure tag patchTag row .noAim
      else if 8 ≤ s.intake.queue.length then s.refuseMeasure tag patchTag row .full
      else
        let accepted : Row :=
          { frameTag := tag, patchTag := patchTag.toNat, showNumber := p.showNumber.getD 0, slice := p.slice, row := row.toNat,
            counts := counts.map (·.toNat) }
        ((s.setSeq (s.seq.receive patchTag.toNat row.toNat)).setIntake
          { s.intake with queue := s.intake.queue ++ [accepted] }).advanceRows

/-! ### One count, and completion (R23 to R25, R39, R60) -/

/-- Take one colour count into node `n` (2.2): the record, the sticky flag of a clamp, the phase of an applied count (R39). -/
def State.takeColourCount (s : State) (r : RowInProcess) (n m : Nat) : State × CountResult NodeRec :=
  let res := fineCount r.tuning r.aim r.row.showNumber s.seq.showNumber m (s.grid.node r.row.slice n)
  (s.setGrid
    { s.grid.putNode r.row.slice n res.after with
      sticky := stickyAfter s.grid.sticky r.row.slice res.clamped
      phase := if res.outcome = .applied then .fine else s.grid.phase },
   res)

/-- Take one white count into white node `n` and its zone (2.4). -/
def State.takeWhiteCount (s : State) (r : RowInProcess) (n m : Nat) : State × CountResult ZoneRec :=
  let z := zoneOf n
  let res := zoneCount r.tuning s.grid.phase r.aim r.row.showNumber s.seq.showNumber m (s.grid.zone z)
  let s1 := s.setGrid (s.grid.putWhite n (whiteStage r.aim r.row.showNumber m (s.grid.whiteNode n)))
  let s2 := s1.putZones (s1.grid.zones.set z res.after)
  (s2.setGrid { s2.grid with sticky := stickyAfter s2.grid.sticky 15 res.clamped }, res)

/-- The engine takes the next count of the row (R23): the state, and the row moved on to its next column. -/
def State.takeCount (s : State) (r : RowInProcess) : State × RowInProcess :=
  let m := r.row.counts.getD r.column 65535
  let n := r.row.row * 32 + r.column
  if r.row.slice = 15 then
    let (s1, res) := s.takeWhiteCount r n m
    (s1, { r with column := r.column + 1, tally := r.tally.count res.outcome res.updated })
  else
    let (s1, res) := s.takeColourCount r n m
    (s1, { r with column := r.column + 1, tally := r.tally.count res.outcome res.updated })

/-- A completion notice reaches the sequencer (R84). -/
def Sequencer.notice (q : Sequencer) (tag showNumber row : Nat) : Sequencer :=
  match q.current with
  | some p =>
    if p.tag = tag ∧ p.showNumber = some showNumber then
      { q with current := some { p with completed := insertRow p.completed row } }
    else q
  | none => q

/-- The row completes (R25, R60): its reply, its notice, the held items, the next row. A marker read that meets the completion and is taken
second comes before the next row begins (R127, log 33). -/
def State.completeRow (s : State) (r : RowInProcess) : State :=
  let s1 :=
    s.reply .station kindMeasure r.row.frameTag .ok
      (measureFields r.row.patchTag r.row.row r.row.showNumber r.row.slice r.tally (s.grid.stickyFlag r.row.slice))
  let s2 := s1.setSeq (s1.seq.notice r.row.patchTag r.row.showNumber r.row.row)
  let s3 := s2.setIntake { s2.intake with inProcess := none }
  if s.markerWaits then s3.takeHeld else s3.advanceRows

/-- ROW_COUNT: the next count of the row in process, the thirty-second completing it (R23, R25). -/
def State.stepRow (s : State) : State :=
  match s.intake.inProcess with
  | none => s
  | some r =>
    let (s1, r1) := s.takeCount r
    if 32 ≤ r1.column then s1.completeRow r1 else s1.setIntake { s1.intake with inProcess := some r1 }

/-! ### Restarts and their rows (R16, R17, R57) -/

/-- The rows a restart discards: the abandoned row, then the queued ones in order (R57). -/
def Intake.discarded (i : Intake) (scope : RestartScope) : List Row :=
  (i.inProcess.toList.map (·.row)).filter (fun r => scope.covers r.slice) ++ i.queue.filter (fun r => scope.covers r.slice)

/-- The intake without those rows. -/
def Intake.without (i : Intake) (scope : RestartScope) : Intake :=
  { i with
    queue := i.queue.filter (fun r => !scope.covers r.slice)
    inProcess := i.inProcess.filter (fun r => !scope.covers r.row.slice) }

/-- A restart with its rows and their DISCARDED replies (R16, R57), the restart's own reply and R17 still to come. -/
def State.restart (s : State) (scope : RestartScope) : State :=
  ((s.intake.discarded scope).foldl State.replyDiscarded (s.setIntake (s.intake.without scope))).restartRecords scope

/-- The restart of a request: its effects, its reply with the number of rows discarded, then R17 (log 13). -/
def State.restartReplying (s : State) (kind tag : Byte) (scope : RestartScope) : State :=
  ((s.restart scope).reply .station kind tag .ok (u8 (s.intake.discarded scope).length)).advanceRows

/-- The scope a GRID_RESTART names; 0xFF is all slices (R16, R186). -/
def restartScope (slice : Byte) : Option RestartScope :=
  if slice = 0xFF then some .all else if slice.toNat ≤ 15 then some (.one slice.toNat) else none

/-- GRID_RESTART (R16, R17). -/
def State.takeGridRestart (s : State) (tag slice : Byte) : State :=
  if s.unit.phase ≠ .opened then s.refuse .station 0x24 tag .wrongPhase
  else if s.seq.state = .running ∨ s.seq.state = .stopping then s.refuse .station 0x24 tag .busy
  else
    match restartScope slice with
    | none => s.refuse .station 0x24 tag .badValue
    | some scope => s.restartReplying 0x24 tag scope

/-- SET_LEVELS (R19). -/
def State.takeSetLevels (s : State) (tag : Byte) (codes : List Half) : State :=
  if s.unit.phase ≠ .opened then s.refuse .station 0x21 tag .wrongPhase
  else if s.seq.state ≠ .idle then s.refuse .station 0x21 tag .busy
  else if levelsValid (codes.map (·.toNat)) = false then s.refuse .station 0x21 tag .badValue
  else (s.setGrid { s.grid with levels := codes.map (·.toNat) }).restartReplying 0x21 tag .all

/-! ### The PROGRESS report (R64, R65) -/

/-- The progress period in ms (R64). -/
def progressPeriod (t : Tuning) : Nat := 40 * (1 + t.progressIndex)

/-- The states of a slice's records: its nodes, or for slice 15 the zones (R65, R150). -/
def Grid.states (g : Grid) (slice : Nat) : List CellState :=
  if slice = 15 then g.zones.map (·.cell.state) else (g.slice slice).map (·.cell.state)

/-- The number of a slice's records in a state. -/
def Grid.countState (g : Grid) (slice : Nat) (state : CellState) : Nat := (g.states slice).count state

/-- PROGRESS_TIMER_EXPIRY (R64, R65): the timer starts its next interval, and a PROGRESS report goes out while some record of the
current slice is SEEKING. -/
def State.progressExpiry (s : State) : State :=
  match s.intake.progress with
  | none => s
  | some _ =>
    let s1 := s.setIntake { s.intake with progress := some (progressPeriod s.grid.tuning) }
    match s.seq.current with
    | none => s1
    | some p =>
      if s.grid.countState p.slice .seeking = 0 then s1
      else
        s1.report 0x73
          (u8 p.slice ++ u16 (s.grid.countState p.slice .seeking) ++ u16 (s.grid.countState p.slice .locked) ++
            u16 (s.grid.countState p.slice .stalled) ++ u16 (s.grid.countState p.slice .pinned) ++ u32 s.seq.showNumber)

end Sys2Proof.Machine
end

