-- ==== Sys2Proof/Machine/Applier.lean ====
section
/-! DEFINITION. The correction applier (5.1 to 5.3) and the backlight trim output (5.4): the frame view taken at a boundary, the correction
of one pixel, the picture of each sequencer state, and the trim frames. -/

namespace Sys2Proof.Machine

/-! ### Correcting one pixel (R98 to R101) -/

/-- A position's node interval along one axis: the two node indices and the weight toward the second (R99). `last` is the last
node index of the axis. -/
structure NodeSpan where
  first : Nat
  second : Nat
  weight : Nat
  deriving DecidableEq, Repr

/-- The interval of pixel position `x` along an axis whose last node index is `last` (R99). -/
def nodeSpan (last x : Nat) : NodeSpan :=
  let offset := x - 120
  let i := min (offset / 240) last
  if i = last then { first := last, second := last, weight := 0 }
  else { first := i, second := i + 1, weight := offset - 240 * i }

/-- A slice's gain at a node's row and column. -/
def gainAt (slice : List Nat) (row column : Nat) : Nat := slice.getD (row * 32 + column) 0

/-- The spatial gain of one level slice at pixel (x, y) (R99). -/
def spatialGain (slice : List Nat) (x y : Nat) : Nat :=
  let c := nodeSpan 31 x
  let r := nodeSpan 17 y
  roundNat
    (gainAt slice r.first c.first * (240 - c.weight) * (240 - r.weight) + gainAt slice r.first c.second * c.weight * (240 - r.weight) +
      gainAt slice r.second c.first * (240 - c.weight) * r.weight + gainAt slice r.second c.second * c.weight * r.weight)
    57600

/-- Between two adjacent levels (R100). -/
def betweenLevels (codeA codeB gainA gainB c : Nat) : Nat :=
  roundNat (gainA * (codeB - c) + gainB * (c - codeA)) (codeB - codeA)

/-- The gain for input code `c` from levels given as (code, gain) in rising code order (R100): the first level's gain at or below its
code, the last's at or above its own, interpolated between. -/
def levelGain (c : Nat) : List (Nat × Nat) → Nat
  | [] => 0
  | [(_, gain)] => gain
  | (codeA, gainA) :: (codeB, gainB) :: rest =>
    if c ≤ codeA then gainA
    else if c < codeB then betweenLevels codeA codeB gainA gainB c
    else levelGain c ((codeB, gainB) :: rest)

/-- The corrected output code of a gain (R101). -/
def corrected (c gain : Nat) : Nat := min 1023 (roundNat (c * gain) 2048)

/-- The gain the applier forms for plane `plane`, input code `c`, at pixel (x, y) (R99, R100). -/
def FrameView.gain (v : FrameView) (plane x y c : Nat) : Nat :=
  levelGain c (List.zipWith (fun code level => (code, spatialGain (v.gains.getD (plane * 5 + level) []) x y)) v.levels (List.range 5))

/-- The output code of one plane of one pixel under a frame view (R98, R101). -/
def FrameView.output (v : FrameView) (plane x y c : Nat) : Nat :=
  if v.mode = .bypass then c else corrected c (v.gain plane x y c)

/-- The picture's code for a plane at a pixel whose input codes are given (R85, R102). -/
def Picture.code : Picture → Nat → Pixel → Nat
  | .input, 0, p => p.r.toNat
  | .input, 1, p => p.g.toNat
  | .input, _, p => p.b.toNat
  | .uniform r _ _, 0, _ => r
  | .uniform _ g _, 1, _ => g
  | .uniform _ _ b, _, _ => b

/-- The output code of one plane of one pixel of the output frame in progress, for the given input pixel; none before the first
frame boundary (R95, R102). -/
def State.outputCode (s : State) (plane x y : Nat) (inputPixel : Pixel) : Option Nat :=
  match s.applier.view, s.applier.picture with
  | some v, some pic => some (v.output plane x y (pic.code plane inputPixel))
  | _, _ => none

/-! ### The picture and the frame view at a boundary (R72, R85, R97) -/

/-- Level code `level` of the working grid. -/
def Grid.code (g : Grid) (level : Nat) : Nat := g.levels.getD level 0

/-- The picture of a patch of the given slice (R85). -/
def patchPicture (g : Grid) (slice : Nat) : Picture :=
  if slice < 5 then .uniform (g.code slice) 0 0
  else if slice < 10 then .uniform 0 (g.code (slice - 5)) 0
  else if slice < 15 then .uniform 0 0 (g.code (slice - 10))
  else .uniform (g.code 4) (g.code 4) (g.code 4)

/-- What the output frame that begins now carries (R72, R85, R102). -/
def State.framePicture (s : State) : Picture :=
  match s.seq.state with
  | .idle => if s.timing.source = .input then .input else .uniform 0 0 0
  | .armed => .uniform (s.grid.code 2) (s.grid.code 2) (s.grid.code 2)
  | .running | .stopping =>
    match s.seq.current with
    | some p => patchPicture s.grid p.slice
    | none => .uniform (s.grid.code 2) (s.grid.code 2) (s.grid.code 2)

/-- The frame view the applier takes now (R97). -/
def State.frameViewNow (s : State) : FrameView :=
  match s.applier.mode with
  | .bypass => { mode := .bypass, gains := [], levels := s.grid.levels }
  | .working => { mode := .working, gains := s.grid.gains, levels := s.grid.levels }
  | .committed => { mode := .committed, gains := s.applier.committed.gains, levels := s.applier.committed.levels }

/-- The applier's part of a frame boundary: the view and the picture of the frame that begins (R97, R102). -/
def State.takeFrameView (s : State) : State :=
  s.setApplier { s.applier with view := some s.frameViewNow, picture := some s.framePicture }

/-- The applier mode changes; a change sets the dirty flag (R96, R104). -/
def State.setMode (s : State) (mode : ApplierMode) : State :=
  (s.setApplier { s.applier with mode := mode }).setTrim
    { s.trim with dirty := s.trim.dirty || decide (s.applier.mode ≠ mode) }

/-! ### The trim output (R103 to R107) -/

/-- The trims the applier mode selects (R103). -/
def State.trimSource (s : State) : List Nat :=
  match s.applier.mode with
  | .bypass => List.replicate 144 128
  | .working => trimsOf s.grid.zones
  | .committed => s.applier.committed.trims

/-- The image a trim frame begun now would carry. -/
def State.trimImage (s : State) : TrimImage := { mode := s.applier.mode, trims := s.trimSource }

/-- The trim output's part of a frame boundary (R105). -/
def State.examineTrim (s : State) : State :=
  if s.trim.dirty = false ∨ s.trim.inFlight.isSome then s
  else if s.trim.lastSent = some s.trimImage then s.setTrim { s.trim with dirty := false }
  else
    s.setTrim
      { s.trim with
        dirty := false
        inFlight := some { sequence := s.trim.sequence, image := s.trimImage }
        sequence := (s.trim.sequence + 1) % 256 }

/-- TRIM_FRAME_COMPLETE (R106). -/
def State.completeTrim (s : State) : State :=
  match s.trim.inFlight with
  | none => s
  | some f => s.setTrim { s.trim with inFlight := none, lastSent := some f.image }

/-- A trim frame's 149 bytes on the backlight line (R107, R191). -/
def TrimFrame.wire (f : TrimFrame) : List Byte :=
  let covered := u8 f.sequence ++ u8 f.image.mode.code ++ f.image.trims.flatMap u8
  0x5C :: covered ++ Half.bytes (crc16 covered)

/-- A trim frame as the backlight line carries it: the bits of its bytes, each byte's most significant bit first (R191). -/
def TrimFrame.line (f : TrimFrame) : List Bool := f.wire.flatMap bitsMsbFirst

end Sys2Proof.Machine
end

