-- ==== Sys2Proof/Machine/Sequencer.lean ====
section
/-! DEFINITION. The pattern sequencer (4.1 to 4.4): its requests, what it does at a frame boundary, and the internal rate that follows the
CURRENT region (R93). -/

namespace Sys2Proof.Machine

/-! ### Requests (R69, R70, R73 to R78) -/

/-- The reply of a sequencer request taken OK: state and start pending (R188). -/
def State.replySeq (s : State) (kind tag : Byte) : State :=
  s.reply .station kind tag .ok (u8 s.seq.state.code ++ flag s.seq.startPending)

/-- ARM (R73). -/
def State.takeArm (s : State) (tag : Byte) : State :=
  if s.seq.state = .idle ∧ s.unit.phase = .opened then
    (s.setSeq { s.seq with state := .armed, startPending := false }).replySeq 0x31 tag
  else s.refuse .station 0x31 tag .wrongPhase

/-- DISARM (R74). -/
def State.takeDisarm (s : State) (tag : Byte) : State :=
  match s.seq.state with
  | .armed => (s.setSeq { s.seq with state := .idle, startPending := false }).replySeq 0x32 tag
  | .idle => s.replySeq 0x32 tag
  | .running | .stopping => s.refuse .station 0x32 tag .busy

/-- START (R75). -/
def State.takeStart (s : State) (tag : Byte) : State :=
  if s.seq.state ≠ .armed then s.refuse .station 0x33 tag .wrongPhase
  else if s.seq.list = [] then s.refuse .station 0x33 tag .wrongPhase
  else if maxShow ≤ s.seq.showNumber then s.refuse .station 0x33 tag .limit
  else (s.setSeq { s.seq with startPending := true }).replySeq 0x33 tag

/-- STOP (R76). -/
def State.takeStop (s : State) (tag : Byte) : State :=
  match s.seq.state with
  | .running => (s.setSeq { s.seq with state := .stopping }).replySeq 0x34 tag
  | .stopping => s.replySeq 0x34 tag
  | .armed =>
    if s.seq.startPending then (s.setSeq { s.seq with startPending := false }).replySeq 0x34 tag
    else s.refuse .station 0x34 tag .wrongPhase
  | .idle => s.refuse .station 0x34 tag .wrongPhase

/-- HALT (R77). -/
def State.takeHalt (s : State) (tag : Byte) : State :=
  match s.seq.state with
  | .running | .stopping => (s.setSeq { s.seq with haltRequested := true }).replySeq 0x35 tag
  | .armed =>
    if s.seq.startPending then (s.setSeq { s.seq with startPending := false }).replySeq 0x35 tag
    else s.refuse .station 0x35 tag .wrongPhase
  | .idle => s.refuse .station 0x35 tag .wrongPhase

/-- ADVANCE (R78). -/
def State.takeAdvance (s : State) (tag : Byte) : State :=
  match s.seq.state with
  | .running | .stopping => (s.setSeq { s.seq with advanceRequested := true }).replySeq 0x36 tag
  | .armed | .idle => s.refuse .station 0x36 tag .wrongPhase

/-- Every record the sequencer holds: list, current patch, history (R68). -/
def Sequencer.records (q : Sequencer) : List Patch := q.list ++ q.current.toList ++ q.history

/-- PATCH_APPEND (R69). -/
def State.takePatchAppend (s : State) (tag patchTag slice settle : Byte) (hold : Half) (auto : Byte) : State :=
  if s.unit.phase ≠ .opened then s.refuse .station 0x37 tag .wrongPhase
  else if patchTag = 0 ∨ 15 < slice.toNat ∨ 1 < auto.toNat then s.refuse .station 0x37 tag .badValue
  else if s.seq.records.any (fun p => decide (p.tag = patchTag.toNat)) then s.refuse .station 0x37 tag .tagInUse
  else if 16 ≤ s.seq.list.length then s.refuse .station 0x37 tag .full
  else
    let p := patchGiven patchTag slice settle hold auto
    (s.setSeq { s.seq with list := s.seq.list ++ [p] }).reply .station 0x37 tag .ok
      (flag (patchClampedFlag settle hold) ++ u8 p.settleFrames ++ u16 p.holdLimit ++ u8 (s.seq.list.length + 1))

/-- PATCH_CLEAR (R70). -/
def State.takePatchClear (s : State) (tag : Byte) : State :=
  if s.unit.phase ≠ .opened then s.refuse .station 0x38 tag .wrongPhase
  else (s.setSeq { s.seq with list := [] }).reply .station 0x38 tag .ok (u8 s.seq.list.length)

/-! ### The internal rate (R93) -/

/-- The region unit's new rate reaches the frame timing unit: at once in IDLE and ARMED, deferred during a run (R93). -/
def State.takeRate (s : State) (rate : Nat) : State :=
  match s.seq.state with
  | .idle | .armed => s.setTiming { s.timing with rate := rate, deferred := none }
  | .running | .stopping => s.setTiming { s.timing with deferred := if rate = s.timing.rate then none else some rate }

/-- A deferred rate becomes the internal rate when the run ends (R83, R93). -/
def Timing.runEnded (t : Timing) : Timing := { t with rate := t.deferred.getD t.rate, deferred := none }

/-! ### A frame boundary at the sequencer (R79 to R83) -/

/-- The head of the list begins display (R80). -/
def Sequencer.beginDisplay (q : Sequencer) : Sequencer :=
  match q.list with
  | [] => q
  | p :: rest =>
    let n := min (q.showNumber + 1) maxShow
    { q with
      list := rest
      showNumber := n
      current :=
        some { p with
          showNumber := some n, subPhase := some .settle, settleCounter := p.settleFrames, holdCount := 0, ready := false,
          completed := [] }
      haltRequested := false
      advanceRequested := false }

/-- SEQ_STOPPED with its reason (R79, R83). -/
def State.reportStopped (s : State) (reason : RunEnd) : State :=
  s.report 0x72 (u8 reason.code ++ u8 s.seq.list.length ++ u32 s.seq.showNumber)

/-- A pending start is taken (R79). -/
def State.takePendingStart (s : State) : State :=
  let q : Sequencer := { s.seq with startPending := false }
  if q.list = [] then (s.setSeq q).reportStopped .listEmpty
  else
    (s.setSeq { q with state := .running }.beginDisplay).setIntake
      { s.intake with progress := some (progressPeriod s.grid.tuning) }

/-- The run ends (R83). -/
def State.endRun (s : State) (reason : RunEnd) : State :=
  (((s.setSeq { s.seq with state := .armed, current := none, haltRequested := false, advanceRequested := false }).setIntake
    { s.intake with progress := none }).setTiming s.timing.runEnded).reportStopped reason

/-- The ended record joins the history as its newest entry; at most four stay (R68, R82). -/
def Sequencer.retire (q : Sequencer) (p : Patch) : Sequencer :=
  { q with current := none, history := (q.history ++ [p]).drop (q.history.length + 1 - 4) }

/-- PATCH_DONE (R82). -/
def State.reportDone (s : State) (p : Patch) (reason : EndReason) : State :=
  s.report 0x71
    (u8 p.tag ++ u32 (p.showNumber.getD 0) ++ u8 p.slice ++ u8 reason.code ++ flag p.ready ++ u8 p.received.length ++
      u8 p.completed.length)

/-- The current patch ends at this boundary, and the sequencer decides what follows (R82, R83). -/
def State.endPatch (s : State) (p : Patch) (reason : EndReason) : State :=
  let s1 := (s.setSeq (s.seq.retire { p with endReason := some reason })).reportDone p reason
  if s1.seq.haltRequested then s1.endRun .halted
  else if s1.seq.state = .stopping then s1.endRun .stopped
  else if s1.seq.list = [] then s1.endRun .listEmpty
  else if maxShow ≤ s1.seq.showNumber then s1.endRun .limit
  else s1.setSeq s1.seq.beginDisplay

/-- The completed set holds all 18 row indices. -/
def Patch.allCompleted (p : Patch) : Bool := (List.range 18).all (fun r => decide (r ∈ p.completed))

/-- The current patch is advanced at a boundary (R81). -/
def State.advancePatch (s : State) (p : Patch) : State :=
  if s.seq.haltRequested then s.endPatch p .halted
  else if s.seq.advanceRequested then s.endPatch p .advanced
  else if p.subPhase = some .settle then
    if p.settleCounter ≤ 1 then
      let q : Patch := { p with settleCounter := 0, subPhase := some .hold, holdCount := 0, ready := true }
      (s.setSeq { s.seq with current := some q }).report 0x70 (u8 p.tag ++ u32 (p.showNumber.getD 0) ++ u8 p.slice)
    else s.setSeq { s.seq with current := some { p with settleCounter := p.settleCounter - 1 } }
  else
    let q : Patch := { p with holdCount := p.holdCount + 1 }
    if q.autoAdvance && q.allCompleted then s.endPatch q .complete
    else if q.holdLimit ≤ q.holdCount then s.endPatch q .timeout
    else s.setSeq { s.seq with current := some q }

/-- The sequencer's part of a frame boundary (4.4). -/
def State.sequencerBoundary (s : State) : State :=
  match s.seq.state with
  | .idle => s
  | .armed => if s.seq.startPending then s.takePendingStart else s
  | .running | .stopping =>
    match s.seq.current with
    | some p => s.advancePatch p
    | none => s

/-- One frame boundary: the sequencer decides what the frame carries, the applier takes its view, the trim output is examined
(R81, R97, R105). -/
def State.frameBoundary (s : State) : State := s.sequencerBoundary.takeFrameView.examineTrim

end Sys2Proof.Machine
end

