-- ==== Sys2Proof/Machine/Region.lean ====
section
/-! DEFINITION. The region unit and the marker decoder (06): profiles, the CURRENT region and its readers, the conflict flag and the
unknown condition, the marker's cells, presence, debounce and station identity, and the requests LOAD_PROFILE, SET_REGION
and READ_REGION. -/

namespace Sys2Proof.Machine

/-! ### Profiles and CURRENT (R110, R113) -/

/-- The first slot from number `n` on that holds code `code`, as the region it makes CURRENT (R110). -/
def findSlot (code : Nat) : Nat → List (Option Profile) → Option CurrentRegion
  | _, [] => none
  | n, none :: rest => findSlot code (n + 1) rest
  | n, some p :: rest =>
    if p.code = code then some { code := code, place := .slot n, profile := p } else findSlot code (n + 1) rest

/-- The profile for a code with its place: the slots in order, then the committed profile (R110). -/
def Region.profileFor (r : Region) (code : Nat) : Option CurrentRegion :=
  match findSlot code 0 r.slots with
  | some c => some c
  | none =>
    match r.committed with
    | some p => if p.code = code then some { code := code, place := .committed, profile := p } else none
    | none => none

/-- What CURRENT becomes when it is recomputed (R113). -/
def Region.computed (r : Region) : Option CurrentRegion :=
  if r.given ≠ 0 then r.profileFor r.given
  else if r.sensedValid then r.profileFor r.sensed
  else none

/-- CURRENT's code as frames carry it: 0 when unset (R186, log 14). -/
def Region.currentCode (r : Region) : Nat :=
  match r.current with
  | some c => c.code
  | none => 0

/-- The change of CURRENT that its readers are told of: its code, its being set, or a profile field; a change of place alone is
none (R115). -/
def currentChanged (before after : Option CurrentRegion) : Bool :=
  decide (before.map (fun c => (c.code, c.profile)) ≠ after.map (fun c => (c.code, c.profile)))

/-- The internal rate that CURRENT asks for (R93, R115). -/
def Region.rate (r : Region) : Nat :=
  match r.current with
  | some c => c.profile.mains
  | none => 60

/-- The white ceiling that CURRENT sets (R9, R115). -/
def Region.ceiling (r : Region) : Option Nat := r.current.map (·.profile.ceiling)

/-- The readers of CURRENT that hold state of their own take the change (R115). -/
def State.informReaders (s : State) : State := (s.takeRate s.region.rate).takeCeiling s.region.ceiling

/-- CURRENT is recomputed, in phase OPEN alone, and its readers are told of a change (R113, R115). -/
def State.recomputeCurrent (s : State) : State :=
  if s.unit.phase = .opened then
    let s1 := s.setRegion { s.region with current := s.region.computed }
    if currentChanged s.region.current s.region.computed then s1.informReaders else s1
  else s

/-- The unknown condition is recomputed; its rise is reported (R117). -/
def State.recomputeUnknown (s : State) : State :=
  let r := s.region
  let unknown := unknownCondition s.unit.phase r.given r.sensedValid (r.profileFor r.sensed).isSome
  let s1 := s.setRegion { r with unknown := unknown }
  if unknown && !r.unknown then
    s1.report 0x77 ([bitByte [r.identity.isSome]] ++ u16 r.sensed ++ identityBytes r.identity)
  else s1

/-- The conflict flag is recomputed; its rise is reported (R116). -/
def State.recomputeConflict (s : State) : State :=
  let r := s.region
  let conflict := conflictFlag r.given r.sensed r.sensedValid
  let s1 := s.setRegion { r with conflict := conflict }
  if conflict && !r.conflict then
    s1.report 0x76 ([bitByte [r.identity.isSome]] ++ u16 r.given ++ u16 r.sensed ++ identityBytes r.identity)
  else s1

/-- CURRENT, then the unknown condition: after a load, and on entry to OPEN (R113, R117). -/
def State.settleCurrent (s : State) : State := s.recomputeCurrent.recomputeUnknown

/-- CURRENT, the unknown condition and the conflict flag, in that order: after a write of GIVEN or a change of SENSED
(R112, R123). -/
def State.settleRegion (s : State) : State := s.settleCurrent.recomputeConflict

/-- GIVEN is written (R112). -/
def State.writeGiven (s : State) (code : Nat) : State := (s.setRegion { s.region with given := code }).settleRegion

/-! ### Requests (R111, R114, R126) -/

/-- Another slot than `slot` holds the code (R111). -/
def Region.heldElsewhere (r : Region) (slot code : Nat) : Bool :=
  (List.range 8).any (fun i =>
    decide (i ≠ slot) && (match r.slots.getD i none with | some p => decide (p.code = code) | none => false))

/-- The slot is the place CURRENT's profile is found in. -/
def Region.currentIn (r : Region) (slot : Nat) : Bool :=
  match r.current with
  | some c => decide (c.place = .slot slot)
  | none => false

/-- LOAD_PROFILE (R111). -/
def State.takeLoadProfile (s : State) (tag slot : Byte) (f : ProfileFields) : State :=
  if s.unit.phase ≠ .opened then s.refuse .station 0x40 tag .wrongPhase
  else if 7 < slot.toNat ∨ profileValid f = false then s.refuse .station 0x40 tag .badValue
  else if s.region.heldElsewhere slot.toNat f.code.toNat then s.refuse .station 0x40 tag .duplicate
  else if s.region.currentIn slot.toNat then s.refuse .station 0x40 tag .inUse
  else
    let s1 := (s.setRegion { s.region with slots := s.region.slots.set slot.toNat (some (profileGiven f)) }).settleCurrent
    s1.reply .station 0x40 tag .ok
      ([slot] ++ u16 s1.region.currentCode ++ flag (currentChanged s.region.current s1.region.current))

/-- The fields of an OK reply to SET_REGION (R188). -/
def Region.setFields (r : Region) : List Byte := u16 r.given ++ u16 r.currentCode ++ flag r.conflict

/-- SET_REGION (R114). The value GIVEN already holds changes nothing. -/
def State.takeSetRegion (s : State) (tag : Byte) (code : Half) : State :=
  if s.unit.phase ≠ .opened then s.refuse .station 0x41 tag .wrongPhase
  else if 999 < code.toNat then s.refuse .station 0x41 tag .badValue
  else if s.seq.state = .running ∨ s.seq.state = .stopping then s.refuse .station 0x41 tag .busy
  else if code.toNat ≠ 0 ∧ (s.region.profileFor code.toNat).isNone then s.refuse .station 0x41 tag .noProfile
  else if code.toNat = s.region.given then s.reply .station 0x41 tag .ok s.region.setFields
  else
    let s1 := s.writeGiven code.toNat
    s1.reply .station 0x41 tag .ok s1.region.setFields

/-- SENSED as replies carry it: 0 while sensed-valid is no (R126, R184). -/
def Region.sensedShown (r : Region) : Nat := if r.sensedValid then r.sensed else 0

/-- The fields of a READ_REGION reply (R126, R188). -/
def Region.readFields (r : Region) : List Byte :=
  [bitByte [r.current.isSome, r.identity.isSome]] ++ u16 r.given ++ u16 r.currentCode ++
    optionalField 1 (fun c => u8 (ProfilePlace.code c.place)) r.current ++ optionalField 11 (fun c => Profile.bytes c.profile) r.current ++
    u16 r.sensedShown ++ flag r.sensedValid ++ flag r.markerPresent ++ flag r.conflict ++ identityBytes r.identity ++
    (List.range 8).flatMap (fun i => match r.slots.getD i none with | some p => u16 p.code | none => u16 0)

/-- READ_REGION, on either port (R126). -/
def State.takeReadRegion (s : State) (p : Port) (tag : Byte) : State := s.reply p 0x02 tag .ok s.region.readFields

/-! ### Reading the marker (R119, R120) -/

/-- A pixel's luma code (R119). -/
def luma (p : Pixel) : Nat := (2 * p.r.toNat + 5 * p.g.toNat + p.b.toNat) / 8

/-- Cell `i`'s value: the mean luma of its sixteen pixels is greater than 512 (R119). -/
def cellValue (pixels : List Pixel) (i : Nat) : Bool := decide (512 < (((pixels.drop (16 * i)).take 16).map luma).sum / 16)

/-- The 48 cell values of the first 768 pixels of line 0. -/
def cellValues (pixels : List Pixel) : List Bool := (List.range 48).map (cellValue pixels)

/-- A field's value, its lowest-numbered cell most significant (R120). -/
def fieldValue (cells : List Bool) : Nat := cells.foldl (fun acc c => 2 * acc + (if c then 1 else 0)) 0

/-- The marker that 48 cells spell, when sync and check hold (R120). -/
def decodeMarker (cells : List Bool) : Option Marker :=
  if fieldValue (cells.take 16) = 0x6C35 ∧ fieldValue ((cells.drop 40).take 8) = (crc8 ((cells.drop 16).take 24)).toNat then
    some
      { frameIndex := fieldValue ((cells.drop 16).take 2)
        line := fieldValue ((cells.drop 18).take 4)
        code := fieldValue ((cells.drop 22).take 10)
        stationByte := fieldValue ((cells.drop 32).take 8) }
  else none

/-! ### What a marker does (R121 to R125, R193) -/

/-- The events of MARKER (R125). -/
inductive MarkerEvent where
  | found | lost | sensed | identity
  deriving DecidableEq, Repr

def MarkerEvent.code : MarkerEvent → Nat
  | .found => 0 | .lost => 1 | .sensed => 2 | .identity => 3

/-- A MARKER report, with the marker that caused it (R125, R187). -/
def State.reportMarker (s : State) (event : MarkerEvent) (m : Option Marker) : State :=
  let r := s.region
  s.report 0x75
    ([bitByte [r.identity.isSome, m.isSome]] ++ u8 event.code ++ flag r.markerPresent ++ u16 r.sensed ++ flag r.sensedValid ++
      identityBytes r.identity ++ optionalField 4 (fun m => u8 m.frameIndex ++ u8 m.line ++ u16 m.code) m)

/-- Presence, at an accepted marker (R121). -/
def State.markerPresence (s : State) (m : Marker) : State :=
  let s1 := s.setRegion { s.region with missCount := 0, markerPresent := true }
  if s.region.markerPresent then s1 else s1.reportMarker .found (some m)

/-- Presence ends, by the hundredth miss or a loss of input lock (R122). -/
def State.markerLost (s : State) : State :=
  (s.setRegion { s.region with missCount := 0, markerPresent := false }).reportMarker .lost none

/-- A rejected marker (R122). -/
def State.markerMissed (s : State) : State :=
  if s.region.markerPresent then
    if 100 ≤ s.region.missCount + 1 then s.markerLost
    else s.setRegion { s.region with missCount := s.region.missCount + 1 }
  else s

/-- The marker carries a region (R123). -/
def Marker.carries (m : Marker) : Bool := decide (1 ≤ m.code ∧ m.code ≤ 999)

/-- The marker and the last accepted one confirm a region code (R123). -/
def Region.confirms (r : Region) (m : Marker) : Bool :=
  match r.lastMarker with
  | some last => m.carries && last.carries && decide (last.code = m.code)
  | none => false

/-- A confirmed code moves SENSED (R123). -/
def State.senseCode (s : State) (m : Marker) : State :=
  ((s.setRegion { s.region with sensed := m.code, sensedValid := true }).reportMarker .sensed (some m)).settleRegion

/-- The region of an accepted marker (R123): a confirming pair may move SENSED, then the marker is the last accepted one. -/
def State.markerRegion (s : State) (m : Marker) : State :=
  let moves := s.region.confirms m && !(s.region.sensedValid && decide (s.region.sensed = m.code))
  let s1 := if moves then s.senseCode m else s
  s1.setRegion { s1.region with lastMarker := some m }

/-- The marker's station byte is the low byte that the pending high byte waits for (R124). -/
def Marker.follows (m pendingHigh : Marker) : Bool :=
  decide (m.frameIndex = pendingHigh.frameIndex + 1 ∧ m.line = pendingHigh.line)

/-- The marker with no high byte pending: one of index 0 or 2 becomes it (R124). -/
def Marker.asHigh (m : Marker) : Option Marker := if m.frameIndex = 0 ∨ m.frameIndex = 2 then some m else none

/-- An assembled identity (R124). -/
def State.takeIdentity (s : State) (m : Marker) (i : StationId) : State :=
  if s.region.identity = some i then s
  else (s.setRegion { s.region with identity := some i }).reportMarker .identity (some m)

/-- The station byte of an accepted marker (R124). -/
def State.markerIdentity (s : State) (m : Marker) : State :=
  match s.region.pendingHigh with
  | none => s.setRegion { s.region with pendingHigh := m.asHigh }
  | some high =>
    if m.follows high then
      (s.setRegion { s.region with pendingHigh := none }).takeIdentity m
        { line := m.line, station := high.stationByte * 256 + m.stationByte }
    else s.setRegion { s.region with pendingHigh := m.asHigh }

/-- An accepted marker: presence, region, identity, in that order (R120, R125). -/
def State.markerAccepted (s : State) (m : Marker) : State := ((s.markerPresence m).markerRegion m).markerIdentity m

/-- MARKER_READ (R119, R120): line 0 of a frame the decoder does not read is passed over. -/
def State.takeMarkerRead (s : State) (pixels : List Pixel) : State :=
  if s.region.lineArmed then
    let s1 := s.setRegion { s.region with lineArmed := false }
    match decodeMarker (cellValues pixels) with
    | some m => s1.markerAccepted m
    | none => s1.markerMissed
  else s

end Sys2Proof.Machine
end

