-- ==== Sys2Proof/Machine/Timing.lean ====
section
/-! DEFINITION. The frame timing unit (4.5): input lock, the timing source, the internal generator, and the events that drive them. -/

namespace Sys2Proof.Machine

/-- The INPUT report (R94, R187). -/
def State.reportInput (s : State) (regained deferred : Bool) (lines pixels : Nat) : State :=
  s.report 0x74 (flag regained ++ u8 s.timing.source.code ++ flag deferred ++ u16 lines ++ u16 pixels)

/-- A run is in progress. -/
def Sequencer.inRun (q : Sequencer) : Bool := decide (q.state = .running ∨ q.state = .stopping)

/-- A patch being settled is settled anew (R91). -/
def Patch.resettled (p : Patch) : Patch := if p.subPhase = some .settle then { p with settleCounter := p.settleFrames } else p

/-- The source switches from INPUT to INTERNAL (R91). -/
def State.switchToInternal (s : State) : State :=
  (s.setTiming { s.timing with source := .internal, generator := some s.timing.rate }).setSeq
    { s.seq with current := if s.seq.inRun then s.seq.current.map Patch.resettled else s.seq.current }

/-- Input lock is lost (R90): the source, the INPUT report, the end of marker presence (R122). The reports of the two blocks may join
the queue in either order (R192, log 8). -/
def State.loseLock (s : State) : State :=
  let s1 := s.setTiming { s.timing with lock := false }
  let s2 := if s.timing.source = .input then s1.switchToInternal else s1
  let s3 := s2.setRegion { s2.region with lineArmed := false }
  if s3.region.markerPresent then
    s3.choose (fun t => (t.reportInput false false 0 0).markerLost) (fun t => t.markerLost.reportInput false false 0 0)
  else s3.reportInput false false 0 0

/-- The totals of a completed frame, while lock is no (R89). -/
def State.matchTotals (s : State) (totals : Nat × Nat) : State :=
  let matches' := if s.timing.reference = some totals then s.timing.matchCount + 1 else 1
  let s1 := s.setTiming { s.timing with reference := some totals, matchCount := matches' }
  if 3 ≤ matches' then
    (s1.setTiming { s1.timing with lock := true }).reportInput true s.seq.inRun totals.1 totals.2
  else s1

/-- The totals of a completed frame (R89). -/
def State.takeTotals (s : State) (totals : Nat × Nat) : State :=
  if s.timing.lock then
    if s.timing.reference = some totals then s
    else
      let s1 := s.loseLock
      s1.setTiming { s1.timing with reference := some totals, matchCount := 1 }
  else s.matchTotals totals

/-- The return to input is due at this frame start: lock was already held, the source is INTERNAL, no run is on (R92). -/
def State.returnDue (s : State) (lockedBefore : Bool) : Bool :=
  lockedBefore && s.timing.lock && decide (s.timing.source = .internal) && !s.seq.inRun

/-- The source returns to INPUT (R92). -/
def State.returnToInput (s : State) : State := s.setTiming { s.timing with source := .input, generator := none }

/-- INPUT_FRAME_START (R88 to R92, R119). A frame start after a reset or a gap completes no frame. -/
def State.takeFrameStart (s : State) (totals : Nat × Nat) : State :=
  let s1 := s.setTiming { s.timing with gapRunning := true }
  let s2 := if s.timing.gapRunning then s1.takeTotals totals else s1
  let s3 := s2.setRegion { s2.region with lineArmed := s2.timing.lock }
  if s3.returnDue s.timing.lock then s3.returnToInput.frameBoundary
  else if s3.timing.source = .input then s3.frameBoundary
  else s3

/-- INPUT_GAP_EXPIRY (R90). -/
def State.takeGapExpiry (s : State) : State :=
  if s.timing.gapRunning then
    let s1 := s.setTiming { s.timing with gapRunning := false, matchCount := 0, reference := none }
    if s.timing.lock then s1.loseLock else s1
  else s

/-- INTERNAL_GENERATOR_TICK (R88, R93): a boundary, then the next interval at the internal rate. -/
def State.takeTick (s : State) : State :=
  match s.timing.generator with
  | none => s
  | some _ =>
    let s1 := s.frameBoundary
    s1.setTiming { s1.timing with generator := some s1.timing.rate }

end Sys2Proof.Machine
end

