-- ==== Sys2Proof/Machine/Keys.lean ====
section
/-! DEFINITION. The key table (07): loading keys, KEY_FIX and KEY_WITHDRAW with their writes, the rebuild at start-up, the requirement, the
release of bodies, and the listing. -/

namespace Sys2Proof.Machine

/-! ### The table (R128, R133) -/

/-- The first entry from number `n` on that holds a key id. -/
def findKey (id : Nat) : Nat → List (Option KeyEntry) → Option (Nat × KeyEntry)
  | _, [] => none
  | n, none :: rest => findKey id (n + 1) rest
  | n, some e :: rest => if e.id = id then some (n, e) else findKey id (n + 1) rest

/-- The entry that holds a key id, with its number. -/
def KeyTable.find (t : KeyTable) (id : Nat) : Option (Nat × KeyEntry) := findKey id 0 t.entries

/-- The lowest-numbered EMPTY entry (R130). -/
def KeyTable.firstEmpty (t : KeyTable) : Option Nat := t.entries.findIdx? Option.isNone

/-- Entry `n` takes new content; `none` is EMPTY. -/
def KeyTable.put (t : KeyTable) (n : Nat) (e : Option KeyEntry) : KeyTable := { t with entries := t.entries.set n e }

/-- The key is in the key area: FIXED or WITHDRAWN. -/
def KeyEntry.inArea (e : KeyEntry) : Bool := decide (e.state = .fixed ∨ e.state = .withdrawn)

/-- The key is on its way: LOADING, STAGED or CHECK_FAILED. -/
def KeyEntry.inRam (e : KeyEntry) : Bool := !e.inArea

/-- The number of entries in a state (R128). -/
def KeyTable.countState (t : KeyTable) (state : KeyState) : Nat :=
  t.entries.countP (fun e => match e with | some e => decide (e.state = state) | none => false)

/-- The number of EMPTY entries. -/
def KeyTable.countEmpty (t : KeyTable) : Nat := t.entries.countP Option.isNone

/-- The number of FIXED entries of a class (R154). -/
def KeyTable.countFixed (t : KeyTable) (cls : KeyClass) : Nat :=
  t.entries.countP (fun e => match e with | some e => decide (e.state = .fixed ∧ e.cls = cls) | none => false)

/-- The free space (R133). -/
def KeyTable.free (t : KeyTable) : Nat := if t.areaClosed then 0 else areaSize - t.fill

/-! ### Loading (R130 to R132, R134) -/

/-- The entry that an accepted KEY_BEGIN makes (R130). -/
def keyBegun (id : Half) (cls : KeyClass) (length : Half) (check : Quad) (regions : List Half) : KeyEntry :=
  { id := id.toNat, cls := cls, length := length.toNat, check := check, regions := regionListGiven regions, state := .loading,
    received := 0, body := [], offset := none, fixPending := false }

/-- KEY_BEGIN (R130). -/
def State.takeKeyBegin (s : State) (tag : Byte) (id : Half) (cls : Byte) (length : Half) (check : Quad) (regions : List Half) :
    State :=
  if s.unit.phase ≠ .opened then s.refuse .station 0x50 tag .wrongPhase
  else
    match KeyClass.ofNat? cls.toNat with
    | none => s.refuse .station 0x50 tag .badValue
    | some k =>
      if id = 0 ∨ length.toNat < 16 ∨ 1024 < length.toNat ∨ regionListValid regions = false then
        s.refuse .station 0x50 tag .badValue
      else
        match s.keys.find id.toNat with
        | some (_, e) => s.refuse .station 0x50 tag (if e.inArea then .keyFixed else .keyExists)
        | none =>
          match s.keys.firstEmpty with
          | none => s.refuse .station 0x50 tag .full
          | some n =>
            (s.setKeys (s.keys.put n (some (keyBegun id k length check regions)))).reply .station 0x50 tag .ok
              (u8 n ++ Half.bytes id)

/-- The entry with a chunk appended, before the completion check (R131). -/
def KeyEntry.appended (e : KeyEntry) (body : List Byte) : KeyEntry :=
  { e with body := e.body ++ body, received := e.received + body.length }

/-- The completion check of a body that has reached its length (R132). -/
def KeyEntry.completed (e : KeyEntry) : KeyEntry :=
  if e.received < e.length then e
  else { e with state := if crc32 e.body = e.check then .staged else .checkFailed }

/-- KEY_STATE, when the completion check has failed (R132). -/
def State.reportKeyState (s : State) (e : KeyEntry) : State :=
  if e.state = .checkFailed then
    s.report 0x78 (u16 e.id ++ u8 e.state.code ++ Quad.bytes e.check ++ Quad.bytes (crc32 e.body))
  else s

/-- KEY_CHUNK (R131, R132). -/
def State.takeKeyChunk (s : State) (tag : Byte) (id offset : Half) (body : List Byte) : State :=
  if s.unit.phase ≠ .opened then s.refuse .station 0x51 tag .wrongPhase
  else
    match s.keys.find id.toNat with
    | none => s.refuse .station 0x51 tag .noKey
    | some (n, e) =>
      if e.inArea then s.refuse .station 0x51 tag .keyFixed
      else if offset.toNat ≠ e.received then s.refuse .station 0x51 tag .outOfOrder
      else if e.length < offset.toNat + body.length then s.refuse .station 0x51 tag .badValue
      else
        let e1 := (e.appended body).completed
        ((s.setKeys (s.keys.put n (some e1))).reportKeyState e1).reply .station 0x51 tag .ok
          (Half.bytes id ++ u16 e1.received ++ u8 e1.state.code)

/-- KEY_DISCARD (R134). -/
def State.takeKeyDiscard (s : State) (tag : Byte) (id : Half) : State :=
  if s.unit.phase ≠ .opened then s.refuse .station 0x52 tag .wrongPhase
  else
    match s.keys.find id.toNat with
    | none => s.refuse .station 0x52 tag .noKey
    | some (n, e) =>
      if e.inArea then s.refuse .station 0x52 tag .keyFixed
      else if e.fixPending then s.refuse .station 0x52 tag .busy
      else (s.setKeys (s.keys.put n none)).reply .station 0x52 tag .ok (Half.bytes id ++ u8 e.state.code)

/-! ### Fixing (R136 to R138) -/

/-- The space the STAGED keys need (R136). -/
def spaceNeeded (entries : List (Option KeyEntry)) : Nat :=
  (entries.map (fun e =>
    match e with | some e => if e.state = .staged then footprint e.length else 0 | none => 0)).sum

/-- Every STAGED entry joins the fix set (R136). -/
def KeyTable.fixSet (t : KeyTable) : List (Option KeyEntry) :=
  t.entries.map (fun e => e.map (fun e => if e.state = .staged then { e with fixPending := true } else e))

/-- No entry belongs to a fix set. -/
def KeyTable.unpended (t : KeyTable) : List (Option KeyEntry) :=
  t.entries.map (fun e => e.map (fun e => { e with fixPending := false }))

/-- The next key of the fix set, in key-table order (R136, R137). -/
def nextPending (entries : List (Option KeyEntry)) : Option Nat :=
  entries.findIdx? (fun e => match e with | some e => e.fixPending | none => false)

/-- The bytes of an entry's write, and where in its space they go (R137, R190). -/
def KeyEntry.fixWrite (e : KeyEntry) : FixStep → Nat × List Byte
  | .spaceWord => (0, spaceWord (footprint e.length))
  | .header => (4, e.header)
  | .body => (32, e.body)
  | .mark => (22, [completionMark])

/-- Begin one of a key's four writes (R137). -/
def State.beginFixStep (s : State) (tag : Byte) (count n : Nat) (e : KeyEntry) (step : FixStep) (start : Nat) : State :=
  (s.setKeys { s.keys with op := some (.fix tag count n step start) }).beginWrite
    (.keyArea (start + (e.fixWrite step).1)) (e.fixWrite step).2

/-- The next key of the fix set begins, at the fill point; after the last one the operation ends OK (R137). -/
def State.nextFixKey (s : State) (tag : Byte) (count : Nat) : State :=
  match nextPending s.keys.entries with
  | some n =>
    match s.keys.entries.getD n none with
    | some e => s.beginFixStep tag count n e .spaceWord s.keys.fill
    | none => s
  | none =>
    ((s.setKeys { s.keys with op := none }).setUnit { s.unit with op := none }).reply .station 0x53 tag .ok
      (u8 count ++ u16 s.keys.fill ++ u16 s.keys.free)

/-- KEY_FIX (R136). With no STAGED entry it is replied OK at once. -/
def State.takeKeyFix (s : State) (tag : Byte) : State :=
  if s.unit.phase ≠ .opened then s.refuse .station 0x53 tag .wrongPhase
  else if s.unit.op.isSome then s.refuse .station 0x53 tag .busy
  else if s.keys.countState .staged = 0 then
    s.reply .station 0x53 tag .ok (u8 0 ++ u16 s.keys.fill ++ u16 s.keys.free)
  else if s.keys.free < spaceNeeded s.keys.entries then
    s.reply .station 0x53 tag .noSpace (u16 (spaceNeeded s.keys.entries) ++ u16 s.keys.free)
  else
    ((s.setKeys { s.keys with entries := s.keys.fixSet }).setUnit { s.unit with op := some .keyFix }).nextFixKey tag 0

def FixStep.code : FixStep → Nat
  | .spaceWord => 1 | .header => 2 | .body => 3 | .mark => 4

/-- The table after a failed write of the given step: at step 1 it follows the read-back of the space word (R138). -/
def KeyTable.fixFailed (t : KeyTable) (step : FixStep) (start : Nat) (area : List Host.Cell) : KeyTable :=
  let t1 : KeyTable := { t with entries := t.unpended, op := none }
  if step = .spaceWord then
    match readSpaceWord start (Cells.readAll area start 4) with
    | .length size => { t1 with fill := start + size }
    | .blankWord => t1
    | .torn => { t1 with areaClosed := true }
  else t1

/-- A write that fails its verify stops the operation (R138). -/
def State.failFix (s : State) (tag : Byte) (count id : Nat) (step : FixStep) (start : Nat) : State :=
  let t := s.keys.fixFailed step start s.nv.keyArea
  ((s.setKeys t).setUnit { s.unit with op := none }).reply .station 0x53 tag .nvFault
    (u8 count ++ u16 id ++ u8 step.code ++ u16 t.fill ++ u16 t.free)

/-- The entry once its completion mark has verified (R137). -/
def KeyEntry.asFixed (e : KeyEntry) (start : Nat) : KeyEntry :=
  { e with state := .fixed, offset := some start, fixPending := false, body := [] }

/-- A step's write verified: the next step, or the next key (R137). -/
def State.fixVerified (s : State) (tag : Byte) (count n : Nat) (e : KeyEntry) (step : FixStep) (start : Nat) : State :=
  match step with
  | .spaceWord =>
    (s.setKeys { s.keys with fill := s.keys.fill + footprint e.length }).beginFixStep tag count n e .header start
  | .header => s.beginFixStep tag count n e .body start
  | .body => s.beginFixStep tag count n e .mark start
  | .mark => (s.setKeys (s.keys.put n (some (e.asFixed start)))).nextFixKey tag (count + 1)

/-- The bytes of the write that has just ended read back from the key area. -/
def NvStore.readBack (nv : NvStore) (w : NvWrite) : List Byte :=
  match w.place with
  | .keyArea offset => Cells.readAll nv.keyArea offset w.data.length
  | _ => []

/-- KEY_FIX_WRITE_COMPLETE (R137, R138): the write is verified by its read-back. -/
def State.takeFixWrite (s : State) (outcome : WriteOutcome) : State :=
  match s.keys.op, s.nv.write with
  | some (.fix tag count n step start), some w =>
    match s.keys.entries.getD n none with
    | some e =>
      let s1 := s.setNv (s.nv.endWrite outcome)
      if s1.nv.readBack w = w.data then s1.fixVerified tag count n e step start else s1.failFix tag count e.id step start
    | none => s
  | _, _ => s

/-! ### Withdrawing (R139) -/

/-- KEY_WITHDRAW (R139). An entry already WITHDRAWN is replied OK at once. -/
def State.takeKeyWithdraw (s : State) (tag : Byte) (id : Half) : State :=
  if s.unit.phase ≠ .opened then s.refuse .station 0x54 tag .wrongPhase
  else
    match s.keys.find id.toNat with
    | none => s.refuse .station 0x54 tag .noKey
    | some (n, e) =>
      if e.inRam then s.refuse .station 0x54 tag .noKey
      else if e.state = .withdrawn then s.reply .station 0x54 tag .ok (Half.bytes id ++ u8 e.state.code)
      else if s.unit.op.isSome then s.refuse .station 0x54 tag .busy
      else
        ((s.setKeys { s.keys with op := some (.withdraw tag n) }).setUnit { s.unit with op := some .keyWithdraw }).beginWrite
          (.keyArea (e.offset.getD 0 + 23)) [withdrawMark]

/-- KEY_WITHDRAW_WRITE_COMPLETE (R139): what the mark's byte reads decides. -/
def State.takeWithdrawWrite (s : State) (outcome : WriteOutcome) : State :=
  match s.keys.op, s.nv.write with
  | some (.withdraw tag n), some w =>
    match s.keys.entries.getD n none with
    | some e =>
      let s1 := s.setNv (s.nv.endWrite outcome)
      let e1 : KeyEntry := if s1.nv.readBack w = [blank] then e else { e with state := .withdrawn }
      ((s1.setKeys { (s1.keys.put n (some e1)) with op := none }).setUnit { s1.unit with op := none }).reply .station 0x54 tag
        (if s1.nv.readBack w = w.data then .ok else .nvFault) (u16 e.id ++ u8 e1.state.code)
    | none => s
  | _, _ => s

/-! ### The rebuild at start-up (R141) -/

/-- What the scan of the key area has found: the keys in area order, where it ended, and whether on a torn space word. -/
structure AreaScan where
  found : List KeyEntry
  fill : Nat
  closed : Bool
  deriving DecidableEq, Repr

/-- The entry of a space with a completion mark, from its header (R141, R190). A header whose class is none of the four gives no
entry, and of a region count above 4 the four codes the header has room for are read: the model's choices (log 21). -/
def entryAt (area : List Host.Cell) (offset : Nat) : Option KeyEntry :=
  let field (x : Nat) : Nat := (half (Cells.read area (offset + x)) (Cells.read area (offset + x + 1))).toNat
  let count := min 4 (Cells.read area (offset + 7)).toNat
  (KeyClass.ofNat? (Cells.read area (offset + 6)).toNat).map (fun cls =>
    { id := field 4
      cls := cls
      length := field 8
      check :=
        quad (Cells.read area (offset + 10)) (Cells.read area (offset + 11)) (Cells.read area (offset + 12))
          (Cells.read area (offset + 13))
      regions := if count = 0 then none else some ((List.range count).map (fun i => field (14 + 2 * i)))
      state := if Cells.read area (offset + 23) = blank then .fixed else .withdrawn
      received := field 8
      body := []
      offset := some offset
      fixPending := false })

/-- The key of the space at an offset, when its completion mark is present (R135, R141). -/
def keyAt (area : List Host.Cell) (offset : Nat) : Option KeyEntry :=
  if Cells.read area (offset + 22) = completionMark then entryAt area offset else none

/-- The scan of R141 from an offset on. A footprint is at least 48, so 342 spaces exhaust the area. -/
def scanArea (area : List Host.Cell) : Nat → Nat → AreaScan
  | 0, offset => { found := [], fill := offset, closed := false }
  | fuel + 1, offset =>
    if areaSize ≤ offset then { found := [], fill := areaSize, closed := false }
    else
      match readSpaceWord offset (Cells.readAll area offset 4) with
      | .blankWord => { found := [], fill := offset, closed := false }
      | .torn => { found := [], fill := offset, closed := true }
      | .length size =>
        let rest := scanArea area fuel (offset + size)
        { rest with found := (keyAt area offset).toList ++ rest.found }

/-- The key table that the scan rebuilds: the keys found fill the entries from number 0 (R141). -/
def KeyTable.rebuilt (area : List Host.Cell) : KeyTable :=
  let scan := scanArea area 342 0
  { entries := (scan.found.take 24).map some ++ List.replicate (24 - scan.found.length) none
    fill := scan.fill
    areaClosed := scan.closed
    op := none }

/-! ### Requirement, release and listing (R142 to R144) -/

/-- The required classes that hold no FIXED key (R143, R167). -/
def KeyTable.missing (t : KeyTable) (required : ClassSet) : ClassSet :=
  { content := required.content && decide (t.countFixed .content = 0)
    identity := required.identity && decide (t.countFixed .identity = 0)
    service := required.service && decide (t.countFixed .service = 0)
    platform := required.platform && decide (t.countFixed .platform = 0) }

/-- The key requirement of a CURRENT region is satisfied (R143). -/
def KeyTable.satisfies (t : KeyTable) (current : Option CurrentRegion) : Bool :=
  match current with
  | some c => decide ((t.missing c.profile.required).byte = 0)
  | none => false

/-- CURRENT releases the key (R144). -/
def KeyEntry.released (e : KeyEntry) (current : Option CurrentRegion) : Bool :=
  match current with
  | some c =>
    c.profile.release.has e.cls &&
      (match e.regions with | some codes => decide (c.code ∈ codes) | none => true)
  | none => false

/-- `count` body bytes of a fixed key from `offset` on (R144, R190). -/
def KeyEntry.stored (e : KeyEntry) (area : List Host.Cell) (offset count : Nat) : List Byte :=
  Cells.readAll area (e.offset.getD 0 + 32 + offset) count

/-- KEY_FETCH, on the system port (R144). -/
def State.takeKeyFetch (s : State) (tag : Byte) (id offset count : Half) : State :=
  if s.unit.phase ≠ .closed then s.refuse .system 0x03 tag .notCommissioned
  else
    match s.keys.find id.toNat with
    | none => s.refuse .system 0x03 tag .noKey
    | some (_, e) =>
      if e.state ≠ .fixed then s.refuse .system 0x03 tag .noKey
      else if e.released s.region.current = false then s.refuse .system 0x03 tag .denied
      else if count = 0 ∨ 512 < count.toNat ∨ e.length < offset.toNat + count.toNat then s.refuse .system 0x03 tag .badValue
      else
        s.reply .system 0x03 tag .ok
          (Half.bytes id ++ u8 e.cls.code ++ u16 e.length ++ Half.bytes offset ++ Half.bytes count ++
            e.stored s.nv.keyArea offset.toNat count.toNat)

/-- An entry's 26 bytes in KEY_LIST (R188). -/
def KeyEntry.listed (e : KeyEntry) (n : Nat) : List Byte :=
  let codes := e.regions.getD []
  u8 n ++ u16 e.id ++ u8 e.cls.code ++ u16 e.length ++ u16 e.received ++ u8 e.state.code ++ flag e.fixPending ++
    Quad.bytes e.check ++ [bitByte [e.regions.isSome, e.offset.isSome]] ++ u8 codes.length ++ padTo 8 0 (codes.flatMap u16) ++
    optionalField 2 u16 e.offset

/-- The records of the entries that are not EMPTY, in key-table order (R142). -/
def listedFrom : Nat → List (Option KeyEntry) → List Byte
  | _, [] => []
  | n, none :: rest => listedFrom (n + 1) rest
  | n, some e :: rest => e.listed n ++ listedFrom (n + 1) rest

/-- KEY_LIST (R142). -/
def State.takeKeyList (s : State) (tag : Byte) : State :=
  s.reply .station 0x55 tag .ok
    (u16 s.keys.fill ++ u16 s.keys.free ++ flag s.keys.areaClosed ++ u8 (s.keys.entries.countP Option.isSome) ++
      listedFrom 0 s.keys.entries)

end Sys2Proof.Machine
end

