-- ==== Sys2Proof/Machine/Checks.lean ====
section
/-! DEFINITION. The acceptance checker (08): quantities, conditions, verdicts, the evaluation, SET_CHECK and EVALUATE. -/

namespace Sys2Proof.Machine

/-! ### Quantities (R150 to R154) -/

/-- The last measured values of a slice's 576 records (R150). -/
def Grid.measuredOf (g : Grid) (slice : Nat) : List (Option Nat) :=
  if slice = 15 then g.white.map (·.lastMeasured) else (g.slice slice).map (·.lastMeasured)

/-- The last errors of a slice's 576 records (R150). -/
def Grid.errorsOf (g : Grid) (slice : Nat) : List (Option Int) :=
  if slice = 15 then g.white.map (·.lastError) else (g.slice slice).map (·.lastError)

/-- The saturated flags of a slice's nodes, or of the zones (R150). -/
def Grid.saturatedOf (g : Grid) (slice : Nat) : List Bool :=
  if slice = 15 then g.zones.map (·.cell.saturated) else (g.slice slice).map (·.cell.saturated)

/-- The smallest of a list's values; 0 for none. -/
def leastOf : List Nat → Nat
  | [] => 0
  | [x] => x
  | x :: rest => min x (leastOf rest)

/-- The largest of a list's values; 0 for none. -/
def mostOf : List Nat → Nat
  | [] => 0
  | x :: rest => max x (mostOf rest)

/-- UNIFORMITY (R151). -/
def uniformityOf (measured : List (Option Nat)) : Option Nat :=
  if measured.any Option.isNone then none
  else
    let values := measured.filterMap id
    some (if mostOf values = 0 then 0 else 10000 * leastOf values / mostOf values)

/-- WORST_ERROR (R152). -/
def worstErrorOf (errors : List (Option Int)) : Option Nat :=
  if errors.all Option.isNone then none else some (mostOf ((errors.filterMap id).map Int.natAbs))

/-- ZONE_SPREAD (R154). -/
def zoneSpreadOf (trims : List Nat) : Nat := mostOf trims - leastOf trims

/-- MARKER_MATCH (R154). -/
def Region.markerMatch (r : Region) : Option Nat :=
  if r.sensedValid then
    some (match r.current with | some c => if c.code = r.sensed then 1 else 0 | none => 0)
  else none

/-- A quantity's value, or absent (R150 to R154). -/
def State.quantityOf (s : State) (q : Quantity) (argument : Nat) : Option Nat :=
  match q with
  | .uniformity => uniformityOf (s.grid.measuredOf argument)
  | .worstError => worstErrorOf (s.grid.errorsOf argument)
  | .saturated => some ((s.grid.saturatedOf argument).count true)
  | .satEver => some (if s.grid.stickyFlag argument then 1 else 0)
  | .stalled => some (s.grid.countState argument .stalled)
  | .unlocked => some (s.grid.countState argument .seeking + s.grid.countState argument .stalled)
  | .zoneSpread => some (zoneSpreadOf (trimsOf s.grid.zones))
  | .keys =>
    match KeyClass.ofNat? argument with
    | some cls => some (s.keys.countFixed cls)
    | none => some 0
  | .markerMatch => s.region.markerMatch

/-! ### Conditions and verdicts (R148, R149) -/

/-- Some condition is named. -/
def Conditions.any (c : Conditions) : Bool := c.less || c.greater || c.equal || c.magLess || c.magGreater

/-- The conditions of a mask that hold between a value and the limit (R148). -/
def Conditions.met (mask : Conditions) (q limit : Int) : Conditions :=
  { less := mask.less && decide (q < limit)
    greater := mask.greater && decide (limit < q)
    equal := mask.equal && decide (q = limit)
    magLess := mask.magLess && decide (q.natAbs < limit.natAbs)
    magGreater := mask.magGreater && decide (limit.natAbs < q.natAbs) }

/-- The slot takes part in evaluations (R146). -/
def CheckSlot.enabled (c : CheckSlot) : Bool := c.mask.any

def Conditions.none : Conditions := { less := false, greater := false, equal := false, magLess := false, magGreater := false }

/-- A verdict record (R155). -/
structure VerdictRecord where
  slot : Nat
  quantity : Quantity
  argument : Nat
  value : Option Nat
  met : Conditions
  verdict : Verdict
  deriving DecidableEq, Repr

/-- One slot judged (R149). -/
def CheckSlot.judge (c : CheckSlot) (slot : Nat) (value : Option Nat) : VerdictRecord :=
  match value with
  | some q =>
    let met := c.mask.met q c.limit
    { slot := slot, quantity := c.quantity, argument := c.argument, value := some q, met := met,
      verdict := if met.any then .fail else .pass }
  | none =>
    { slot := slot, quantity := c.quantity, argument := c.argument, value := none, met := .none, verdict := c.absent }

/-- The verdict records of the enabled slots from number `n` on, in slot order (R155). -/
def State.judgeFrom (s : State) : Nat → List CheckSlot → List VerdictRecord
  | _, [] => []
  | n, c :: rest =>
    if c.enabled then c.judge n (s.quantityOf c.quantity c.argument) :: s.judgeFrom (n + 1) rest else s.judgeFrom (n + 1) rest

/-- An evaluation (R155). -/
def State.evaluation (s : State) : List VerdictRecord := s.judgeFrom 0 s.checks

/-- The number of verdicts FAIL. -/
def failCount (records : List VerdictRecord) : Nat := records.countP (fun v => decide (v.verdict = .fail))

/-- The overall verdict (R149). -/
def overallVerdict (records : List VerdictRecord) : Verdict :=
  if records.any (fun v => decide (v.verdict = .fail)) then .fail else .pass

/-- A verdict record's 10 bytes (R188). -/
def VerdictRecord.bytes (v : VerdictRecord) : List Byte :=
  u8 v.slot ++ u8 v.quantity.code ++ u8 v.argument ++ [bitByte [v.value.isSome]] ++ optionalField 4 u32 v.value ++ [v.met.byte] ++
    u8 v.verdict.code

/-- The number of enabled slots. -/
def enabledCount (checks : List CheckSlot) : Nat := checks.countP CheckSlot.enabled

/-! ### Requests (R147, R156) -/

/-- SET_CHECK (R147). -/
def State.takeSetCheck (s : State) (tag slot : Byte) (f : CheckFields) : State :=
  if s.unit.phase ≠ .opened then s.refuse .station 0x60 tag .wrongPhase
  else if 15 < slot.toNat then s.refuse .station 0x60 tag .badValue
  else
    match checkGiven f with
    | none => s.refuse .station 0x60 tag .badValue
    | some c =>
      let checks := s.checks.set slot.toNat c
      (s.setChecks checks).reply .station 0x60 tag .ok ([slot] ++ c.bytes ++ u8 (enabledCount checks))

/-- EVALUATE (R156). -/
def State.takeEvaluate (s : State) (tag : Byte) : State :=
  s.reply .station 0x61 tag .ok
    (u8 s.intake.occupancy ++ u8 (enabledCount s.checks) ++ u8 (failCount s.evaluation) ++ u8 (overallVerdict s.evaluation).code ++
      s.evaluation.flatMap VerdictRecord.bytes)

end Sys2Proof.Machine
end

