-- ==== Sys2Proof/Machine/UnitController.lean ====
section
/-! DEFINITION. The unit controller (09): the unit record's copies, OPEN, CLOSE and its commit, REOPEN, PART_RESET, STATUS, resets and
start-up loading. -/

namespace Sys2Proof.Machine

/-! ### The unit record's copies (R159) -/

/-- The two copies. -/
inductive CopyName where
  | a | b
  deriving DecidableEq, Repr

/-- The valid record a copy holds. -/
def NvStore.record (nv : NvStore) : CopyName → Option UnitRecord
  | .a => nv.copyA.bind UnitRecord.ofBytes
  | .b => nv.copyB.bind UnitRecord.ofBytes

/-- The newest valid copy (R159). Equal generations are past what the record's 4 bytes can tell apart (log 16). -/
def NvStore.newest (nv : NvStore) : Option (CopyName × UnitRecord) :=
  match nv.record .a, nv.record .b with
  | none, none => none
  | some a, none => some (.a, a)
  | none, some b => some (.b, b)
  | some a, some b => if a.generation < b.generation then some (.b, b) else some (.a, a)

/-- The copy the next unit record write goes into (R159). -/
def NvStore.target (nv : NvStore) : NvPlace :=
  match nv.newest with
  | some (.a, _) => .copyB
  | _ => .copyA

/-- The generation the next unit record write takes (R159). -/
def NvStore.nextGeneration (nv : NvStore) : Nat :=
  match nv.newest with
  | some (_, r) => r.generation + 1
  | none => 1

/-- Begin the write of a unit record copy (R159). -/
def State.beginRecord (s : State) (mark : Mark) (rework : Nat) (serial : List Byte) (identity : Option StationId) : State :=
  s.beginWrite s.nv.target
    (UnitRecord.bytes { generation := s.nv.nextGeneration, mark := mark, rework := rework, serial := serial, identity := identity })

/-- The serial number held, as records carry it. -/
def UnitCtl.serialBytes (u : UnitCtl) : List Byte := u.serial.getD []

/-! ### Opening (R165, R166) -/

/-- The entry to OPEN by OPEN (R166). -/
def State.enterOpen (s : State) (given : Nat) : State :=
  (((s.setUnit { s.unit with phase := .opened }).writeGiven given).restart .all).setMode .working

/-- OPEN's OK reply (R166, R188). -/
def State.replyOpened (s : State) (tag : Byte) : State :=
  s.reply .station 0x10 tag .ok
    (u8 s.unit.phase.code ++ serialText s.unit.serial ++ u8 s.unit.rework ++ u16 s.region.given ++ u16 s.region.currentCode)

/-- OPEN (R165). -/
def State.takeOpen (s : State) (tag : Byte) (given : Half) (serial : List Byte) : State :=
  if s.unit.phase ≠ .blank ∧ s.unit.phase ≠ .parked then s.refuse .station 0x10 tag .wrongPhase
  else if serialValid serial = false ∨ 999 < given.toNat then s.refuse .station 0x10 tag .badValue
  else if s.unit.op.isSome then s.refuse .station 0x10 tag .busy
  else if s.unit.phase = .blank then
    (s.setUnit { s.unit with op := some (.openWrite tag serial given.toNat) }).beginRecord .opened 0 serial none
  else if s.unit.serial ≠ some serial then s.refuse .station 0x10 tag .serialMismatch
  else (s.enterOpen given.toNat).replyOpened tag

/-- OPEN_WRITE_COMPLETE (R165). -/
def State.takeOpenWrite (s : State) (outcome : WriteOutcome) : State :=
  match s.unit.op, s.nv.write with
  | some (.openWrite tag serial given), some _ =>
    let s1 := s.setNv (s.nv.endWrite outcome)
    if outcome = .whole then
      ((s1.setUnit { s1.unit with serial := some serial, op := none }).enterOpen given).replyOpened tag
    else (s1.setUnit { s1.unit with op := none }).refuse .station 0x10 tag .nvFault
  | _, _ => s

/-! ### Closing (R167 to R170) -/

/-- The number of keys on their way (R167). -/
def KeyTable.pendingKeys (t : KeyTable) : Nat := t.countState .loading + t.countState .staged + t.countState .checkFailed

/-- The status and fields with which CLOSE is refused, by the first of its nine preconditions that fails (R167, R188). -/
def State.closeRefusal (s : State) : Option (Status × List Byte) :=
  if s.unit.phase ≠ .opened then some (.wrongPhase, [])
  else if s.unit.op.isSome then some (.busy, u8 0 ++ u8 (opCode s.unit.op))
  else if s.seq.state ≠ .idle then some (.busy, u8 1 ++ u8 s.seq.state.code)
  else if s.intake.occupancy ≠ 0 then some (.busy, u8 2 ++ u8 s.intake.occupancy)
  else if s.region.current.isNone then
    some (.noRegion, u16 s.region.given ++ u16 s.region.sensed ++ flag s.region.sensedValid)
  else if s.region.conflict then some (.conflict, u16 s.region.given ++ u16 s.region.sensed)
  else if s.keys.pendingKeys ≠ 0 then some (.keysPending, u8 s.keys.pendingKeys)
  else if s.keys.satisfies s.region.current = false then
    some (.keysMissing,
      [match s.region.current with | some c => (s.keys.missing c.profile.required).byte | none => 0])
  else if overallVerdict s.evaluation = .fail then
    some (.checkFail, u8 s.evaluation.length ++ s.evaluation.flatMap VerdictRecord.bytes)
  else none

/-- Register the commit as standing at a step (R160, R168). -/
def State.commitAt (s : State) (tag : Byte) (step : CommitStep) : State := s.setUnit { s.unit with op := some (.commit tag step) }

/-- The commit begins (R167, R168). Leaving OPEN ends the unknown condition (R117). -/
def State.beginCommit (s : State) (tag : Byte) : State :=
  (((s.setUnit { s.unit with phase := .closing }).recomputeUnknown).commitAt tag .closingMark).beginRecord .closing s.unit.rework
    s.unit.serialBytes s.unit.identity

/-- CLOSE (R167). -/
def State.takeClose (s : State) (tag : Byte) : State :=
  match s.closeRefusal with
  | some (status, fields) => s.reply .station 0x11 tag status fields
  | none => s.beginCommit tag

/-- The region record: every field of the CURRENT profile (R168). -/
def Region.recordBytes (r : Region) : List Byte := optionalField 11 (fun c => Profile.bytes c.profile) r.current

/-- A write of the commit verified and the next begins (R168). -/
def State.commitNext (s : State) (tag : Byte) : CommitStep → State
  | .closingMark => (s.commitAt tag .gridRecord).beginWrite .gridRecord s.grid.image.bytes
  | .gridRecord => (s.commitAt tag .regionRecord).beginWrite .regionRecord s.region.recordBytes
  | .regionRecord => (s.commitAt tag .tuningRecord).beginWrite .tuningRecord s.grid.tuning.bytes
  | .tuningRecord =>
    (s.commitAt tag (.closedMark s.region.identity)).beginRecord .closed s.unit.rework s.unit.serialBytes s.region.identity
  | .closedMark _ => s

/-- The commit completes (R169). -/
def State.completeCommit (s : State) (identity : Option StationId) : State :=
  (((s.setUnit { s.unit with phase := .closed, identity := identity, op := none }).setApplier
      { s.applier with committed := s.grid.image }).setMode .committed).setRegion
    { s.region with
      committed := s.region.current.map (·.profile)
      current := s.region.current.map (fun c => { c with place := .committed }) }

/-- CLOSE's OK reply (R169, R188). -/
def State.replyClosed (s : State) (tag : Byte) : State :=
  s.reply .station 0x11 tag .ok
    (serialText s.unit.serial ++ u8 s.unit.rework ++ u16 s.region.currentCode ++ [bitByte [s.unit.identity.isSome]] ++
      identityBytes s.unit.identity)

/-- The step and record bytes of CLOSE's NV_FAULT (R170, R188). Beside a step other than 2 the record byte has no value (log 15). -/
def CommitStep.faultFields : CommitStep → List Byte
  | .closingMark => u8 1 ++ [Config.unreadCommitRecord]
  | .gridRecord => u8 2 ++ u8 0
  | .regionRecord => u8 2 ++ u8 1
  | .tuningRecord => u8 2 ++ u8 2
  | .closedMark _ => u8 3 ++ [Config.unreadCommitRecord]

/-- A write of the commit failed: back to OPEN (R170). -/
def State.failCommit (s : State) (tag : Byte) (step : CommitStep) : State :=
  ((s.setUnit { s.unit with phase := .opened, op := none }).settleCurrent).reply .station 0x11 tag .nvFault step.faultFields

/-- COMMIT_WRITE_COMPLETE (R168 to R170). -/
def State.takeCommitWrite (s : State) (outcome : WriteOutcome) : State :=
  match s.unit.op, s.nv.write with
  | some (.commit tag step), some _ =>
    let s1 := s.setNv (s.nv.endWrite outcome)
    if outcome = .whole then
      match step with
      | .closedMark identity => (s1.completeCommit identity).replyClosed tag
      | _ => s1.commitNext tag step
    else s1.failCommit tag step
  | _, _ => s

/-! ### Reopening (R172, R173) -/

/-- REOPEN (R172). -/
def State.takeReopen (s : State) (tag : Byte) : State :=
  if s.unit.phase ≠ .closed then s.refuse .station 0x12 tag .wrongPhase
  else if s.unit.op.isSome then s.refuse .station 0x12 tag .busy
  else if 3 ≤ s.unit.rework then s.refuse .station 0x12 tag .reworkLimit
  else
    (s.setUnit { s.unit with op := some (.reopenWrite tag) }).beginRecord .opened (s.unit.rework + 1) s.unit.serialBytes
      s.unit.identity

/-- The committed profile's code (R112). -/
def Region.committedCode (r : Region) : Nat :=
  match r.committed with
  | some p => p.code
  | none => 0

/-- The reopening, once its write has verified (R173, R18, R87). -/
def State.completeReopen (s : State) : State :=
  ((((s.setUnit { s.unit with phase := .opened, rework := s.unit.rework + 1, op := none }).clearLoopState).writeGiven
    s.region.committedCode)).setMode .working

/-- REOPEN_WRITE_COMPLETE (R173). -/
def State.takeReopenWrite (s : State) (outcome : WriteOutcome) : State :=
  match s.unit.op, s.nv.write with
  | some (.reopenWrite tag), some _ =>
    let s1 := s.setNv (s.nv.endWrite outcome)
    if outcome = .whole then s1.completeReopen.reply .station 0x12 tag .ok (u8 (s.unit.rework + 1))
    else (s1.setUnit { s1.unit with op := none }).refuse .station 0x12 tag .nvFault
  | _, _ => s

/-! ### PART_RESET and STATUS (R163, R184) -/

/-- PART_RESET (R163). -/
def State.takePartReset (s : State) (tag : Byte) : State :=
  if s.unit.op.isSome then s.refuse .station 0x13 tag .busy
  else (s.setUnit { s.unit with resetPending := true }).reply .station 0x13 tag .ok []

/-- The fields of a STATUS reply but the last, the reports-dropped flag, which is filled in as the reply begins (R182, R184). -/
def State.statusFields (s : State) : List Byte :=
  u8 s.unit.phase.code ++ [bitByte [s.unit.serial.isSome, s.unit.identity.isSome, s.region.identity.isSome]] ++
    serialField s.unit.serial ++ u8 s.unit.rework ++ u8 s.unit.cause.code ++ u8 (opCode s.unit.op) ++ identityBytes s.unit.identity ++
    u8 s.seq.state.code ++ flag s.seq.startPending ++ u32 s.seq.showNumber ++ u8 s.timing.source.code ++ flag s.timing.lock ++
    u8 s.grid.phase.code ++ u8 s.intake.queue.length ++ flag s.intake.inProcess.isSome ++ u8 s.applier.mode.code ++
    u16 s.region.given ++ u16 s.region.currentCode ++ u16 s.region.sensedShown ++ flag s.region.sensedValid ++
    flag s.region.markerPresent ++ flag s.region.conflict ++ identityBytes s.region.identity ++ u8 s.keys.countEmpty ++
    u8 (s.keys.countState .loading) ++ u8 (s.keys.countState .staged) ++ u8 (s.keys.countState .checkFailed) ++
    u8 (s.keys.countState .fixed) ++ u8 (s.keys.countState .withdrawn)

/-- STATUS, on either port (R184). -/
def State.takeStatus (s : State) (p : Port) (tag : Byte) : State := s.reply p 0x01 tag .ok (s.statusFields ++ flag false)

/-! ### Resets (R162, R164) -/

/-- The cause a reset from outside carries (R162). -/
def causeOf : ResetSource → ResetCause
  | .powerOn => .powerOn
  | .brownOut => .brownOut
  | .pin => .pin

/-- RESET from outside: every volatile state is lost, the write in flight stops where it stands, and the reset is held. A cause that
arises while one is held replaces it (R162, R164). -/
def State.takeReset (s : State) (cause : ResetCause) (cut : WriteOutcome) : State :=
  State.volatileReset cause (s.nv.endWrite cut) s.pending s.choices

/-- The reset PART_RESET asked for; no write can be in flight (R163, R183). -/
def State.requestedReset (s : State) : State :=
  State.volatileReset .request { s.nv with write := none } s.pending s.choices

/-! ### Start-up loading (R161, R20, R95, R118) -/

/-- A node loaded from the grid record (R20): a gain outside the limits restores its pin. -/
def loadedNode (t : Tuning) (gain : Nat) : NodeRec :=
  if clampNat t.gmin t.gmax gain = gain then { NodeRec.fresh with cell := .fresh gain }
  else { NodeRec.fresh with cell := { Cell.fresh gain with state := .pinned }, pin := gain / 16 }

/-- Grid memory loaded under mark CLOSED (R20), with the ceiling of the committed region (R9). -/
def Grid.loaded (t : Tuning) (image : GridImage) (ceiling : Option Nat) : Grid :=
  { Grid.fresh with
    colour := image.gains.map (fun slice => slice.map (loadedNode t))
    zones := image.trims.map (fun trim => { ZoneRec.fresh with cell := .fresh trim })
    tuning := t
    levels := image.levels
    ceiling := ceiling }

/-- The grid record as loaded; the defaults where it was never written (log 20). -/
def NvStore.loadedImage (nv : NvStore) : GridImage :=
  match nv.gridRecord with
  | some bytes => .ofBytes bytes
  | none => .unity

/-- The tuning record as loaded; the defaults where it was never written (log 20). -/
def NvStore.loadedTuning (nv : NvStore) : Tuning := (nv.tuningRecord.bind Tuning.ofBytes).getD .default

/-- The region record as loaded. -/
def NvStore.loadedProfile (nv : NvStore) : Option Profile := nv.regionRecord.bind Profile.ofBytes

/-- The region unit loaded under mark CLOSED (R118). -/
def Region.loaded (p : Option Profile) : Region :=
  { Region.fresh with
    committed := p
    current := p.map (fun p => { code := p.code, place := .committed, profile := p }) }

/-- The unit controller loaded from the newest valid copy (R161). -/
def UnitCtl.loaded (cause : ResetCause) (phase : UnitPhase) (r : UnitRecord) : UnitCtl :=
  { UnitCtl.fresh cause with phase := phase, serial := some r.serial, rework := r.rework, identity := r.identity }

/-- The blocks filled as the newest valid copy's mark gives (R161). -/
def State.loadMark (s : State) (cause : ResetCause) : State :=
  match s.nv.newest with
  | none => s
  | some (_, r) =>
    match r.mark with
    | .opened | .closing => s.setUnit (.loaded cause .parked r)
    | .closed =>
      let region := Region.loaded s.nv.loadedProfile
      ((((s.setUnit (.loaded cause .closed r)).setRegion region).setGrid
        (.loaded s.nv.loadedTuning s.nv.loadedImage region.ceiling)).setApplier
          { s.applier with mode := .committed, committed := s.nv.loadedImage }).setTiming { s.timing with rate := region.rate }

/-- Start-up loading (R161): the key table, the unit record and what it selects; then the ports and the generator begin. -/
def State.startedUp (s : State) (cause : ResetCause) : State :=
  let s1 := (State.volatileReset cause s.nv s.pending s.choices).setKeys (.rebuilt s.nv.keyArea)
  let s2 := s1.loadMark cause
  (s2.setTiming { s2.timing with generator := some s2.timing.rate }).setPower .running

/-- STARTUP_LOADING: the reset that is held ends (R161, R162). -/
def State.takeStartup (s : State) : State :=
  match s.power with
  | .held cause => s.startedUp cause
  | .running => s

end Sys2Proof.Machine
end

