-- ==== Sys2Proof/Machine/Ports.lean ====
section
/-! DEFINITION. The port controllers (10): delivery of a request to its owner, screening, the receivers and their faults, and the end of a
transmission. -/

namespace Sys2Proof.Machine

/-! ### Delivery (R179) -/

/-- A request that passed screening, taken by its owner. Only STATUS, READ_REGION and KEY_FETCH reach an owner from the system
port. -/
def State.takeRequest (s : State) (p : Port) (tag : Byte) : Request → State
  | .status => s.takeStatus p tag
  | .readRegion => s.takeReadRegion p tag
  | .keyFetch id offset count => s.takeKeyFetch tag id offset count
  | .openUnit given serial => s.takeOpen tag given serial
  | .close => s.takeClose tag
  | .reopen => s.takeReopen tag
  | .partReset => s.takePartReset tag
  | .setTuning fields => s.takeSetTuning tag fields
  | .setLevels codes => s.takeSetLevels tag codes
  | .setAims aims => s.takeSetAims tag aims
  | .setPin slice node value => s.takeSetPin tag slice node value
  | .gridRestart slice => s.takeGridRestart tag slice
  | .readNodes slice first count => s.takeReadNodes tag slice first count
  | .readZones first count => s.takeReadZones tag first count
  | .measure patchTag row counts => s.takeMeasure tag patchTag row counts
  | .arm => s.takeArm tag
  | .disarm => s.takeDisarm tag
  | .start => s.takeStart tag
  | .stop => s.takeStop tag
  | .halt => s.takeHalt tag
  | .advance => s.takeAdvance tag
  | .patchAppend patchTag slice settle hold auto => s.takePatchAppend tag patchTag slice settle hold auto
  | .patchClear => s.takePatchClear tag
  | .loadProfile slot profile => s.takeLoadProfile tag slot profile
  | .setRegion code => s.takeSetRegion tag code
  | .keyBegin id cls length check regions => s.takeKeyBegin tag id cls length check regions
  | .keyChunk id offset body => s.takeKeyChunk tag id offset body
  | .keyDiscard id => s.takeKeyDiscard tag id
  | .keyFix => s.takeKeyFix tag
  | .keyWithdraw id => s.takeKeyWithdraw tag id
  | .keyList => s.takeKeyList tag
  | .setCheck slot check => s.takeSetCheck tag slot check
  | .evaluate => s.takeEvaluate tag

/-! ### Screening (R178, R179) -/

/-- The request kinds of R187. -/
def requestKinds : List Byte :=
  [0x01, 0x02, 0x03, 0x10, 0x11, 0x12, 0x13, 0x20, 0x21, 0x22, 0x23, 0x24, 0x25, 0x26, 0x30, 0x31, 0x32, 0x33, 0x34, 0x35, 0x36,
   0x37, 0x38, 0x40, 0x41, 0x50, 0x51, 0x52, 0x53, 0x54, 0x55, 0x60, 0x61]

/-- The kinds the system port serves (R179). -/
def systemKinds : List Byte := [0x01, 0x02, 0x03]

/-- The kinds a CLOSED unit's station port takes: STATUS, READ_REGION, REOPEN, PART_RESET, READ_NODES, READ_ZONES, KEY_LIST, EVALUATE
(R171). -/
def closedKinds : List Byte := [0x01, 0x02, 0x12, 0x13, 0x25, 0x26, 0x55, 0x61]

/-- The frame refused at check 2: its reply's kind is 0xFF for a kind outside 0x01 to 0x7F (R180). -/
def State.refuseKind (s : State) (p : Port) (kind tag : Byte) (status : Status) : State :=
  s.passReply p
    { kind := if kind = 0 ∨ 0x80 ≤ kind.toNat then 0xFF else kind + 0x80, tag := tag, payload := [status.code] }

/-- Checks 2 to 6 of screening, then delivery (R179). `request` is what the kind and payload spell, absent where the length does not
suit. -/
def State.screen (s : State) (p : Port) (kind tag : Byte) (request : Option Request) : State :=
  if p = .system ∧ kind ∉ systemKinds then s.refuseKind .system kind tag .denied
  else if kind ∉ requestKinds then s.refuseKind p kind tag .unknownKind
  else if p = .station ∧ kind = 0x03 then s.refuse .station kind tag .denied
  else if tag = 0 then s.refuse p kind tag .badValue
  else
    match request with
    | none => s.refuse p kind tag .badLength
    | some r =>
      if p = .station ∧ s.unit.phase = .closed ∧ kind ∉ closedKinds then s.refuse .station kind tag .wrongPhase
      else s.takeRequest p tag r

/-- The reasons of FRAME_ERROR (R178, R187). -/
inductive FrameFault where
  | length | crc | gap | character | overrun
  deriving DecidableEq, Repr

def FrameFault.code : FrameFault → Nat
  | .length => 0 | .crc => 1 | .gap => 2 | .character => 3 | .overrun => 4

/-- A frame is discarded or abandoned: FRAME_ERROR on the station port while reset pending is no, silence else (R178, R183). -/
def State.discardFrame (s : State) (p : Port) (reason : FrameFault) (received : Nat) (length : Option Nat) : State :=
  if p = .station ∧ s.unit.resetPending = false then
    s.report 0x79 ([bitByte [length.isSome]] ++ u8 reason.code ++ u16 received ++ optionalField 2 u16 length)
  else s

/-- The number of waiting replies at which a port takes no frame (R178). -/
def overrunThreshold : Port → Nat
  | .station => 16
  | .system => 2

/-- A whole and intact frame arrives (R178, R179): OVERRUN first, then check 1 of screening, then the rest. -/
def State.arrive (s : State) (p : Port) (kind tag : Byte) (request : Option Request) (payloadLength : Nat) : State :=
  if overrunThreshold p ≤ (s.port p).replies.length then
    s.discardFrame p .overrun (payloadLength + 7) (some (payloadLength + 2))
  else if s.unit.resetPending then s
  else s.screen p kind tag request

/-! ### The receivers (R176, R177) -/

/-- The receiver hunts for the next start byte, with nothing assembled. -/
def PortCtl.hunting (c : PortCtl) : PortCtl := { c with stage := .hunt, buffer := [], gapRunning := false }

/-- The length field of the frame being assembled, once both bytes are there. -/
def PortCtl.lengthField (c : PortCtl) : Option Nat :=
  match c.buffer with
  | _ :: lo :: hi :: _ => some (half lo hi).toNat
  | _ => none

/-- The frame being assembled ends with a fault. -/
def State.abandon (s : State) (p : Port) (reason : FrameFault) (received : Nat) (length : Option Nat) : State :=
  (s.setPort p (s.port p).hunting).discardFrame p reason received length

/-- The bytes the CRC-16 covers: length, kind, tag and payload. -/
def coveredBytes (buffer : List Byte) (length : Nat) : List Byte := (buffer.drop 1).take (length + 2)

/-- The CRC that came with the frame, its first byte the low one (R176). -/
def receivedCrc (buffer : List Byte) (length : Nat) : Half := half (buffer.getD (length + 3) 0) (buffer.getD (length + 4) 0)

/-- The second CRC byte has come (R176): an intact frame arrives as a request, another is discarded. -/
def State.frameComplete (s : State) (p : Port) (buffer : List Byte) (length : Nat) : State :=
  if crc16 (coveredBytes buffer length) = receivedCrc buffer length then
    let kind := buffer.getD 3 0
    let payload := (buffer.drop 5).take (length - 2)
    (s.setPort p (s.port p).hunting).arrive p kind (buffer.getD 4 0) (parseRequest kind payload) payload.length
  else s.abandon p .crc buffer.length (some length)

/-- A byte is kept and the gap timer restarts. -/
def State.keepByte (s : State) (p : Port) (buffer : List Byte) (stage : RxStage) : State :=
  s.setPort p { s.port p with stage := stage, buffer := buffer, gapRunning := true }

/-- A byte at a receiver (R176). -/
def State.receiveByte (s : State) (p : Port) (b : Byte) : State :=
  let c := s.port p
  let buffer := c.buffer ++ [b]
  let length := ({ c with buffer := buffer } : PortCtl).lengthField
  match c.stage with
  | .hunt => if b = 0xA5 then s.keepByte p [b] .length else s
  | .length =>
    match length with
    | none => s.keepByte p buffer .length
    | some l => if 2 ≤ l ∧ l ≤ 1026 then s.keepByte p buffer .body else s.abandon p .length buffer.length length
  | .body => s.keepByte p buffer (if 3 + length.getD 0 ≤ buffer.length then .crc else .body)
  | .crc =>
    if 5 + length.getD 0 ≤ buffer.length then s.frameComplete p buffer (length.getD 0) else s.keepByte p buffer .crc

/-- BYTE_RECEIVED (R176, R177): a character without its stop bit abandons the frame, and is ignored in HUNT. It counts among the
bytes received (log 27). -/
def State.takeCharacter (s : State) (p : Port) (b : Byte) (stopBit : Bool) : State :=
  if stopBit then s.receiveByte p b
  else if (s.port p).stage = .hunt then s
  else s.abandon p .character ((s.port p).buffer.length + 1) (s.port p).lengthField

/-- PORT_GAP_TIMER_EXPIRY (R177). -/
def State.takePortGap (s : State) (p : Port) : State :=
  if (s.port p).gapRunning then s.abandon p .gap (s.port p).buffer.length (s.port p).lengthField else s

/-! ### The end of a transmission (R181, R183) -/

/-- The frame is the OK reply to PART_RESET. -/
def Frame.asksReset (f : Frame) : Bool := decide (f.kind = 0x93 ∧ f.payload = [Status.ok.code])

/-- TRANSMISSION_COMPLETE (R181, R183). -/
def State.takeTransmitted (s : State) (p : Port) : State :=
  match (s.port p).sending with
  | none => s
  | some f =>
    if p = .station ∧ s.unit.resetPending = true ∧ f.asksReset = true then s.requestedReset
    else (s.setPort p { s.port p with sending := none }).serveNext p

/-! ### Commands (R175, R162) -/

/-- Start-up loading is complete and no reset is held. -/
def State.live (s : State) : Bool := decide (s.power = .running)

/-- An event of the running part, and then the arbiters; while a reset is held nothing happens (log 2). -/
def State.event (s : State) (f : State → State) : State := if s.live then (f s).arbitrate else s

/-- A request command: the arrival of its whole and intact frame (log 3). -/
def State.request (s : State) (p : Port) (tag : Byte) (r : Request) : Host.Outcome State Fault Refusal :=
  if r.wellFormed then
    .next (s.event (fun s => s.arrive p r.kind tag (if r.lengthSuits then some r else none) r.payloadLength))
  else .refused .illFormed

end Sys2Proof.Machine
end

