-- ==== Sys2Proof/Machine/Requests.lean ====
section
/-! DEFINITION. The meanings of the request commands, one for each: the arrival of the request's frame on a port, its screening (R179) and
what its owner does, by the rule named (log 3). -/

namespace Sys2Proof.Machine

/-- STATUS (R184): the status fields as the state stands. -/
def execStatus (p : Port) (tag : Byte) (s : State) : Host.Outcome State Fault Refusal := s.request p tag .status

/-- READ_REGION (R126): the region unit's state. -/
def execReadRegion (p : Port) (tag : Byte) (s : State) : Host.Outcome State Fault Refusal := s.request p tag .readRegion

/-- KEY_FETCH (R144): body bytes of a fixed and released key, on the system port. -/
def execKeyFetch (p : Port) (tag : Byte) (id offset count : Half) (s : State) : Host.Outcome State Fault Refusal :=
  s.request p tag (.keyFetch id offset count)

/-- OPEN (R165, R166): begins OPEN_WRITE in BLANK, enters OPEN at once in PARKED. -/
def execOpenUnit (p : Port) (tag : Byte) (given : Half) (serial : List Byte) (s : State) : Host.Outcome State Fault Refusal :=
  s.request p tag (.openUnit given serial)

/-- CLOSE (R167): the nine preconditions, then the commit begins. -/
def execClose (p : Port) (tag : Byte) (s : State) : Host.Outcome State Fault Refusal := s.request p tag .close

/-- REOPEN (R172): begins REOPEN_WRITE. -/
def execReopen (p : Port) (tag : Byte) (s : State) : Host.Outcome State Fault Refusal := s.request p tag .reopen

/-- PART_RESET (R163): reset pending, and the reply whose end raises the reset. -/
def execPartReset (p : Port) (tag : Byte) (s : State) : Host.Outcome State Fault Refusal := s.request p tag .partReset

/-- SET_TUNING (R6, R7): the tuning record is clamped and installed, the grid re-clamped. -/
def execSetTuning (p : Port) (tag : Byte) (fields : TuningFields) (s : State) : Host.Outcome State Fault Refusal :=
  s.request p tag (.setTuning fields)

/-- SET_LEVELS (R19): the level codes change and every slice restarts. -/
def execSetLevels (p : Port) (tag : Byte) (codes : List Half) (s : State) : Host.Outcome State Fault Refusal :=
  s.request p tag (.setLevels codes)

/-- SET_AIMS (R8, R10, R13): the aim table, at once or held. -/
def execSetAims (p : Port) (tag : Byte) (aims : List Half) (s : State) : Host.Outcome State Fault Refusal :=
  s.request p tag (.setAims aims)

/-- SET_PIN (R11 to R13): a node's pin, at once or held. -/
def execSetPin (p : Port) (tag : Byte) (slice : Byte) (node : Half) (value : Byte) (s : State) :
    Host.Outcome State Fault Refusal :=
  s.request p tag (.setPin slice node value)

/-- GRID_RESTART (R16, R17): one slice or all restart. -/
def execGridRestart (p : Port) (tag : Byte) (slice : Byte) (s : State) : Host.Outcome State Fault Refusal :=
  s.request p tag (.gridRestart slice)

/-- READ_NODES (R21): node records. -/
def execReadNodes (p : Port) (tag : Byte) (slice : Byte) (first : Half) (count : Byte) (s : State) :
    Host.Outcome State Fault Refusal :=
  s.request p tag (.readNodes slice first count)

/-- READ_ZONES (R22): zone records. -/
def execReadZones (p : Port) (tag : Byte) (first count : Byte) (s : State) : Host.Outcome State Fault Refusal :=
  s.request p tag (.readZones first count)

/-- MEASURE (R51 to R55): a row is checked and queued. -/
def execMeasure (p : Port) (tag : Byte) (patchTag row : Byte) (counts : List Half) (s : State) :
    Host.Outcome State Fault Refusal :=
  s.request p tag (.measure patchTag row counts)

/-- ARM (R73): IDLE to ARMED. -/
def execArm (p : Port) (tag : Byte) (s : State) : Host.Outcome State Fault Refusal := s.request p tag .arm

/-- DISARM (R74): ARMED to IDLE. -/
def execDisarm (p : Port) (tag : Byte) (s : State) : Host.Outcome State Fault Refusal := s.request p tag .disarm

/-- START (R75): a run is asked for. -/
def execStart (p : Port) (tag : Byte) (s : State) : Host.Outcome State Fault Refusal := s.request p tag .start

/-- STOP (R76): the run ends after its current patch. -/
def execStop (p : Port) (tag : Byte) (s : State) : Host.Outcome State Fault Refusal := s.request p tag .stop

/-- HALT (R77): the run ends at the next boundary. -/
def execHalt (p : Port) (tag : Byte) (s : State) : Host.Outcome State Fault Refusal := s.request p tag .halt

/-- ADVANCE (R78): the current patch ends at the next boundary. -/
def execAdvance (p : Port) (tag : Byte) (s : State) : Host.Outcome State Fault Refusal := s.request p tag .advance

/-- PATCH_APPEND (R69): a record joins the patch list. -/
def execPatchAppend (p : Port) (tag : Byte) (patchTag slice settle : Byte) (hold : Half) (autoAdvance : Byte) (s : State) :
    Host.Outcome State Fault Refusal :=
  s.request p tag (.patchAppend patchTag slice settle hold autoAdvance)

/-- PATCH_CLEAR (R70): the patch list is emptied. -/
def execPatchClear (p : Port) (tag : Byte) (s : State) : Host.Outcome State Fault Refusal := s.request p tag .patchClear

/-- LOAD_PROFILE (R111): a slot takes a profile. -/
def execLoadProfile (p : Port) (tag : Byte) (slot : Byte) (profile : ProfileFields) (s : State) :
    Host.Outcome State Fault Refusal :=
  s.request p tag (.loadProfile slot profile)

/-- SET_REGION (R114): GIVEN is written. -/
def execSetRegion (p : Port) (tag : Byte) (code : Half) (s : State) : Host.Outcome State Fault Refusal :=
  s.request p tag (.setRegion code)

/-- KEY_BEGIN (R130): an EMPTY entry takes a key. -/
def execKeyBegin (p : Port) (tag : Byte) (id : Half) (cls : Byte) (length : Half) (check : Quad) (regions : List Half) (s : State) :
    Host.Outcome State Fault Refusal :=
  s.request p tag (.keyBegin id cls length check regions)

/-- KEY_CHUNK (R131, R132): body bytes are appended, a whole body checked. -/
def execKeyChunk (p : Port) (tag : Byte) (id offset : Half) (body : List Byte) (s : State) : Host.Outcome State Fault Refusal :=
  s.request p tag (.keyChunk id offset body)

/-- KEY_DISCARD (R134): an entry becomes EMPTY. -/
def execKeyDiscard (p : Port) (tag : Byte) (id : Half) (s : State) : Host.Outcome State Fault Refusal :=
  s.request p tag (.keyDiscard id)

/-- KEY_FIX (R136): every STAGED key joins the fix set and the first write begins. -/
def execKeyFix (p : Port) (tag : Byte) (s : State) : Host.Outcome State Fault Refusal := s.request p tag .keyFix

/-- KEY_WITHDRAW (R139): the write of a withdraw mark begins. -/
def execKeyWithdraw (p : Port) (tag : Byte) (id : Half) (s : State) : Host.Outcome State Fault Refusal :=
  s.request p tag (.keyWithdraw id)

/-- KEY_LIST (R142): the entries that are not EMPTY. -/
def execKeyList (p : Port) (tag : Byte) (s : State) : Host.Outcome State Fault Refusal := s.request p tag .keyList

/-- SET_CHECK (R147): a check slot takes a record. -/
def execSetCheck (p : Port) (tag : Byte) (slot : Byte) (check : CheckFields) (s : State) : Host.Outcome State Fault Refusal :=
  s.request p tag (.setCheck slot check)

/-- EVALUATE (R155, R156): an evaluation and its verdicts. -/
def execEvaluate (p : Port) (tag : Byte) (s : State) : Host.Outcome State Fault Refusal := s.request p tag .evaluate

end Sys2Proof.Machine
end

