-- ==== Sys2Proof/Machine/Events.lean ====
section
/-! DEFINITION. The meanings of the event commands, one for each: the ports' characters and timers, resets, the video input, the timers,
the engine's counts and the completions of writes. An event that cannot occur in the state at hand changes nothing (log 2). -/

namespace Sys2Proof.Machine

/-- BYTE_RECEIVED (R176, R177): a character advances frame assembly. -/
def execByteReceived (p : Port) (b : Byte) (stopBit : Bool) (s : State) : Host.Outcome State Fault Refusal :=
  .next (s.event (fun t => t.takeCharacter p b stopBit))

/-- PORT_GAP_TIMER_EXPIRY (R177): the frame being assembled is abandoned. -/
def execPortGapTimerExpiry (p : Port) (s : State) : Host.Outcome State Fault Refusal := .next (s.event (fun t => t.takePortGap p))

/-- TRANSMISSION_COMPLETE (R181, R183): the next frame begins, or the requested reset falls. -/
def execTransmissionComplete (p : Port) (s : State) : Host.Outcome State Fault Refusal :=
  .next (s.event (fun t => t.takeTransmitted p))

/-- RESET (R162, R164): every volatile state is lost and the reset is held, in any state. -/
def execReset (source : ResetSource) (cut : WriteOutcome) (s : State) : Host.Outcome State Fault Refusal :=
  .next (s.takeReset (causeOf source) cut)

/-- STARTUP_LOADING (R161): the held reset ends and the store decides what the part is. -/
def execStartupLoading (s : State) : Host.Outcome State Fault Refusal := .next s.takeStartup

/-- INPUT_FRAME_START (R88 to R92): totals, lock, source, and a boundary where the source is INPUT. -/
def execInputFrameStart (lines pixels : Half) (s : State) : Host.Outcome State Fault Refusal :=
  .next (s.event (fun t => t.takeFrameStart (lines.toNat, pixels.toNat)))

/-- INPUT_GAP_EXPIRY (R90): the totals are forgotten and a held lock is lost. -/
def execInputGapExpiry (s : State) : Host.Outcome State Fault Refusal := .next (s.event (fun t => t.takeGapExpiry))

/-- INTERNAL_GENERATOR_TICK (R88, R93): a frame boundary of the internal generator. -/
def execInternalGeneratorTick (s : State) : Host.Outcome State Fault Refusal := .next (s.event (fun t => t.takeTick))

/-- TRIM_FRAME_COMPLETE (R106): the trim frame in flight becomes the last sent. -/
def execTrimFrameComplete (s : State) : Host.Outcome State Fault Refusal := .next (s.event (fun t => t.completeTrim))

/-- PROGRESS_TIMER_EXPIRY (R64, R65): a PROGRESS report while some record is SEEKING. -/
def execProgressTimerExpiry (s : State) : Host.Outcome State Fault Refusal := .next (s.event (fun t => t.progressExpiry))

/-- MARKER_READ (R119 to R124): line 0 is decoded; without its 768 pixels it is no marker read (log 23). Where it meets the
completion of a row and is taken second, the next row begins after it (R127). -/
def execMarkerRead (line : LineRead) (s : State) : Host.Outcome State Fault Refusal :=
  if line.pixels.length = 768 then .next (s.event (fun t => (t.takeMarkerRead line.pixels).beginDue line.meets)) else .refused .illFormed

/-- ROW_COUNT (R23): one count of the row in process. -/
def execRowCount (s : State) : Host.Outcome State Fault Refusal := .next (s.event (fun t => t.stepRow))

/-- OPEN_WRITE_COMPLETE (R165, R166): the unit enters OPEN, or stays BLANK. -/
def execOpenWriteComplete (outcome : WriteOutcome) (s : State) : Host.Outcome State Fault Refusal :=
  .next (s.event (fun t => t.takeOpenWrite outcome))

/-- COMMIT_WRITE_COMPLETE (R168 to R170): the commit's next write, its completion or its failure. -/
def execCommitWriteComplete (outcome : WriteOutcome) (s : State) : Host.Outcome State Fault Refusal :=
  .next (s.event (fun t => t.takeCommitWrite outcome))

/-- REOPEN_WRITE_COMPLETE (R173): the unit is reopened, or stays CLOSED. -/
def execReopenWriteComplete (outcome : WriteOutcome) (s : State) : Host.Outcome State Fault Refusal :=
  .next (s.event (fun t => t.takeReopenWrite outcome))

/-- KEY_FIX_WRITE_COMPLETE (R137, R138): the next of a key's writes, the next key, or the operation's end. -/
def execKeyFixWriteComplete (outcome : WriteOutcome) (s : State) : Host.Outcome State Fault Refusal :=
  .next (s.event (fun t => t.takeFixWrite outcome))

/-- KEY_WITHDRAW_WRITE_COMPLETE (R139): the key is WITHDRAWN, or its mark stayed blank. -/
def execKeyWithdrawWriteComplete (outcome : WriteOutcome) (s : State) : Host.Outcome State Fault Refusal :=
  .next (s.event (fun t => t.takeWithdrawWrite outcome))

end Sys2Proof.Machine
end

