-- ==== Sys2Proof/Machine/Dispatch.lean ====
section
/-! DEFINITION. The dispatch of a command to its meaning: one arm for each constructor. -/

namespace Sys2Proof.Machine

def exec (i : Instr) (s : State) : Host.Outcome State Fault Refusal :=
  match i with
  | .status p tag => Sys2Proof.Machine.execStatus p tag s
  | .readRegion p tag => Sys2Proof.Machine.execReadRegion p tag s
  | .keyFetch p tag id offset count => Sys2Proof.Machine.execKeyFetch p tag id offset count s
  | .openUnit p tag given serial => Sys2Proof.Machine.execOpenUnit p tag given serial s
  | .close p tag => Sys2Proof.Machine.execClose p tag s
  | .reopen p tag => Sys2Proof.Machine.execReopen p tag s
  | .partReset p tag => Sys2Proof.Machine.execPartReset p tag s
  | .setTuning p tag fields => Sys2Proof.Machine.execSetTuning p tag fields s
  | .setLevels p tag codes => Sys2Proof.Machine.execSetLevels p tag codes s
  | .setAims p tag aims => Sys2Proof.Machine.execSetAims p tag aims s
  | .setPin p tag slice node value => Sys2Proof.Machine.execSetPin p tag slice node value s
  | .gridRestart p tag slice => Sys2Proof.Machine.execGridRestart p tag slice s
  | .readNodes p tag slice first count => Sys2Proof.Machine.execReadNodes p tag slice first count s
  | .readZones p tag first count => Sys2Proof.Machine.execReadZones p tag first count s
  | .measure p tag patchTag row counts => Sys2Proof.Machine.execMeasure p tag patchTag row counts s
  | .arm p tag => Sys2Proof.Machine.execArm p tag s
  | .disarm p tag => Sys2Proof.Machine.execDisarm p tag s
  | .start p tag => Sys2Proof.Machine.execStart p tag s
  | .stop p tag => Sys2Proof.Machine.execStop p tag s
  | .halt p tag => Sys2Proof.Machine.execHalt p tag s
  | .advance p tag => Sys2Proof.Machine.execAdvance p tag s
  | .patchAppend p tag patchTag slice settle hold autoAdvance => Sys2Proof.Machine.execPatchAppend p tag patchTag slice settle hold autoAdvance s
  | .patchClear p tag => Sys2Proof.Machine.execPatchClear p tag s
  | .loadProfile p tag slot profile => Sys2Proof.Machine.execLoadProfile p tag slot profile s
  | .setRegion p tag code => Sys2Proof.Machine.execSetRegion p tag code s
  | .keyBegin p tag id cls length check regions => Sys2Proof.Machine.execKeyBegin p tag id cls length check regions s
  | .keyChunk p tag id offset body => Sys2Proof.Machine.execKeyChunk p tag id offset body s
  | .keyDiscard p tag id => Sys2Proof.Machine.execKeyDiscard p tag id s
  | .keyFix p tag => Sys2Proof.Machine.execKeyFix p tag s
  | .keyWithdraw p tag id => Sys2Proof.Machine.execKeyWithdraw p tag id s
  | .keyList p tag => Sys2Proof.Machine.execKeyList p tag s
  | .setCheck p tag slot check => Sys2Proof.Machine.execSetCheck p tag slot check s
  | .evaluate p tag => Sys2Proof.Machine.execEvaluate p tag s
  | .byteReceived p b stopBit => Sys2Proof.Machine.execByteReceived p b stopBit s
  | .portGapTimerExpiry p => Sys2Proof.Machine.execPortGapTimerExpiry p s
  | .transmissionComplete p => Sys2Proof.Machine.execTransmissionComplete p s
  | .reset source cut => Sys2Proof.Machine.execReset source cut s
  | .startupLoading => Sys2Proof.Machine.execStartupLoading s
  | .inputFrameStart lines pixels => Sys2Proof.Machine.execInputFrameStart lines pixels s
  | .inputGapExpiry => Sys2Proof.Machine.execInputGapExpiry s
  | .internalGeneratorTick => Sys2Proof.Machine.execInternalGeneratorTick s
  | .trimFrameComplete => Sys2Proof.Machine.execTrimFrameComplete s
  | .progressTimerExpiry => Sys2Proof.Machine.execProgressTimerExpiry s
  | .markerRead line => Sys2Proof.Machine.execMarkerRead line s
  | .rowCount => Sys2Proof.Machine.execRowCount s
  | .openWriteComplete outcome => Sys2Proof.Machine.execOpenWriteComplete outcome s
  | .commitWriteComplete outcome => Sys2Proof.Machine.execCommitWriteComplete outcome s
  | .reopenWriteComplete outcome => Sys2Proof.Machine.execReopenWriteComplete outcome s
  | .keyFixWriteComplete outcome => Sys2Proof.Machine.execKeyFixWriteComplete outcome s
  | .keyWithdrawWriteComplete outcome => Sys2Proof.Machine.execKeyWithdrawWriteComplete outcome s

end Sys2Proof.Machine
end

