-- ==== Sys2Proof/Safety.lean ====
section
/-! DEFINITION. What counts as a safe state of the part, in the terms the statements use: when a port takes a request, the laws the manual
states of every run, and the invariants of the model that rule out states no run reaches. -/

namespace Sys2Proof.Machine

/-! ### Taking a request -/

/-- The port takes a request with this tag (R178, R179 checks 1 and 4): the part runs, no reset is pending, the reply queue is below the
port's threshold, the tag is not 0. -/
structure State.Admits (s : State) (p : Port) (tag : Byte) : Prop where
  running : s.power = .running
  noReset : s.unit.resetPending = false
  room : (s.port p).replies.length < overrunThreshold p
  tagged : tag ≠ 0

/-- The station port takes a request, with the unit in phase OPEN. -/
structure State.AdmitsOpen (s : State) (tag : Byte) : Prop where
  admits : s.Admits .station tag
  opened : s.unit.phase = .opened

/-- The station port takes a request, with the unit in any phase but CLOSED (R171). -/
structure State.AdmitsUnclosed (s : State) (tag : Byte) : Prop where
  admits : s.Admits .station tag
  unclosed : s.unit.phase ≠ .closed

/-- No transmitter is free while something waits for it (R181): between events there is nothing for the arbiters to do. -/
def State.Quiet (s : State) : Prop :=
  (s.station.sending = none → s.station.replies = [] ∧ s.station.reports = []) ∧ (s.system.sending = none → s.system.replies = [])

/-- The receiver hunts, with nothing assembled and the gap timer stopped (R175). -/
def PortCtl.Hunting (c : PortCtl) : Prop := c.stage = .hunt ∧ c.buffer = [] ∧ c.gapRunning = false

/-- Every block but the ports' records and the choice counter is the same in two states. -/
structure State.SameBlocks (s t : State) : Prop where
  power : t.power = s.power
  grid : t.grid = s.grid
  intake : t.intake = s.intake
  seq : t.seq = s.seq
  timing : t.timing = s.timing
  region : t.region = s.region
  applier : t.applier = s.applier
  trim : t.trim = s.trim
  keys : t.keys = s.keys
  checks : t.checks = s.checks
  unit : t.unit = s.unit
  nv : t.nv = s.nv
  pending : t.pending = s.pending

/-- What a change of CURRENT, with its readers, leaves alone: every block but the region unit, the frame timing unit, grid memory and the
ports (R115). -/
structure State.SameBesideRegion (s t : State) : Prop where
  power : t.power = s.power
  intake : t.intake = s.intake
  seq : t.seq = s.seq
  applier : t.applier = s.applier
  trim : t.trim = s.trim
  keys : t.keys = s.keys
  checks : t.checks = s.checks
  unit : t.unit = s.unit
  nv : t.nv = s.nv
  pending : t.pending = s.pending

/-- What a loss of input lock leaves alone: every block but the frame timing unit, the sequencer, the region unit and the ports (R91). -/
structure State.SameBesideLock (s t : State) : Prop where
  power : t.power = s.power
  grid : t.grid = s.grid
  intake : t.intake = s.intake
  applier : t.applier = s.applier
  trim : t.trim = s.trim
  keys : t.keys = s.keys
  checks : t.checks = s.checks
  unit : t.unit = s.unit
  nv : t.nv = s.nv
  pending : t.pending = s.pending

/-- What the end of a key table operation leaves alone: every block but the key table, the unit controller, the store and the ports. -/
structure State.SameBesideKeys (s t : State) : Prop where
  power : t.power = s.power
  grid : t.grid = s.grid
  intake : t.intake = s.intake
  seq : t.seq = s.seq
  timing : t.timing = s.timing
  region : t.region = s.region
  applier : t.applier = s.applier
  trim : t.trim = s.trim
  checks : t.checks = s.checks
  pending : t.pending = s.pending

/-! ### Collections (R49, R67, R68, R128, R146) -/

/-- No collection exceeds its capacity (the law of R49). -/
structure State.WithinCapacities (s : State) : Prop where
  list : s.seq.list.length ≤ 16
  history : s.seq.history.length ≤ 4
  queue : s.intake.queue.length ≤ 8
  reports : s.station.reports.length ≤ 16
  entries : s.keys.entries.length = 24

/-- Every table of grid memory has its size (R1, R8, R15, R19), and so have the held aim tables, the slots and the check slots. -/
structure State.Shaped (s : State) : Prop where
  colour : s.grid.colour.length = 15 ∧ ∀ slice ∈ s.grid.colour, slice.length = 576
  white : s.grid.white.length = 576
  zones : s.grid.zones.length = 144
  levels : s.grid.levels.length = 5
  aims : s.grid.aims.length = 16
  sticky : s.grid.sticky.length = 16
  held : ∀ tag aims clamped, HeldItem.setAims tag aims clamped ∈ s.grid.held → aims.length = 16
  slots : s.region.slots.length = 8
  checks : s.checks.length = 16

/-- No patch tag is held twice among list, current patch and history (R68). -/
def State.TagsUnique (s : State) : Prop := (s.seq.records.map (·.tag)).Nodup

/-- No key id is held by two entries (the law of R130). -/
def State.KeyIdsUnique (s : State) : Prop := (s.keys.entries.filterMap (fun e => e.map (·.id))).Nodup

/-- What each sequencer state means (R68, R72): a current patch and a running progress timer exactly in RUNNING and STOPPING, a pending
start only in ARMED, a halt or an advance asked for only during a run. -/
structure State.SeqLegal (s : State) : Prop where
  current : s.seq.current.isSome = s.seq.inRun
  progress : s.intake.progress.isSome = s.seq.inRun
  start : s.seq.startPending = true → s.seq.state = .armed
  halt : s.seq.haltRequested = true → s.seq.inRun = true
  advance : s.seq.advanceRequested = true → s.seq.inRun = true

/-! ### Grid values (R2, R3, R5, R7, R29) -/

/-- The tuning record lies within the ranges of R5. -/
structure Tuning.Legal (t : Tuning) : Prop where
  k : 1 ≤ t.k ∧ t.k ≤ 64
  kz : 1 ≤ t.kz ∧ t.kz ≤ 64
  kr : t.kr ≤ 63
  fineBand : 1 ≤ t.fineBand ∧ t.fineBand ≤ 2048
  lockWindow : 1 ≤ t.lockWindow ∧ t.lockWindow ≤ t.fineBand
  lockCount : 1 ≤ t.lockCount ∧ t.lockCount ≤ 8
  lockShift : t.lockShift ≤ 3
  iterationLimit : 1 ≤ t.iterationLimit ∧ t.iterationLimit ≤ 63
  progressIndex : t.progressIndex ≤ 15
  gmin : 1024 ≤ t.gmin ∧ t.gmin ≤ 2048
  gmax : 2048 ≤ t.gmax ∧ t.gmax ≤ 4095
  zmin : 64 ≤ t.zmin ∧ t.zmin ≤ 128
  zmax : 128 ≤ t.zmax ∧ t.zmax ≤ 255

/-- A node's gain, pin and streak under a tuning record (the law of R7, R2, R11). -/
structure NodeRec.Legal (t : Tuning) (n : NodeRec) : Prop where
  gain : n.cell.state ≠ .pinned → t.gmin ≤ n.cell.value ∧ n.cell.value ≤ t.gmax
  pin : n.cell.state = .pinned → n.cell.value = 16 * n.pin ∧ n.pin ≤ 255
  streak : n.cell.streak ≤ t.lockCount

/-- A zone's trim and streak under a tuning record (the law of R7, R3); a zone is never pinned (R4). -/
structure ZoneRec.Legal (t : Tuning) (z : ZoneRec) : Prop where
  trim : t.zmin ≤ z.cell.value ∧ z.cell.value ≤ t.zmax
  streak : z.cell.streak ≤ t.lockCount
  state : z.cell.state ≠ .pinned

/-- Gains and trims lie within the limits of the tuning record in force, PINNED nodes apart, and no streak exceeds C (the law of
R7). A row in process works under that same record (R6), and a held pin value fits its byte. -/
structure State.GridLegal (s : State) : Prop where
  tuning : s.grid.tuning.Legal
  row : ∀ r, s.intake.inProcess = some r → r.tuning = s.grid.tuning
  nodes : ∀ slice ∈ s.grid.colour, ∀ n ∈ slice, n.Legal s.grid.tuning
  zones : ∀ z ∈ s.grid.zones, z.Legal s.grid.tuning
  held : ∀ tag slice node value, HeldItem.setPin tag slice node value ∈ s.grid.held → value ≤ 255

/-- What a commit leaves in the store, as start-up reads it (R20, R168): a legal tuning record, and a grid record whose trims lie within
its limits and whose gains outside them are multiples of 16 that a pin byte can give. -/
structure NvStore.GridStored (nv : NvStore) : Prop where
  tuning : nv.loadedTuning.Legal
  gains : ∀ slice ∈ nv.loadedImage.gains, ∀ g ∈ slice,
    (nv.loadedTuning.gmin ≤ g ∧ g ≤ nv.loadedTuning.gmax) ∨ (g % 16 = 0 ∧ g ≤ 4080)
  trims : ∀ t ∈ nv.loadedImage.trims, nv.loadedTuning.zmin ≤ t ∧ t ≤ nv.loadedTuning.zmax

/-- The newest valid copy of the unit record carries mark CLOSED, under which start-up loads the stored records (R20, R161). -/
def NvStore.MarkedClosed (nv : NvStore) : Prop := ∃ copy r, nv.newest = some (copy, r) ∧ r.mark = .closed

/-- The write in flight is that of the unit record copy which is not the newest, with the next generation and this mark (R159). -/
def NvStore.WritesMark (nv : NvStore) (mark : Mark) (w : NvWrite) : Prop :=
  w.place = nv.target ∧ ∃ r : UnitRecord, w.data = r.bytes ∧ r.generation = nv.nextGeneration ∧ r.mark = mark

/-- How far a commit has brought the records: the write its step has in flight, and the records before it written from the grid (R168). -/
def State.CommitWrites (s : State) (w : NvWrite) : CommitStep → Prop
  | .closingMark => s.nv.WritesMark .closing w
  | .gridRecord => w.place = .gridRecord ∧ w.data = s.grid.image.bytes
  | .regionRecord => w.place = .regionRecord ∧ s.nv.gridRecord = some s.grid.image.bytes
  | .tuningRecord =>
    w.place = .tuningRecord ∧ w.data = s.grid.tuning.bytes ∧ s.nv.gridRecord = some s.grid.image.bytes
  | .closedMark _ =>
    s.nv.WritesMark .closed w ∧ s.nv.gridRecord = some s.grid.image.bytes ∧ s.nv.tuningRecord = some s.grid.tuning.bytes

/-- What each operation has in flight toward the store (R136, R139, R165, R168, R172). -/
def State.OpWrites (s : State) (w : NvWrite) : NvOp → Prop
  | .openWrite _ _ _ => s.nv.WritesMark .opened w
  | .commit _ step => s.CommitWrites w step
  | .reopenWrite _ => s.nv.WritesMark .opened w
  | .keyFix => ∃ offset, w.place = .keyArea offset
  | .keyWithdraw => ∃ offset, w.place = .keyArea offset

/-- Under mark CLOSED the stored records are legal, a running part outside CLOSED does not stand under that mark, and the operation in flight writes
what its rule gives. -/
structure State.StoreLegal (s : State) : Prop where
  stored : s.nv.MarkedClosed → s.nv.GridStored
  unclosed : s.power = .running → s.unit.phase ≠ .closed → ¬ s.nv.MarkedClosed
  writes : ∀ w op, s.nv.write = some w → s.unit.op = some op → s.OpWrites w op

/-- The unit record fits its 35 bytes (R189): below the generations that its 4 bytes cannot hold (log 16), a rework count of one byte, a serial
number of at most 24 characters. -/
structure UnitRecord.Storable (r : UnitRecord) : Prop where
  generation : r.generation ≤ 4294967295
  rework : r.rework ≤ 255
  serial : r.serial.length ≤ 24
  identity : ∀ i, r.identity = some i → i.line ≤ 255 ∧ i.station ≤ 65535

/-- The image has the shape of the working grid, and its values fit their bytes (R168, 11.4). -/
structure GridImage.Storable (g : GridImage) : Prop where
  gains : g.gains.length = 15 ∧ ∀ slice ∈ g.gains, slice.length = 576 ∧ ∀ gain ∈ slice, gain ≤ 65535
  trims : g.trims.length = 144 ∧ ∀ trim ∈ g.trims, trim ≤ 255
  levels : g.levels.length = 5 ∧ ∀ code ∈ g.levels, code ≤ 65535

/-- The profile's values fit their bytes (R110, 11.4). -/
structure Profile.Storable (p : Profile) : Prop where
  code : p.code ≤ 65535
  mains : p.mains ≤ 255
  ceiling : p.ceiling ≤ 65535
  language : p.language.length = 3

/-- A recorded error lies within -4096 to +4096 (R29). -/
def errorLegal (e : Option Int) : Prop := ∀ x, e = some x → x.natAbs ≤ 4096

/-- Every recorded error lies within its range (the law of R29), and so does what a zone gathers (R3, R45). -/
structure State.ErrorsLegal (s : State) : Prop where
  nodes : ∀ slice ∈ s.grid.colour, ∀ n ∈ slice, errorLegal n.lastError
  white : ∀ w ∈ s.grid.white, errorLegal w.lastError
  zones : ∀ z ∈ s.grid.zones, z.pendingSum.natAbs ≤ 4096 * z.pendingCount ∧ z.pendingCount ≤ 3

/-- No applied_at is ahead of the show number (R2, R26, R71). -/
structure State.StampsLegal (s : State) : Prop where
  nodes : ∀ slice ∈ s.grid.colour, ∀ n ∈ slice, n.cell.appliedAt ≤ s.seq.showNumber
  zones : ∀ z ∈ s.grid.zones, z.cell.appliedAt ≤ s.seq.showNumber
  range : s.seq.showNumber ≤ maxShow

/-- The row in process has its next column within the row, and its four count tallies add up to the counts taken (R23, R24); a row of a
colour slice has updated no zone. -/
def State.RowLegal (s : State) : Prop :=
  ∀ r, s.intake.inProcess = some r →
    r.column < 32 ∧ r.tally.applied + r.tally.stale + r.tally.recordedOnly + r.tally.unusable = r.column ∧
      (r.row.slice ≠ 15 → r.tally.zonesUpdated = 0)

/-- No row waits with the engine idle (R55): with no row in process grid memory holds nothing, and the queue is empty but while the marker read
of a completion's own moment is still to be taken (R127). Outside OPEN, and while a reset is held, the intake is empty. -/
structure State.RowsBegin (s : State) : Prop where
  held : s.intake.inProcess = none → s.grid.held = []
  begun : s.intake.inProcess = none → s.intake.queue ≠ [] → ∃ pixels rest, s.pending = .markerRead ⟨pixels, true⟩ :: rest
  closed : s.unit.phase ≠ .opened ∨ s.power ≠ .running → s.intake.queue = [] ∧ s.intake.inProcess = none

/-! ### Operations in flight (R158, R160) -/

/-- The operation a key table operation is registered as (R128, R160). -/
def KeyOp.kind : KeyOp → NvOp
  | .fix _ _ _ _ _ => .keyFix
  | .withdraw _ _ => .keyWithdraw

/-- The operation belongs to the key table. -/
def NvOp.ofKeys : NvOp → Bool
  | .keyFix | .keyWithdraw => true
  | .openWrite _ _ _ | .commit _ _ | .reopenWrite _ => false

/-- The phase an operation in flight is carried in (R136, R139, R165, R167, R172); CLOSING is the commit's alone. -/
def UnitPhase.suits (phase : UnitPhase) : Option NvOp → Prop
  | none => phase ≠ .closing
  | some (.openWrite _ _ _) => phase = .blank
  | some (.commit _ _) => phase = .closing
  | some (.reopenWrite _) => phase = .closed
  | some .keyFix => phase = .opened
  | some .keyWithdraw => phase = .opened

/-- The operation in flight, the key table's progress, the write in flight, the phase, a pending reset and a held reset agree. -/
structure State.OpsAgree (s : State) : Prop where
  keys : s.keys.op.map KeyOp.kind = s.unit.op.filter NvOp.ofKeys
  phase : s.unit.phase.suits s.unit.op
  write : s.nv.write.isSome = s.unit.op.isSome
  reset : s.unit.resetPending = true → s.unit.op = none
  held : s.power ≠ .running → s.unit.op = none

/-- The replies the station port's owners owe (R178): rows, held requests, and the one reply deferred on an operation. -/
def State.owed (s : State) : Nat := s.intake.occupancy + s.grid.heldRequests + (if s.unit.op.isSome then 1 else 0)

/-- The reply queues have room for every reply owed (R178): at most 8 rows wait, at most 4 requests are held, and what waits in the
queue and what is owed together stay below the queue's 32 places. -/
structure State.RepliesFit (s : State) : Prop where
  queue : s.intake.queue.length ≤ 8
  held : s.grid.heldRequests ≤ 4
  station : s.station.replies.length + s.owed ≤ 30
  system : s.system.replies.length ≤ 2

/-! ### Regions, closure and rework (R113, R116, R117, R161, R172) -/

/-- CURRENT in phase OPEN, the conflict flag and the unknown condition are what R113, R116 and R117 make of GIVEN, SENSED and the
profiles. -/
structure State.RegionAgrees (s : State) : Prop where
  current : s.unit.phase = .opened → s.region.current = s.region.computed
  conflict : s.region.conflict = conflictFlag s.region.given s.region.sensed s.region.sensedValid
  unknown :
    s.region.unknown =
      unknownCondition s.unit.phase s.region.given s.region.sensedValid (s.region.profileFor s.region.sensed).isSome

/-- CURRENT is unset until the unit is opened (R113), and in CLOSING and CLOSED it is set and its required classes hold FIXED keys (the
law of R161). -/
structure State.ClosureLegal (s : State) : Prop where
  unset : s.unit.phase = .blank ∨ s.unit.phase = .parked → s.region.current = none
  closed : s.unit.phase = .closing ∨ s.unit.phase = .closed → s.keys.satisfies s.region.current = true

/-- The rework count a unit record copy's bytes would load, if they are valid, is at most 3. -/
def reworkStored (copy : Option (List Byte)) : Prop := ∀ r, copy.bind UnitRecord.ofBytes = some r → r.rework ≤ 3

/-- The rework count never exceeds 3 (the law of R172): not in the unit controller, nor in a copy, nor in the write in flight; and a
REOPEN in flight found it below 3. -/
structure State.ReworkLegal (s : State) : Prop where
  held : s.unit.rework ≤ 3
  copyA : reworkStored s.nv.copyA
  copyB : reworkStored s.nv.copyB
  write : ∀ w, s.nv.write = some w → w.place = .copyA ∨ w.place = .copyB → reworkStored (some w.data)
  reopening : ∀ tag, s.unit.op = some (.reopenWrite tag) → s.unit.rework ≤ 2

/-! ### The key area's spaces (R135, R141) -/

/-- One space of the key area as a start-up reads it: its size, and its key, if it has one. -/
structure AreaSpace where
  size : Nat
  key : Option KeyEntry
  deriving DecidableEq, Repr

/-- The key area holds these spaces end to end, from offset `x` to `fin`: at each the space word gives the size, and the marks and the
header the key (R135, R141). -/
def SpacesLaid (area : List Host.Cell) (x : Nat) (spaces : List AreaSpace) (fin : Nat) : Prop :=
  match spaces with
  | [] => x = fin
  | sp :: rest =>
    readSpaceWord x (Cells.readAll area x 4) = .length sp.size ∧ keyAt area x = sp.key ∧ SpacesLaid area (x + sp.size) rest fin

/-! ### The commands -/

/-- The command begins or ends a reset: RESET, STARTUP_LOADING, or the end of PART_RESET's reply. -/
def resets (c : Instr) (s : State) : Prop :=
  (∃ source cut, c = .reset source cut) ∨ c = .startupLoading ∨
    (∃ p, c = .transmissionComplete p ∧ s.unit.resetPending = true)

/-! ### Runs of commands -/

/-- Run commands one after another through `exec`, stopping at the first that gives no next state. -/
def execAll : List Instr → State → Host.Outcome State Fault Refusal
  | [], s => .next s
  | c :: rest, s =>
    match exec c s with
    | .next t => execAll rest t
    | .fault f => .fault f
    | .refused r => .refused r

/-- A part that runs, in the given phase, fresh from a reset otherwise: the ground of small examples. -/
def State.sample (phase : UnitPhase) : State :=
  let s := (State.volatileReset .powerOn .unwritten [] 0).setPower .running
  s.setUnit { s.unit with phase := phase }

end Sys2Proof.Machine
end

