-- ==== Sys2Proof/Certificates/Slice0/Obligations.lean ====
section
/-! DEFINITION. The statements for the provers. A statement about a command gives the whole next state as an equation: what the blocks become,
the reply or report formed, then the arbiters; `RepliesAndArbitersTouchThePortsAlone` says what those last operations leave alone. -/

section
open Sys2Proof Sys2Proof.Machine

/-! ### The step and the commands -/

/-- One step takes the front command of the queue and runs it with the queue's rest; with no command waiting it changes nothing, which is
the model's choice (log 1). -/
def Obligations.StepRunsTheFrontCommand : Prop :=
  ∀ (s : State) (c : Instr) (rest : List Instr),
    (s.pending = c :: rest → step s = exec c (s.setPending rest)) ∧ (s.pending = [] → step s = .next s)

/-- Every command of the part gives a next state and leaves the queue alone; only a command no part can meet is refused (log 23). -/
def Obligations.EveryWellFormedCommandCompletes : Prop :=
  ∀ (c : Instr) (s : State),
    (c.wellFormed = true → ∃ t, exec c s = .next t ∧ t.pending = s.pending) ∧
      (c.wellFormed = false → exec c s = .refused .illFormed)

/-- The bytes of a request are read back as that request, or as none where the length does not suit the kind (R186, R187). -/
def Obligations.RequestSurvivesItsPayload : Prop :=
  ∀ r : Request, r.wellFormed = true →
    r.payload.length = r.payloadLength ∧ parseRequest r.kind r.payload = if r.lengthSuits then some r else none

/-- The bytes of a request's frame, received one by one by a hunting receiver of a quiet part, do what the request command does (R175,
R176, R179; log 3). -/
def Obligations.FrameBytesDeliverTheRequest : Prop :=
  ∀ (c : Instr) (p : Port) (tag : Byte) (r : Request) (s : State),
    c.request? = some (p, tag, r) → r.wellFormed = true → s.power = .running → (s.port p).Hunting → s.Quiet →
      execAll ((Frame.wire { kind := r.kind, tag := tag, payload := r.payload }).map (fun b => .byteReceived p b true)) s = exec c s

/-- Replies and reports change nothing but the record of the port they go to: a reply joins its port's queue at the tail, a report the report
queue or, that being full, the reports-dropped flag (R180, R182).

The arbiters change nothing but the ports. A transmitter that sends goes on; a free one begins the reply at the head of its port's queue, and
the station's, with no reply waiting, the report at the head of the report queue (R181; log 9 for a reply and a report of one event). The
reports-dropped flag rides on an OK STATUS reply as it begins, which clears it on the station port and leaves it on the system port (R182); a
refused STATUS carries and clears none, by the model's reading (log 34).

TRANSMISSION_COMPLETE on the system port begins that port's next reply, or leaves its transmitter free, and changes nothing else. -/
def Obligations.RepliesAndArbitersTouchThePortsAlone : Prop :=
  (∀ (s : State) (p : Port) (kind tag : Byte) (status : Status) (fields payload : List Byte),
     s.SameBlocks (s.reply p kind tag status fields) ∧
       (s.reply p kind tag status fields).port p =
         { s.port p with replies := (s.port p).replies ++ [replyFrame kind tag status fields] } ∧
       (∀ q, q ≠ p → (s.reply p kind tag status fields).port q = s.port q) ∧
       s.SameBlocks (s.report kind payload) ∧ (s.report kind payload).system = s.system ∧
       (s.station.reports.length < 16 →
         (s.report kind payload).station =
           { s.station with reports := s.station.reports ++ [{ kind := kind, tag := 0, payload := payload }] }) ∧
       (16 ≤ s.station.reports.length → (s.report kind payload).station = { s.station with dropped := true })) ∧
  (∀ s : State,
     s.SameBlocks s.arbitrate ∧ s.arbitrate.choices = s.choices ∧
       (s.station.sending.isSome = true → s.arbitrate.station = s.station) ∧
       (∀ f rest, s.station.sending = none → s.station.replies = f :: rest →
         s.arbitrate.station =
           { s.station with
             replies := rest
             sending := some (f.begun s.station.dropped)
             dropped := s.station.dropped && !f.isStatusReply }) ∧
       (∀ f rest, s.station.sending = none → s.station.replies = [] → s.station.reports = f :: rest →
         s.arbitrate.station = { s.station with reports := rest, sending := some f }) ∧
       (s.station.sending = none → s.station.replies = [] → s.station.reports = [] → s.arbitrate.station = s.station) ∧
       (s.system.sending.isSome = true ∨ s.system.replies = [] → s.arbitrate.system = s.system) ∧
       (∀ f rest, s.system.sending = none → s.system.replies = f :: rest →
         s.arbitrate.system =
           { s.system with
             replies := rest
             sending := some (f.begun s.arbitrate.station.dropped)
             dropped := s.system.dropped && !f.isStatusReply }) ∧
       (s.Quiet → s.arbitrate = s)) ∧
  (∀ (f : Frame) (dropped : Bool),
     (f.kind = 0x81 → f.payload.head? = some 0x00 →
         f.isStatusReply = true ∧ f.begun dropped = { f with payload := f.payload.dropLast ++ flag dropped }) ∧
       (f.kind ≠ 0x81 ∨ f.payload.head? ≠ some 0x00 → f.isStatusReply = false ∧ f.begun dropped = f)) ∧
  (∀ (s : State) (f : Frame), s.power = .running → s.Quiet → s.system.sending = some f →
     (∀ r rest, s.system.replies = r :: rest →
         exec (.transmissionComplete .system) s =
           .next (s.setSystem
             { s.system with
               replies := rest
               sending := some (r.begun s.station.dropped)
               dropped := s.system.dropped && !r.isStatusReply })) ∧
       (s.system.replies = [] →
         exec (.transmissionComplete .system) s = .next (s.setSystem { s.system with sending := none })))

/-! ### Ports and screening -/

/-- A frame that completes while its port's reply queue is at the threshold is neither screened nor delivered: FRAME_ERROR with reason
OVERRUN on the station port, nothing on the system port (R178); its count of bytes received, the whole frame's, is the model's choice (log
29).

While reset pending is yes, a request on either port is not taken and receives no reply (R163, R179). -/
def Obligations.SomeFramesAreNotDelivered : Prop :=
  (∀ (c : Instr) (tag : Byte) (r : Request) (s : State), r.wellFormed = true → s.power = .running → s.unit.resetPending = false →
     (c.request? = some (.station, tag, r) → 16 ≤ s.station.replies.length →
         exec c s =
           .next (s.report 0x79 ([1, 4] ++ u16 (r.payloadLength + 7) ++ u16 (r.payloadLength + 2))).arbitrate) ∧
       (c.request? = some (.system, tag, r) → 2 ≤ s.system.replies.length → exec c s = .next s.arbitrate)) ∧
  (∀ (c : Instr) (p : Port) (tag : Byte) (r : Request) (s : State),
     c.request? = some (p, tag, r) → r.wellFormed = true → s.power = .running → s.unit.resetPending = true →
       exec c s = .next s.arbitrate)

/-- The system port serves STATUS, READ_REGION and KEY_FETCH alone, and the station port no KEY_FETCH: the rest is refused DENIED and
changes nothing (R179 checks 2 and 3).

A served request with tag 0 is refused BAD_VALUE, and one whose payload length does not suit its kind BAD_LENGTH; nothing else changes
(R179 checks 4 and 5).

While the unit is CLOSED the station port refuses WRONG_PHASE every request but those R171 lists, and nothing else changes. -/
def Obligations.ScreeningRefusesInOrder : Prop :=
  (∀ (c : Instr) (tag : Byte) (r : Request) (s : State),
     r.wellFormed = true → s.power = .running → s.unit.resetPending = false →
       (c.request? = some (.system, tag, r) → s.system.replies.length < 2 → r.kind ∉ systemKinds →
           exec c s = .next (s.reply .system r.kind tag .denied []).arbitrate) ∧
         (c.request? = some (.station, tag, r) → s.station.replies.length < 16 → r.kind = 0x03 →
           exec c s = .next (s.reply .station r.kind tag .denied []).arbitrate)) ∧
  (∀ (c : Instr) (p : Port) (tag : Byte) (r : Request) (s : State),
     c.request? = some (p, tag, r) → r.wellFormed = true → s.power = .running → s.unit.resetPending = false →
       (s.port p).replies.length < overrunThreshold p → (p = .system → r.kind ∈ systemKinds) → (p = .station → r.kind ≠ 0x03) →
         (tag = 0 → exec c s = .next (s.reply p r.kind tag .badValue []).arbitrate) ∧
           (tag ≠ 0 → r.lengthSuits = false → exec c s = .next (s.reply p r.kind tag .badLength []).arbitrate)) ∧
  (∀ (c : Instr) (tag : Byte) (r : Request) (s : State),
     c.request? = some (.station, tag, r) → r.wellFormed = true → r.lengthSuits = true → s.Admits .station tag →
       s.unit.phase = .closed → r.kind ≠ 0x03 →
         r ≠ .status → r ≠ .readRegion → (∀ slice first count, r ≠ .readNodes slice first count) →
           (∀ first count, r ≠ .readZones first count) → r ≠ .keyList → r ≠ .evaluate → r ≠ .reopen → r ≠ .partReset →
             exec c s = .next (s.reply .station r.kind tag .wrongPhase []).arbitrate)

/-- A request on the system port, whatever it is, changes no block but the system port's own. -/
def Obligations.SystemPortReadsAlone : Prop :=
  ∀ (c : Instr) (tag : Byte) (r : Request) (s t : State),
    c.request? = some (.system, tag, r) → exec c s = .next t → s.SameBlocks t ∧ (s.Quiet → t.station = s.station)

/-- The receiver, byte by byte (R176): a start byte opens a frame, the length bytes are kept and judged, body bytes are kept until the last,
then the CRC's first byte; the second CRC byte of a damaged frame discards it with reason CRC, and a length outside 2 to 1026 with reason
LENGTH.

A character without its stop bit and an expiry of the running gap timer abandon the frame being assembled with reasons CHARACTER and GAP; such a
character in HUNT changes nothing (R177). That the character counts among the bytes received is the model's choice (log 27), and that an expiry of
the gap timer while it is stopped changes nothing is the model's reading (log 2). Every fault is FRAME_ERROR on the
station port while reset pending is no, with the length once both its bytes are there, and silence on the system port (R178).

An intact frame of a kind that names no request is refused UNKNOWN_KIND on the station port and DENIED on the system port; its reply's kind is
0xFF when the kind lies outside 0x01 to 0x7F (R179, R180). -/
def Obligations.ReceiverAssemblesAndAbandonsFrames : Prop :=
  ∀ (s : State) (p : Port) (b lo : Byte), s.power = .running →
    let kept (stage : RxStage) (buffer : List Byte) : Host.Outcome State Fault Refusal :=
      .next (s.setPort p { s.port p with stage := stage, buffer := buffer, gapRunning := true }).arbitrate
    let hunting : State := s.setPort p { s.port p with stage := .hunt, buffer := [], gapRunning := false }
    let ends (fault : List Byte) : Host.Outcome State Fault Refusal :=
      .next (if p = .station ∧ s.unit.resetPending = false then hunting.report 0x79 fault else hunting).arbitrate
    let buffer := (s.port p).buffer
    ((s.port p).stage = .hunt →
        exec (.byteReceived p 0xA5 true) s = kept .length [0xA5] ∧
          (b ≠ 0xA5 → exec (.byteReceived p b true) s = .next s.arbitrate) ∧
          exec (.byteReceived p b false) s = .next s.arbitrate) ∧
      ((s.port p).stage = .length → buffer = [0xA5] → exec (.byteReceived p b true) s = kept .length [0xA5, b]) ∧
      ((s.port p).stage = .length → buffer = [0xA5, lo] →
        (2 ≤ (half lo b).toNat → (half lo b).toNat ≤ 1026 → exec (.byteReceived p b true) s = kept .body [0xA5, lo, b]) ∧
          ((half lo b).toNat < 2 ∨ 1026 < (half lo b).toNat → exec (.byteReceived p b true) s = ends ([1, 0, 3, 0, lo, b]))) ∧
      (∀ length, (s.port p).lengthField = some length →
        ((s.port p).stage = .body → buffer.length + 1 < length + 3 →
            exec (.byteReceived p b true) s = kept .body (buffer ++ [b])) ∧
          ((s.port p).stage = .body → buffer.length + 1 = length + 3 →
            exec (.byteReceived p b true) s = kept .crc (buffer ++ [b])) ∧
          ((s.port p).stage = .crc → buffer.length = length + 3 →
            exec (.byteReceived p b true) s = kept .crc (buffer ++ [b])) ∧
          ((s.port p).stage = .crc → buffer.length = length + 4 →
            crc16 (coveredBytes (buffer ++ [b]) length) ≠ receivedCrc (buffer ++ [b]) length →
              exec (.byteReceived p b true) s = ends ([1, 1] ++ u16 (length + 5) ++ u16 length)) ∧
          ((s.port p).stage ≠ .hunt →
            exec (.byteReceived p b false) s = ends ([1, 3] ++ u16 (buffer.length + 1) ++ u16 length)) ∧
          ((s.port p).gapRunning = true →
            exec (.portGapTimerExpiry p) s = ends ([1, 2] ++ u16 buffer.length ++ u16 length))) ∧
      ((s.port p).lengthField = none →
        ((s.port p).stage ≠ .hunt →
            exec (.byteReceived p b false) s = ends ([0, 3] ++ u16 (buffer.length + 1) ++ [0, 0])) ∧
          ((s.port p).gapRunning = true → exec (.portGapTimerExpiry p) s = ends ([0, 2] ++ u16 buffer.length ++ [0, 0]))) ∧
      ((s.port p).gapRunning = false → exec (.portGapTimerExpiry p) s = .next s.arbitrate) ∧
      (∀ f : Frame, (s.port p).stage = .crc → buffer ++ [b] = f.wire → f.payload.length ≤ 1024 → s.unit.resetPending = false →
        (s.port p).replies.length < overrunThreshold p → f.kind ∉ requestKinds →
          exec (.byteReceived p b true) s =
            .next (hunting.passReply p
              { kind := if 1 ≤ f.kind.toNat ∧ f.kind.toNat ≤ 0x7F then f.kind + 0x80 else 0xFF
                tag := f.tag
                payload := [if p = .station then 0x01 else 0x1E] }).arbitrate)

/-- The end of a frame frees the station port's transmitter for the next reply, or else the next report (R181); the reports-dropped flag rides on
an OK STATUS reply as it begins and is cleared by it (R182). Any other reply leaves the flag as it is; that a refused STATUS does so too is the
model's reading (log 34). The system port's transmitter sends meanwhile, or is idle with no reply waiting. -/
def Obligations.TransmitterServesRepliesFirst : Prop :=
  ∀ (s : State) (f r : Frame) (rest : List Frame), s.power = .running → s.unit.resetPending = false →
    s.system.sending.isSome = true ∨ s.system.replies = [] → s.station.sending = some f →
      (s.station.replies = r :: rest → r.isStatusReply = false →
          exec (.transmissionComplete .station) s = .next (s.setStation { s.station with replies := rest, sending := some r })) ∧
        (s.station.replies = r :: rest → r.isStatusReply = true →
          exec (.transmissionComplete .station) s =
            .next (s.setStation
              { s.station with
                replies := rest
                sending := some { r with payload := r.payload.dropLast ++ flag s.station.dropped }
                dropped := false })) ∧
        (s.station.replies = [] → s.station.reports = r :: rest →
          exec (.transmissionComplete .station) s = .next (s.setStation { s.station with reports := rest, sending := some r })) ∧
        (s.station.replies = [] → s.station.reports = [] →
          exec (.transmissionComplete .station) s = .next (s.setStation { s.station with sending := none }))

/-! ### Resets and start-up -/

/-- The model holds the part in reset until STARTUP_LOADING (log 4). A reset brings every volatile block to its value after reset, spelled
here field by field, keeps the store as the write in flight left it, and holds the part with the cause that arose last (R162, R164, and each
chapter's "after any reset"). What the blocks that start-up fills hold while the reset is held, the key table, the applier with its image and
the internal rate, is the model's choice (log 17). The counter of free choices is the model's own and passes through (log 10).

At start-up the key table comes back from the key area (R135, R141): the keys found, space after space, fill the entries in their order, and
the fill point stands where the spaces end, at a blank word, at the area's end, or at a torn word, which closes the area. Of more than 24 keys
found the first 24 are kept, by the model's choice (log 21). -/
def Obligations.ResetLosesVolatileState : Prop :=
  (∀ (s : State) (source : ResetSource) (cut : WriteOutcome),
     ∃ t, exec (.reset source cut) s = .next t ∧ t.power = .held (causeOf source) ∧ t.pending = s.pending ∧
       t.choices = s.choices ∧ t.nv = s.nv.endWrite cut ∧ (s.nv.write = none → t.nv = s.nv) ∧
       t.grid =
         { colour :=
             List.replicate 15 (List.replicate 576
               { cell := { value := 2048, state := .seeking, streak := 0, iterations := 0, appliedAt := 0, saturated := false }
                 lastMeasured := none
                 lastError := none
                 pin := 0 })
           white := List.replicate 576 { lastMeasured := none, lastError := none, heldShow := none }
           zones :=
             List.replicate 144
               { cell := { value := 128, state := .seeking, streak := 0, iterations := 0, appliedAt := 0, saturated := false }
                 pendingSum := 0
                 pendingCount := 0
                 pendingShow := none
                 pendingShort := false }
           tuning :=
             { k := 40, kz := 32, kr := 16, fineBand := 164, lockWindow := 41, lockCount := 2, lockShift := 1, iterationLimit := 12,
               progressIndex := 4, gmin := 1536, gmax := 2560, zmin := 96, zmax := 160 }
           levels := [64, 256, 512, 768, 1023]
           aims := List.replicate 16 0
           ceiling := none
           phase := .coarse
           sticky := List.replicate 16 false
           held := [] } ∧
       t.intake = { queue := [], inProcess := none, progress := none } ∧
       t.seq =
         { list := [], current := none, history := [], showNumber := 0, state := .idle, startPending := false,
           haltRequested := false, advanceRequested := false } ∧
       t.timing =
         { source := .internal, lock := false, matchCount := 0, reference := none, rate := 60, deferred := none,
           gapRunning := false, generator := none } ∧
       t.region =
         { slots := List.replicate 8 none, committed := none, given := 0, current := none, sensed := 0, sensedValid := false,
           markerPresent := false, missCount := 0, lastMarker := none, pendingHigh := none, identity := none, conflict := false,
           unknown := false, lineArmed := false } ∧
       t.applier =
         { mode := .bypass
           committed :=
             { gains := List.replicate 15 (List.replicate 576 2048)
               trims := List.replicate 144 128
               levels := [64, 256, 512, 768, 1023] }
           view := none
           picture := none } ∧
       t.trim = { dirty := true, lastSent := none, inFlight := none, sequence := 0 } ∧
       t.keys = { entries := List.replicate 24 none, fill := 0, areaClosed := false, op := none } ∧
       t.checks =
         List.replicate 16
           { quantity := .uniformity
             argument := 0
             limit := 0
             mask := { less := false, greater := false, equal := false, magLess := false, magGreater := false }
             absent := .pass } ∧
       t.unit =
         { phase := .blank, serial := none, rework := 0, identity := none, cause := causeOf source, op := none,
           resetPending := false } ∧
       (∀ p, t.port p =
         { stage := .hunt, buffer := [], gapRunning := false, replies := [], reports := [], dropped := false, sending := none }) ∧
       ∃ u, exec .startupLoading t = .next u ∧ u.power = .running ∧ u.keys = KeyTable.rebuilt (s.nv.endWrite cut).keyArea) ∧
  (∀ (area : List Host.Cell) (spaces : List AreaSpace) (fin : Nat), SpacesLaid area 0 spaces fin →
     let found : List KeyEntry := spaces.filterMap (·.key)
     let table (closed : Bool) : KeyTable :=
       { entries := (found.take 24).map some ++ List.replicate (24 - found.length) none, fill := fin, areaClosed := closed,
         op := none }
     (fin = 16384 → KeyTable.rebuilt area = table false) ∧
       (fin < 16384 → readSpaceWord fin (Cells.readAll area fin 4) = .blankWord → KeyTable.rebuilt area = table false) ∧
       (fin < 16384 → readSpaceWord fin (Cells.readAll area fin 4) = .torn → KeyTable.rebuilt area = table true))

/-- Start-up loading follows the newest valid copy's mark (R161; a copy without its check code is held as none, log 6): none gives BLANK,
OPEN or CLOSING gives PARKED, both in BYPASS over the unity grid; CLOSED gives CLOSED in COMMITTED, with the records loaded. In every case
the key table is rebuilt from the key area.

Under CLOSED every colour node is loaded with its gain, SEEKING within the loaded limits, and outside them PINNED with a pin of a sixteenth of it;
every zone with its trim, SEEKING; the rest of the grid is as after a reset, with the white ceiling of the committed region (R9, R20); the region
unit holds the committed profile, with CURRENT at it, and nothing else (R118).

The bytes of a stored record are read back as that record, for every value of every field: a unit record (R159, R189), a grid record, a tuning
record and a region record (R168). -/
def Obligations.StartupFollowsTheStoredMark : Prop :=
  (∀ (s : State) (cause : ResetCause), s.power = .held cause →
     ∃ t, exec .startupLoading s = .next t ∧ t.power = .running ∧ t.unit.cause = cause ∧ t.unit.op = none ∧
       t.unit.resetPending = false ∧ t.nv = s.nv ∧ t.keys = KeyTable.rebuilt s.nv.keyArea ∧
       t.timing.generator = some t.timing.rate ∧ t.seq = .fresh ∧ t.intake = .fresh ∧ t.trim = .fresh ∧
       t.checks = List.replicate 16 .fresh ∧ t.station = .fresh ∧ t.system = .fresh ∧
       (s.nv.newest = none →
         t.unit.phase = .blank ∧ t.unit.serial = none ∧ t.unit.rework = 0 ∧ t.unit.identity = none ∧ t.grid = .fresh ∧
           t.applier.mode = .bypass ∧ t.region.current = none ∧ t.timing.rate = 60) ∧
       (∀ copy r, s.nv.newest = some (copy, r) → r.mark ≠ .closed →
         t.unit.phase = .parked ∧ t.unit.serial = some r.serial ∧ t.unit.rework = r.rework ∧ t.unit.identity = r.identity ∧
           t.grid = .fresh ∧ t.applier.mode = .bypass ∧ t.region.current = none ∧ t.region.committed = none ∧
           t.timing.rate = 60) ∧
       (∀ copy r p, s.nv.newest = some (copy, r) → r.mark = .closed → s.nv.loadedProfile = some p →
         t.unit.phase = .closed ∧ t.unit.serial = some r.serial ∧ t.unit.rework = r.rework ∧ t.unit.identity = r.identity ∧
           t.grid.tuning = s.nv.loadedTuning ∧ t.grid.levels = s.nv.loadedImage.levels ∧
           trimsOf t.grid.zones = s.nv.loadedImage.trims ∧ t.grid.gains = s.nv.loadedImage.gains ∧
           t.grid.colour = s.nv.loadedImage.gains.map (fun slice => slice.map (loadedNode s.nv.loadedTuning)) ∧
           t.grid.zones =
             s.nv.loadedImage.trims.map (fun trim =>
               { cell := { value := trim, state := .seeking, streak := 0, iterations := 0, appliedAt := 0, saturated := false }
                 pendingSum := 0
                 pendingCount := 0
                 pendingShow := none
                 pendingShort := false }) ∧
           t.grid.white = List.replicate 576 { lastMeasured := none, lastError := none, heldShow := none } ∧
           t.grid.sticky = List.replicate 16 false ∧ t.grid.phase = .coarse ∧ t.grid.ceiling = some p.ceiling ∧
           t.grid.held = [] ∧ t.region.given = 0 ∧ t.region.sensedValid = false ∧ t.region.slots = List.replicate 8 none ∧
           t.region.markerPresent = false ∧ t.region.identity = none ∧ t.region.conflict = false ∧ t.region.unknown = false ∧
           t.grid.aims = List.replicate 16 0 ∧ t.applier.mode = .committed ∧ t.applier.committed = s.nv.loadedImage ∧
           t.region.committed = some p ∧ t.region.current = some { code := p.code, place := .committed, profile := p } ∧
           t.timing.rate = p.mains)) ∧
  (∀ (t : Tuning) (gain : Nat),
     (t.gmin ≤ gain ∧ gain ≤ t.gmax →
         loadedNode t gain =
           { cell := { value := gain, state := .seeking, streak := 0, iterations := 0, appliedAt := 0, saturated := false }
             lastMeasured := none
             lastError := none
             pin := 0 }) ∧
       (gain < t.gmin ∨ t.gmax < gain → t.gmin ≤ t.gmax →
         loadedNode t gain =
           { cell := { value := gain, state := .pinned, streak := 0, iterations := 0, appliedAt := 0, saturated := false }
             lastMeasured := none
             lastError := none
             pin := gain / 16 })) ∧
  (∀ r : UnitRecord, r.Storable → UnitRecord.ofBytes r.bytes = some r) ∧
  (∀ g : GridImage, g.Storable → GridImage.ofBytes g.bytes = g) ∧
  (∀ t : Tuning, t.Legal → Tuning.ofBytes t.bytes = some t) ∧
  (∀ p : Profile, p.Storable → Profile.ofBytes p.bytes = some p)

/-! ### Requests that only read -/

/-- STATUS and READ_REGION, on either port, reply the state as it stands, field by field in the order of R188, and change nothing else (R126, R184).
An unset CURRENT has code 0 there (R186), and so has SENSED while sensed-valid is no; an absent field's bytes are 0.

READ_NODES and READ_ZONES reply the records asked for, in ascending index, and change nothing else; a range past the end is refused
BAD_VALUE (R21, R22).

KEY_LIST and EVALUATE reply in every phase and change nothing else (R142, R156). -/
def Obligations.ReadingRequestsReplyTheStateAsItStands : Prop :=
  (∀ (s : State) (p : Port) (tag : Byte), s.Admits p tag →
     let identity (i : Option StationId) : List Byte := match i with | none => [0, 0, 0] | some i => u8 i.line ++ u16 i.station
     let currentCode : List Byte := u16 ((s.region.current.map (·.code)).getD 0)
     let sensed : List Byte := u16 (if s.region.sensedValid = true then s.region.sensed else 0) ++ flag s.region.sensedValid
     let serial : List Byte :=
       match s.unit.serial with
       | none => List.replicate 25 0
       | some text => u8 text.length ++ (text ++ List.replicate 24 0).take 24
     let operation : Byte :=
       match s.unit.op with
       | none => 0
       | some (.openWrite _ _ _) => 1
       | some (.commit _ _) => 2
       | some (.reopenWrite _) => 3
       | some .keyFix => 4
       | some .keyWithdraw => 5
     let entries (state : KeyState) : List Byte := u8 ((s.keys.entries.filterMap id).countP (fun e => decide (e.state = state)))
     let place (place : ProfilePlace) : Byte := match place with | .slot n => BitVec.ofNat 8 n | .committed => 8
     exec (.status p tag) s =
         .next (s.reply p 0x01 tag .ok
           (u8 s.unit.phase.code ++ [bitByte [s.unit.serial.isSome, s.unit.identity.isSome, s.region.identity.isSome]] ++ serial ++
             u8 s.unit.rework ++ u8 s.unit.cause.code ++ [operation] ++ identity s.unit.identity ++ u8 s.seq.state.code ++
             flag s.seq.startPending ++ u32 s.seq.showNumber ++ u8 s.timing.source.code ++ flag s.timing.lock ++
             u8 s.grid.phase.code ++ u8 s.intake.queue.length ++ flag s.intake.inProcess.isSome ++ u8 s.applier.mode.code ++
             u16 s.region.given ++ currentCode ++ sensed ++ flag s.region.markerPresent ++ flag s.region.conflict ++
             identity s.region.identity ++ u8 (s.keys.entries.countP Option.isNone) ++ entries .loading ++ entries .staged ++
             entries .checkFailed ++ entries .fixed ++ entries .withdrawn ++ [0])).arbitrate ∧
       exec (.readRegion p tag) s =
         .next (s.reply p 0x02 tag .ok
           ([bitByte [s.region.current.isSome, s.region.identity.isSome]] ++ u16 s.region.given ++ currentCode ++
             (match s.region.current with
              | none => List.replicate 12 0
              | some c =>
                [place c.place] ++ u16 c.profile.code ++ u8 c.profile.mains ++ u16 c.profile.ceiling ++
                  [c.profile.required.byte, c.profile.release.byte, c.profile.bandPlan] ++
                  (c.profile.language ++ [0, 0, 0]).take 3) ++
             sensed ++ flag s.region.markerPresent ++ flag s.region.conflict ++ identity s.region.identity ++
             (List.range 8).flatMap (fun i => u16 (((s.region.slots.getD i none).map (·.code)).getD 0)))).arbitrate) ∧
  (∀ (s : State) (tag slice count : Byte) (first : Half) (firstZone : Byte), s.Admits .station tag →
     (slice.toNat ≤ 15 → 1 ≤ count.toNat → count.toNat ≤ 32 → first.toNat + count.toNat ≤ 576 →
         exec (.readNodes .station tag slice first count) s =
           .next (s.reply .station 0x25 tag .ok
             (slice :: u8 s.grid.phase.code ++ flag (s.grid.stickyFlag slice.toNat) ++ u16 (s.grid.effectiveAim slice.toNat) ++
               [count] ++ s.grid.nodeBytes slice.toNat first.toNat count.toNat)).arbitrate) ∧
       (15 < slice.toNat ∨ count.toNat = 0 ∨ 32 < count.toNat ∨ 576 < first.toNat + count.toNat →
         exec (.readNodes .station tag slice first count) s = .next (s.reply .station 0x25 tag .badValue []).arbitrate) ∧
       (1 ≤ count.toNat → count.toNat ≤ 48 → firstZone.toNat + count.toNat ≤ 144 →
         exec (.readZones .station tag firstZone count) s =
           .next (s.reply .station 0x26 tag .ok
             (u8 s.grid.phase.code ++ flag (s.grid.stickyFlag 15) ++ u16 (s.grid.effectiveAim 15) ++ u8 s.grid.tuning.zmin ++
               u8 s.grid.tuning.zmax ++ [count] ++
               (List.range count.toNat).flatMap (fun i => (s.grid.zone (firstZone.toNat + i)).bytes))).arbitrate) ∧
       (count.toNat = 0 ∨ 48 < count.toNat ∨ 144 < firstZone.toNat + count.toNat →
         exec (.readZones .station tag firstZone count) s = .next (s.reply .station 0x26 tag .badValue []).arbitrate)) ∧
  (∀ (s : State) (tag : Byte), s.Admits .station tag →
     exec (.keyList .station tag) s =
         .next (s.reply .station 0x55 tag .ok
           (u16 s.keys.fill ++ u16 s.keys.free ++ flag s.keys.areaClosed ++ u8 (s.keys.entries.countP Option.isSome) ++
             listedFrom 0 s.keys.entries)).arbitrate ∧
       exec (.evaluate .station tag) s =
         .next (s.reply .station 0x61 tag .ok
           (u8 s.intake.occupancy ++ u8 (enabledCount s.checks) ++ u8 (failCount s.evaluation) ++
             u8 (overallVerdict s.evaluation).code ++ s.evaluation.flatMap VerdictRecord.bytes)).arbitrate)

/-- KEY_FETCH is served on the system port to a CLOSED unit, for a FIXED key that CURRENT releases, with the body bytes the key area
holds; its four checks refuse in their order, and on the station port it is refused DENIED (R144). -/
def Obligations.KeyFetchIsServedUnderItsChecks : Prop :=
  (∀ (s : State) (tag : Byte) (id offset count : Half), s.Admits .station tag →
    exec (.keyFetch .station tag id offset count) s = .next (s.reply .station 0x03 tag .denied []).arbitrate) ∧
  ∀ (s : State) (tag : Byte) (id offset count : Half), s.Admits .system tag →
    (s.unit.phase ≠ .closed →
        exec (.keyFetch .system tag id offset count) s = .next (s.reply .system 0x03 tag .notCommissioned []).arbitrate) ∧
      (s.unit.phase = .closed → (∀ n e, s.keys.find id.toNat = some (n, e) → e.state ≠ .fixed) →
        exec (.keyFetch .system tag id offset count) s = .next (s.reply .system 0x03 tag .noKey []).arbitrate) ∧
      (∀ n e, s.unit.phase = .closed → s.keys.find id.toNat = some (n, e) → e.state = .fixed →
        (e.released s.region.current = false →
            exec (.keyFetch .system tag id offset count) s = .next (s.reply .system 0x03 tag .denied []).arbitrate) ∧
          (e.released s.region.current = true → count.toNat = 0 ∨ 512 < count.toNat ∨ e.length < offset.toNat + count.toNat →
            exec (.keyFetch .system tag id offset count) s = .next (s.reply .system 0x03 tag .badValue []).arbitrate) ∧
          (e.released s.region.current = true → 1 ≤ count.toNat → count.toNat ≤ 512 → offset.toNat + count.toNat ≤ e.length →
            exec (.keyFetch .system tag id offset count) s =
              .next (s.reply .system 0x03 tag .ok
                (id.bytes ++ u8 e.cls.code ++ u16 e.length ++ offset.bytes ++ count.bytes ++
                  Cells.readAll s.nv.keyArea (e.offset.getD 0 + 32 + offset.toNat) count.toNat)).arbitrate))

/-! ### The grid and its requests -/

/-- SET_TUNING, in OPEN with the intake empty, brings every field into its range, the lock window under the fine band just clamped, and
installs the record with the re-clamp of R7; with rows queued or in process it is refused BUSY (R6).

The re-clamp (R7): every node that is not PINNED and every zone takes the nearer limit when it lies outside, is then saturated and stamped
with the show number, sets its slice's sticky flag and is counted in the reply; it keeps everything else but a streak cut to C.

What the record governs in one applied update of a SEEKING or LOCKED node or zone (R32, R34 to R38): the streak, locking and unlocking, the
locked rate, the step and its clamp with the saturated flag, the iteration count, and the stall at the iteration limit. -/
def Obligations.SetTuningInstallsAndReclamps : Prop :=
  (∀ (s : State) (tag : Byte) (f : TuningFields), s.AdmitsOpen tag →
     let t : Tuning :=
       { k := max 1 (min 64 f.k.toNat)
         kz := max 1 (min 64 f.kz.toNat)
         kr := min 63 f.kr.toNat
         fineBand := max 1 (min 2048 f.fineBand.toNat)
         lockWindow := max 1 (min (max 1 (min 2048 f.fineBand.toNat)) f.lockWindow.toNat)
         lockCount := max 1 (min 8 f.lockCount.toNat)
         lockShift := min 3 f.lockShift.toNat
         iterationLimit := max 1 (min 63 f.iterationLimit.toNat)
         progressIndex := min 15 f.progressIndex.toNat
         gmin := max 1024 (min 2048 f.gmin.toNat)
         gmax := max 2048 (min 4095 f.gmax.toNat)
         zmin := max 64 (min 128 f.zmin.toNat)
         zmax := max 128 (min 255 f.zmax.toNat) }
     t.Legal ∧
       (s.intake.queue = [] → s.intake.inProcess = none →
         exec (.setTuning .station tag f) s =
           .next ((s.retune t).reply .station 0x20 tag .ok
             (flag (decide (t ≠ tuningGiven f)) ++ t.bytes ++
               u16 (s.grid.colour.map (fun slice =>
                 slice.countP (fun n => decide (n.cell.state ≠ .pinned ∧ (n.cell.value < t.gmin ∨ t.gmax < n.cell.value))))).sum ++
               u8 (s.grid.zones.countP (fun z => decide (z.cell.value < t.zmin ∨ t.zmax < z.cell.value))))).arbitrate) ∧
       (s.intake.queue ≠ [] ∨ s.intake.inProcess.isSome = true →
         exec (.setTuning .station tag f) s = .next (s.reply .station 0x20 tag .busy []).arbitrate)) ∧
  (∀ (s : State) (t : Tuning), t.gmin ≤ t.gmax → t.zmin ≤ t.zmax → s.Shaped →
     s.retune t =
         (s.setTrim
           { s.trim with
             dirty :=
               s.trim.dirty ||
                 (decide (s.applier.mode = .working) && decide (trimsOf s.grid.zones ≠ trimsOf (s.retune t).grid.zones)) }).setGrid
           { s.grid with
             tuning := t
             colour := s.grid.colour.map (fun slice => slice.map (NodeRec.reclamped t s.seq.showNumber))
             zones := s.grid.zones.map (ZoneRec.reclamped t s.seq.showNumber)
             sticky := (s.retune t).grid.sticky } ∧
       (∀ i < 15,
         (s.retune t).grid.stickyFlag i =
           (s.grid.stickyFlag i ||
             (s.grid.slice i).any (fun n => decide (n.cell.state ≠ .pinned ∧ (n.cell.value < t.gmin ∨ t.gmax < n.cell.value))))) ∧
       (s.retune t).grid.stickyFlag 15 =
         (s.grid.stickyFlag 15 || s.grid.zones.any (fun z => decide (z.cell.value < t.zmin ∨ t.zmax < z.cell.value))) ∧
       (∀ n : NodeRec,
         (n.cell.state = .pinned ∨ (t.gmin ≤ n.cell.value ∧ n.cell.value ≤ t.gmax) →
             n.reclamped t s.seq.showNumber = { n with cell := { n.cell with streak := min n.cell.streak t.lockCount } }) ∧
           (n.cell.state ≠ .pinned → n.cell.value < t.gmin ∨ t.gmax < n.cell.value →
             n.reclamped t s.seq.showNumber =
               { n with
                 cell :=
                   { n.cell with
                     value := if n.cell.value < t.gmin then t.gmin else t.gmax
                     saturated := true
                     appliedAt := s.seq.showNumber
                     streak := min n.cell.streak t.lockCount } })) ∧
       (∀ z : ZoneRec,
         (t.zmin ≤ z.cell.value ∧ z.cell.value ≤ t.zmax →
             z.reclamped t s.seq.showNumber = { z with cell := { z.cell with streak := min z.cell.streak t.lockCount } }) ∧
           (z.cell.value < t.zmin ∨ t.zmax < z.cell.value →
             z.reclamped t s.seq.showNumber =
               { z with
                 cell :=
                   { z.cell with
                     value := if z.cell.value < t.zmin then t.zmin else t.zmax
                     saturated := true
                     appliedAt := s.seq.showNumber
                     streak := min z.cell.streak t.lockCount } }))) ∧
  (∀ (p : LoopParams) (showNow : Nat) (e : Int) (c : Cell), p.low ≤ p.high →
     c.state = .seeking ∨ c.state = .locked →
       let after := loopUpdate p showNow e c
       let gain := if after.state = .locked then max 1 (shapedGain p e.natAbs / 2 ^ p.lockShift) else shapedGain p e.natAbs
       let rounded := roundDiv (e * c.value * gain) 262144
       let target : Int := c.value + (if rounded = 0 ∧ p.lockWindow < e.natAbs then e.sign else rounded)
       (e.natAbs ≤ p.lockWindow → after.streak = min (c.streak + 1) p.lockCount) ∧
         (p.lockWindow < e.natAbs → after.streak = 0) ∧
         (c.state = .seeking → after.streak = p.lockCount → after.state = .locked ∧ after.iterations = c.iterations) ∧
         (c.state = .seeking → after.streak < p.lockCount →
           after.iterations = c.iterations + 1 ∧
             after.state = (if p.iterationLimit ≤ c.iterations + 1 then .stalled else .seeking)) ∧
         (c.state = .locked → e.natAbs ≤ 2 * p.lockWindow → after.state = .locked ∧ after.iterations = c.iterations) ∧
         (c.state = .locked → 2 * p.lockWindow < e.natAbs →
           after.iterations = 1 ∧ after.state = (if p.iterationLimit ≤ 1 then .stalled else .seeking)) ∧
         (target < p.low → after.value = p.low ∧ after.saturated = true) ∧
         ((p.high : Int) < target → after.value = p.high ∧ after.saturated = true) ∧
         ((p.low : Int) ≤ target → target ≤ p.high → (after.value : Int) = target ∧ after.saturated = false) ∧
         after.appliedAt = (if after.value = c.value then c.appliedAt else showNow))

/-- SET_AIMS takes force at once when no row is in process, rows queued or not, and is held while one is, a fifth held request being refused
BUSY (R8, R13, R56). Aims of 65535 are taken as 65534.

A new aim table or white ceiling (R9, R10): in each slice whose effective aim changes, LOCKED and STALLED records return to SEEKING with streak
and iterations 0 and SEEKING ones lose their streak; every other slice, every gain, trim and recorded value and every pin stays. For slice 15
the pending sets are emptied, and the white node records stay.

Between rows (R13, R17, R25, R55): with a row in process nothing moves; without one the held items are taken in their order, each with its full
effect and reply, and then the head of the queue becomes the row in process under the effective aim and tuning record in force. -/
def Obligations.SetAimsTakesForceOrIsHeld : Prop :=
  (∀ (s : State) (tag : Byte) (aims : List Half), s.AdmitsOpen tag → aims.length = 16 →
     let given := aims.map (fun a => if a.toNat = 65535 then 65534 else a.toNat)
     let capped := aims.any (fun a => decide (a.toNat = 65535))
     (s.intake.inProcess = none →
         exec (.setAims .station tag aims) s =
           .next ((s.setGrid (s.grid.retarget given s.grid.ceiling)).reply .station 0x22 tag .ok
             (flag capped ++ given.flatMap u16 ++ u16 (maskOf (s.grid.aimChanges given s.grid.ceiling)))).arbitrate) ∧
       (s.intake.inProcess.isSome = true → s.grid.heldRequests < 4 →
         exec (.setAims .station tag aims) s =
           .next (s.setGrid { s.grid with held := s.grid.held ++ [.setAims tag given capped] }).arbitrate) ∧
       (s.intake.inProcess.isSome = true → 4 ≤ s.grid.heldRequests →
         exec (.setAims .station tag aims) s = .next (s.reply .station 0x22 tag .busy []).arbitrate)) ∧
  (∀ (g : Grid) (aims : List Nat) (ceiling : Option Nat), g.colour.length = 15 →
     let after := g.retarget aims ceiling
     after =
         { g with aims := aims, ceiling := ceiling, colour := after.colour, zones := after.zones } ∧
       (∀ i, i ≠ 15 ∨ ceiling = none → effectiveAim aims ceiling i = aims.getD i 0) ∧
       (∀ limit, ceiling = some limit →
         effectiveAim aims ceiling 15 = if aims.getD 15 0 = 0 then 0 else min (aims.getD 15 0) limit) ∧
       (∀ i < 15,
         (effectiveAim aims ceiling i = g.effectiveAim i → after.slice i = g.slice i) ∧
           (effectiveAim aims ceiling i ≠ g.effectiveAim i →
             after.slice i =
               (g.slice i).map (fun n =>
                 { n with
                   cell :=
                     if n.cell.state = .locked ∨ n.cell.state = .stalled then
                       { n.cell with state := .seeking, streak := 0, iterations := 0 }
                     else if n.cell.state = .seeking then { n.cell with streak := 0 }
                     else n.cell }))) ∧
       (effectiveAim aims ceiling 15 = g.effectiveAim 15 → after.zones = g.zones) ∧
       (effectiveAim aims ceiling 15 ≠ g.effectiveAim 15 →
         after.zones =
           g.zones.map (fun z =>
             { cell :=
                 if z.cell.state = .locked ∨ z.cell.state = .stalled then
                   { z.cell with state := .seeking, streak := 0, iterations := 0 }
                 else if z.cell.state = .seeking then { z.cell with streak := 0 }
                 else z.cell
               pendingSum := 0
               pendingCount := 0
               pendingShow := none
               pendingShort := false }))) ∧
  (∀ (s : State) (items : List HeldItem) (tag : Byte) (aims : List Nat) (clamped : Bool) (limit : Option Nat) (slice node value : Nat)
     (row : Row) (rest : List Row),
     (s.intake.inProcess.isSome = true → s.advanceRows = s) ∧
       (s.intake.inProcess = none → s.advanceRows = s.takeHeld.beginRow) ∧
       (s.grid.held = [] → s.takeHeld = s) ∧
       (∀ item, s.grid.held = items ++ [item] → s.takeHeld = (s.setGrid { s.grid with held := items }).takeHeld.takeHeldItem item) ∧
       s.takeHeldItem (.setAims tag aims clamped) =
         (s.setGrid (s.grid.retarget aims s.grid.ceiling)).reply .station 0x22 tag .ok
           (flag clamped ++ aims.flatMap u16 ++ u16 (maskOf (s.grid.aimChanges aims s.grid.ceiling))) ∧
       s.takeHeldItem (.ceiling limit) = s.setGrid (s.grid.retarget s.grid.aims limit) ∧
       s.takeHeldItem (.setPin tag slice node value) =
         (s.takePin slice node value).reply .station 0x23 tag .ok
           (u8 ((s.takePin slice node value).grid.node slice node).cell.state.code ++
             u16 ((s.takePin slice node value).grid.node slice node).cell.value) ∧
       (s.intake.queue = [] → s.beginRow = s) ∧
       (s.intake.queue = row :: rest →
         s.beginRow =
           s.setIntake
             { s.intake with
               queue := rest
               inProcess :=
                 some
                   { row := row, aim := s.grid.effectiveAim row.slice, tuning := s.grid.tuning, column := 0,
                     tally := { applied := 0, stale := 0, recordedOnly := 0, unusable := 0, zonesUpdated := 0 } } }))

/-- SET_PIN (R11 to R13): with no row in process the node takes it at once, and while one is in process it is held, a fifth held request being
refused BUSY; a slice above 14 or a node above 575 is refused BAD_VALUE.

A nonzero value pins the node at sixteen times itself, with streak 0 and saturated no; 0 returns a PINNED node to SEEKING within the limits,
where a move sets saturated and the slice's sticky flag and stamps applied_at, and leaves any other node as it is. Nothing else changes.

A restart of one slice (R16): its unpinned nodes take their values after a restart, its PINNED ones keep pin and gain, and for slice 15 the white
nodes, the zones and the phase do, which sets the trim output's dirty flag where a trim moves in WORKING (R104); its sticky flag clears and its
patches leave the history; its rows are discarded, each with its reply; the other slices, the show number and the patch list stay. -/
def Obligations.SetPinTakesTheNode : Prop :=
  (∀ (s : State) (tag slice value : Byte) (node : Half), s.AdmitsOpen tag →
     let taken : State := s.takePin slice.toNat node.toNat value.toNat
     let pinReply : List Byte :=
       u8 (taken.grid.node slice.toNat node.toNat).cell.state.code ++ u16 (taken.grid.node slice.toNat node.toNat).cell.value
     (14 < slice.toNat ∨ 575 < node.toNat →
         exec (.setPin .station tag slice node value) s = .next (s.reply .station 0x23 tag .badValue []).arbitrate) ∧
       (slice.toNat ≤ 14 → node.toNat ≤ 575 → s.intake.inProcess = none →
         exec (.setPin .station tag slice node value) s = .next (taken.reply .station 0x23 tag .ok pinReply).arbitrate) ∧
       (slice.toNat ≤ 14 → node.toNat ≤ 575 → s.intake.inProcess.isSome = true → s.grid.heldRequests < 4 →
         exec (.setPin .station tag slice node value) s =
           .next (s.setGrid
             { s.grid with held := s.grid.held ++ [.setPin tag slice.toNat node.toNat value.toNat] }).arbitrate) ∧
       (slice.toNat ≤ 14 → node.toNat ≤ 575 → s.intake.inProcess.isSome = true → 4 ≤ s.grid.heldRequests →
         exec (.setPin .station tag slice node value) s = .next (s.reply .station 0x23 tag .busy []).arbitrate)) ∧
  (∀ (s : State) (slice node value : Nat), s.Shaped → slice < 15 → node < 576 →
     let n := s.grid.node slice node
     let t := s.grid.tuning
     let taken := s.takePin slice node value
     taken = s.setGrid { s.grid with colour := taken.grid.colour, sticky := taken.grid.sticky } ∧
       (∀ i k, i ≠ slice ∨ k ≠ node → taken.grid.node i k = s.grid.node i k) ∧
       (value ≠ 0 →
         taken.grid.sticky = s.grid.sticky ∧
           taken.grid.node slice node =
             { n with
               pin := value
               cell :=
                 { n.cell with
                   value := 16 * value
                   state := .pinned
                   streak := 0
                   saturated := false
                   appliedAt := if 16 * value = n.cell.value then n.cell.appliedAt else s.seq.showNumber } }) ∧
       (value = 0 → n.cell.state = .pinned → t.gmin ≤ n.cell.value → n.cell.value ≤ t.gmax →
         taken.grid.sticky = s.grid.sticky ∧
           taken.grid.node slice node =
             { n with
               pin := 0
               cell := { n.cell with state := .seeking, streak := 0, iterations := 0, saturated := false } }) ∧
       (value = 0 → n.cell.state = .pinned → t.gmin ≤ t.gmax → n.cell.value < t.gmin ∨ t.gmax < n.cell.value →
         taken.grid.sticky = s.grid.sticky.set slice true ∧
           taken.grid.node slice node =
             { n with
               pin := 0
               cell :=
                 { value := if n.cell.value < t.gmin then t.gmin else t.gmax
                   state := .seeking
                   streak := 0
                   iterations := 0
                   appliedAt := s.seq.showNumber
                   saturated := true } }) ∧
       (value = 0 → n.cell.state ≠ .pinned → taken.grid = s.grid)) ∧
  (∀ (s : State) (i : Nat), s.Shaped → i < 16 →
     let t := s.restart (.one i)
     let gone (row : Row) : Bool := decide (row.slice = i)
     (∀ k < 15, k ≠ i → t.grid.slice k = s.grid.slice k) ∧
       (i < 15 →
         t.grid.white = s.grid.white ∧ t.grid.zones = s.grid.zones ∧ t.grid.phase = s.grid.phase ∧ t.trim = s.trim ∧
           t.grid.slice i =
             (s.grid.slice i).map (fun n =>
               if n.cell.state = .pinned then
                 { cell :=
                     { value := n.cell.value, state := .pinned, streak := 0, iterations := 0, appliedAt := 0, saturated := false }
                   lastMeasured := none
                   lastError := none
                   pin := n.pin }
               else
                 { cell := { value := 2048, state := .seeking, streak := 0, iterations := 0, appliedAt := 0, saturated := false }
                   lastMeasured := none
                   lastError := none
                   pin := 0 })) ∧
       (i = 15 →
         t.grid.white = List.replicate 576 .fresh ∧ t.grid.zones = List.replicate 144 .fresh ∧ t.grid.phase = .coarse ∧
           t.trim =
             { s.trim with
               dirty :=
                 s.trim.dirty || decide (s.applier.mode = .working ∧ ∃ z ∈ s.grid.zones, z.cell.value ≠ 128) }) ∧
       (∀ k < 16, t.grid.stickyFlag k = (s.grid.stickyFlag k && decide (k ≠ i))) ∧
       t.grid = { s.grid with colour := t.grid.colour, white := t.grid.white, zones := t.grid.zones, phase := t.grid.phase,
                              sticky := t.grid.sticky } ∧
       t.seq = { s.seq with history := s.seq.history.filter (fun q => decide (q.slice ≠ i)) } ∧
       t.intake =
         { s.intake with
           queue := s.intake.queue.filter (fun row => !gone row)
           inProcess := s.intake.inProcess.filter (fun r => !gone r.row) } ∧
       t.station =
         { s.station with
           replies :=
             s.station.replies ++
               ((s.intake.inProcess.toList.map (·.row)).filter gone ++ s.intake.queue.filter gone).map (fun row =>
                 replyFrame 0x30 row.frameTag .discarded
                   (measureFields row.patchTag row.row row.showNumber row.slice
                     { applied := 0, stale := 0, recordedOnly := 0, unusable := 0, zonesUpdated := 0 } false)) } ∧
       t.unit = s.unit ∧ t.keys = s.keys ∧ t.checks = s.checks ∧ t.nv = s.nv ∧ t.region = s.region ∧ t.timing = s.timing ∧
       t.applier = s.applier ∧ t.system = s.system ∧ t.pending = s.pending)

/-- GRID_RESTART and SET_LEVELS restart the slices they name, reply DISCARDED for the rows they remove and then OK with their number, and
let grid memory and the intake go on (R16, R17, R19); the request's own reply comes before those of held requests by the model's choice
(log 13).

A restart of all slices (R16): gains return to 2048 but a pinned node keeps its pin and gain, trims return to 128, every record forgets,
the sticky flags clear, the phase is COARSE, the rows and the history go, the show number is 0; the tuning, levels, aims and patch list
stay. A trim that moves in WORKING sets the trim output's dirty flag (R104). -/
def Obligations.RestartRequestsRestartTheirSlices : Prop :=
  (∀ (s : State) (tag slice : Byte) (scope : RestartScope) (codes : List Half), s.AdmitsOpen tag →
     (s.seq.inRun = false → restartScope slice = some scope →
         exec (.gridRestart .station tag slice) s =
           .next ((s.restart scope).reply .station 0x24 tag .ok
             (u8 (s.intake.discarded scope).length)).advanceRows.arbitrate) ∧
       (s.seq.state = .idle → codes.length = 5 → levelsValid (codes.map (·.toNat)) = true →
         exec (.setLevels .station tag codes) s =
           .next (((s.setGrid { s.grid with levels := codes.map (·.toNat) }).restart .all).reply .station 0x21 tag .ok
             (u8 (s.intake.discarded .all).length)).advanceRows.arbitrate)) ∧
  (∀ s : State, s.Shaped →
     (s.restart .all).grid.colour = s.grid.colour.map (fun slice => slice.map NodeRec.restarted) ∧
       (s.restart .all).grid.zones = List.replicate 144 .fresh ∧ (s.restart .all).grid.white = List.replicate 576 .fresh ∧
       (s.restart .all).grid.sticky = List.replicate 16 false ∧ (s.restart .all).grid.phase = .coarse ∧
       (s.restart .all).grid.tuning = s.grid.tuning ∧ (s.restart .all).grid.levels = s.grid.levels ∧
       (s.restart .all).grid.aims = s.grid.aims ∧ (s.restart .all).grid.held = s.grid.held ∧
       (s.restart .all).intake.queue = [] ∧ (s.restart .all).intake.inProcess = none ∧ (s.restart .all).seq.history = [] ∧
       (s.restart .all).seq.showNumber = 0 ∧ (s.restart .all).seq.list = s.seq.list ∧
       (s.restart .all).station.replies =
         s.station.replies ++ (s.intake.discarded .all).map (fun row =>
           replyFrame 0x30 row.frameTag .discarded
             (measureFields row.patchTag row.row row.showNumber row.slice .zero false)) ∧
       (s.restart .all).trim =
         { s.trim with
           dirty := s.trim.dirty || decide (s.applier.mode = .working ∧ ∃ z ∈ s.grid.zones, z.cell.value ≠ 128) } ∧
       (∀ n : NodeRec, n.cell.state ≠ .pinned → n.restarted = .fresh) ∧
       (∀ n : NodeRec, n.cell.state = .pinned →
         n.restarted.pin = n.pin ∧ n.restarted.cell.value = n.cell.value ∧ n.restarted.cell.state = .pinned ∧
           n.restarted.cell.appliedAt = 0 ∧ n.restarted.lastError = none))

/-! ### The loop -/

/-- The error of a usable count is the shortfall from the aim in 1/4096 of it, rounded to the nearest with halves away from zero, within -4096 to
+4096: a count above twice the aim gives -4096 (R29). The rounding of an error, a mean error and a step: to the nearest, a value half-way between
two integers to the one farther from zero.

The shaped loop gain lies between 1 and k, is k from 2F up, is k less the reduction, at least 1, down from F, and between F and 2F is k less the
reduction's share of the way from 2F (R33). The zone loop's takes kz and kr in their place and is never below 1 (R46). -/
def Obligations.ErrorAndLoopGainAreBounded : Prop :=
  (∀ aim m : Nat, 1 ≤ aim → aim ≤ 65534 → m ≤ 65534 →
     (errorOf aim m).natAbs ≤ 4096 ∧ (m = aim → errorOf aim m = 0) ∧ (m < aim → 0 ≤ errorOf aim m) ∧
       (aim < m → errorOf aim m ≤ 0) ∧ (m = 0 → errorOf aim m = 4096) ∧
       (m ≤ 2 * aim →
         2 * (errorOf aim m * aim - ((aim : Int) - m) * 4096).natAbs ≤ aim ∧
           (2 * (errorOf aim m * aim - ((aim : Int) - m) * 4096).natAbs = aim →
             (((aim : Int) - m) * 4096).natAbs < (errorOf aim m * aim).natAbs)) ∧
       (2 * aim < m → errorOf aim m = -4096)) ∧
  (∀ (n : Int) (d : Nat), 1 ≤ d →
     2 * (roundDiv n d * d - n).natAbs ≤ d ∧ (2 * (roundDiv n d * d - n).natAbs = d → n.natAbs < (roundDiv n d * d).natAbs)) ∧
  (∀ (t : Tuning) (e : Nat), t.Legal →
     1 ≤ shapedGain t.fineLoop e ∧ shapedGain t.fineLoop e ≤ t.k ∧
       (2 * t.fineBand ≤ e → shapedGain t.fineLoop e = t.k) ∧
       (e ≤ t.fineBand → shapedGain t.fineLoop e = t.k - min t.kr (t.k - 1)) ∧
       (t.fineBand < e → e < 2 * t.fineBand →
         shapedGain t.fineLoop e = t.k - min t.kr (t.k - 1) * (2 * t.fineBand - e) / t.fineBand) ∧
       1 ≤ shapedGain t.zoneLoop e ∧ shapedGain t.zoneLoop e ≤ t.kz ∧ (2 * t.fineBand ≤ e → shapedGain t.zoneLoop e = t.kz) ∧
       (t.fineBand < e → e < 2 * t.fineBand →
         shapedGain t.zoneLoop e = max 1 (t.kz - t.kr * (2 * t.fineBand - e) / t.fineBand)) ∧
       (e ≤ t.fineBand → shapedGain t.zoneLoop e = max 1 (t.kz - t.kr)))

/-- An applied update keeps its value within the limits, moves it toward the aim by at least one unit when the error is outside the lock
window and the limit allows, stamps applied_at exactly when the value changes, and never leaves the node PINNED (R32 to R38). -/
def Obligations.UpdateMovesTowardTheAim : Prop :=
  ∀ (p : LoopParams) (showNow : Nat) (e : Int) (c : Cell), p.low ≤ p.high → p.low ≤ c.value → c.value ≤ p.high → 1 ≤ c.value →
    p.low ≤ (loopUpdate p showNow e c).value ∧ (loopUpdate p showNow e c).value ≤ p.high ∧
      (0 ≤ e → c.value ≤ (loopUpdate p showNow e c).value) ∧ (e ≤ 0 → (loopUpdate p showNow e c).value ≤ c.value) ∧
      (p.lockWindow < e.natAbs → 0 < e → c.value < p.high → c.value < (loopUpdate p showNow e c).value) ∧
      (p.lockWindow < e.natAbs → e < 0 → p.low < c.value → (loopUpdate p showNow e c).value < c.value) ∧
      ((loopUpdate p showNow e c).value = c.value → (loopUpdate p showNow e c).appliedAt = c.appliedAt) ∧
      ((loopUpdate p showNow e c).value ≠ c.value → (loopUpdate p showNow e c).appliedAt = showNow) ∧
      (loopUpdate p showNow e c).state ≠ .pinned

/-- What a colour count does to its node (R27 to R31): nothing when unusable; its measure alone under an aim of 0; measure and error when the
node is STALLED, PINNED or newer than the count; the update of R32 to R38 else. The pin stays, and a clamp is the update's own.

What a white count does: to its white node (R42), measure, error and show number when usable, the error kept under an aim of 0; to its zone, in
phase COARSE (R44, R45), nothing when the zone is STALLED or the count is outdated; else it continues the pending set or opens it anew, an
unusable count marks the set short, a short set takes no more, and the zone is updated when, and only when, four errors are gathered, from their
rounded mean (R46), the set then being empty. In phase FINE no white count touches a zone (R43).

ROW_COUNT on a row of slice 15 takes the next count of the row into its white node and the zone that holds it, and moves the row one column on.

What the acceptance checker reads of the records (R150 to R154): the nine quantities. -/
def Obligations.CountsHaveTheirOutcomes : Prop :=
  (∀ (t : Tuning) (aim rowShow showNow m : Nat) (n : NodeRec),
     let res := fineCount t aim rowShow showNow m n
     (m = 65535 → res.after = n ∧ res.outcome = .unusable ∧ res.clamped = false) ∧
       (m < 65535 → aim = 0 →
         res.after = { n with lastMeasured := some m } ∧ res.outcome = .recordedOnly ∧ res.clamped = false) ∧
       (m < 65535 → aim ≠ 0 → n.cell.state = .stalled ∨ n.cell.state = .pinned →
         res.after = { n with lastMeasured := some m, lastError := some (errorOf aim m) } ∧ res.outcome = .recordedOnly ∧
           res.clamped = false) ∧
       (m < 65535 → aim ≠ 0 → n.cell.state = .seeking ∨ n.cell.state = .locked → rowShow ≤ n.cell.appliedAt →
         res.after = { n with lastMeasured := some m, lastError := some (errorOf aim m) } ∧ res.outcome = .stale ∧
           res.clamped = false) ∧
       (m < 65535 → aim ≠ 0 → n.cell.state = .seeking ∨ n.cell.state = .locked → n.cell.appliedAt < rowShow →
         res.after =
             { n with
               lastMeasured := some m
               lastError := some (errorOf aim m)
               cell := loopUpdate t.fineLoop showNow (errorOf aim m) n.cell } ∧
           res.outcome = .applied ∧ res.clamped = (loopUpdate t.fineLoop showNow (errorOf aim m) n.cell).saturated)) ∧
  (∀ (aim rowShow m : Nat) (w : WhiteRec),
     whiteStage aim rowShow 65535 w = w ∧
       (m < 65535 → whiteStage 0 rowShow m w = { w with lastMeasured := some m, heldShow := some rowShow }) ∧
       (m < 65535 → aim ≠ 0 →
         whiteStage aim rowShow m w =
           { lastMeasured := some m, lastError := some (errorOf aim m), heldShow := some rowShow })) ∧
  (∀ (t : Tuning) (phase : GridPhase) (aim rowShow showNow m : Nat) (z : ZoneRec), z.cell.state ≠ .pinned → m ≤ 65535 →
     let res := zoneCount t phase aim rowShow showNow m z
     let leaves (usable : CountOutcome) (after : ZoneRec) : Prop :=
       res = { after := after, outcome := if m = 65535 then .unusable else usable, clamped := false, updated := false }
     let outdated : Prop := rowShow ≤ z.cell.appliedAt ∨ ∃ pending, z.pendingShow = some pending ∧ rowShow < pending
     let opened : ZoneRec :=
       if z.pendingShow = some rowShow then z
       else { z with pendingSum := 0, pendingCount := 0, pendingShow := some rowShow, pendingShort := false }
     (m < 65535 → aim = 0 → leaves .recordedOnly z) ∧
       (m = 65535 ∨ aim ≠ 0 →
         (phase = .fine → leaves .recordedOnly z) ∧
           (phase = .coarse → z.cell.state = .stalled → leaves .recordedOnly z) ∧
           (phase = .coarse → z.cell.state ≠ .stalled → outdated → leaves .stale z) ∧
           (phase = .coarse → z.cell.state ≠ .stalled → ¬ outdated →
             (m = 65535 → leaves .stale { opened with pendingShort := true }) ∧
               (m < 65535 → opened.pendingShort = true → leaves .recordedOnly opened) ∧
               (m < 65535 → opened.pendingShort = false → opened.pendingCount ≠ 3 →
                 res =
                   { after :=
                       { opened with pendingSum := opened.pendingSum + errorOf aim m, pendingCount := opened.pendingCount + 1 }
                     outcome := .applied
                     clamped := false
                     updated := false }) ∧
               (m < 65535 → opened.pendingShort = false → opened.pendingCount = 3 →
                 let update := loopUpdate t.zoneLoop showNow (roundDiv (opened.pendingSum + errorOf aim m) 4) z.cell
                 res =
                   { after := { cell := update, pendingSum := 0, pendingCount := 0, pendingShow := none, pendingShort := false }
                     outcome := .applied
                     clamped := update.saturated
                     updated := true })))) ∧
  (∀ (s : State) (r : RowInProcess), s.power = .running → s.intake.inProcess = some r → r.row.slice = 15 → r.column < 31 →
     let n := r.row.row * 32 + r.column
     let m := r.row.counts.getD r.column 65535
     let z := r.row.row / 2 * 16 + r.column / 2
     let res := zoneCount r.tuning s.grid.phase r.aim r.row.showNumber s.seq.showNumber m (s.grid.zone z)
     exec .rowCount s =
       .next (((s.setTrim
         { s.trim with
           dirty :=
             s.trim.dirty ||
               (decide (s.applier.mode = .working) &&
                 decide (trimsOf s.grid.zones ≠ trimsOf (s.grid.zones.set z res.after))) }).setGrid
         { s.grid with
           white := s.grid.white.set n (whiteStage r.aim r.row.showNumber m (s.grid.whiteNode n))
           zones := s.grid.zones.set z res.after
           sticky := if res.clamped then s.grid.sticky.set 15 true else s.grid.sticky }).setIntake
         { s.intake with
           inProcess := some { r with column := r.column + 1, tally := r.tally.count res.outcome res.updated } }).arbitrate) ∧
  (∀ (s : State) (a : Nat),
     let measured := if a = 15 then s.grid.white.map (·.lastMeasured) else (s.grid.slice a).map (·.lastMeasured)
     let errors := if a = 15 then s.grid.white.map (·.lastError) else (s.grid.slice a).map (·.lastError)
     let cells := if a = 15 then s.grid.zones.map (·.cell) else (s.grid.slice a).map (·.cell)
     (none ∈ measured → s.quantityOf .uniformity a = none) ∧
       (∀ (values : List Nat) (least most : Nat), measured = values.map some → least ∈ values → most ∈ values →
         (∀ v ∈ values, least ≤ v ∧ v ≤ most) →
           s.quantityOf .uniformity a = some (if most = 0 then 0 else 10000 * least / most)) ∧
       ((∀ e ∈ errors, e = none) → s.quantityOf .worstError a = none) ∧
       (∀ worst : Int, some worst ∈ errors → (∀ e, some e ∈ errors → e.natAbs ≤ worst.natAbs) →
         s.quantityOf .worstError a = some worst.natAbs) ∧
       s.quantityOf .saturated a = some (cells.countP (·.saturated)) ∧
       s.quantityOf .satEver a = some (if s.grid.stickyFlag a then 1 else 0) ∧
       s.quantityOf .stalled a = some (cells.countP (fun c => decide (c.state = .stalled))) ∧
       s.quantityOf .unlocked a = some (cells.countP (fun c => decide (c.state = .seeking ∨ c.state = .stalled))) ∧
       (∀ least most : Nat, least ∈ trimsOf s.grid.zones → most ∈ trimsOf s.grid.zones →
         (∀ v ∈ trimsOf s.grid.zones, least ≤ v ∧ v ≤ most) → s.quantityOf .zoneSpread 0 = some (most - least)) ∧
       (∀ cls : KeyClass,
         s.quantityOf .keys cls.code =
           some ((s.keys.entries.filterMap id).countP (fun e => decide (e.state = .fixed ∧ e.cls = cls)))) ∧
       (s.region.sensedValid = false → s.quantityOf .markerMatch 0 = none) ∧
       (s.region.sensedValid = true →
         s.quantityOf .markerMatch 0 =
           some (if s.region.current.map (·.code) = some s.region.sensed then 1 else 0)))

/-- ROW_COUNT on a colour row (R23, R39): the next count goes to its node, an applied one makes the phase FINE, a clamp sets the slice's
sticky flag, and the row moves one column on; no other node, no zone and no other block changes.

The thirty-second count completes the row (R25, R60): its reply carries the tallies, the sequencer has its notice, what grid memory held
is taken and the next row begins, whatever waits in the queue (R55). Only a marker read of the same moment, taken second, comes between the
completion and the begin of the next row (R127): the command says that it meets the event before it (log 33), and the row begins after it. -/
def Obligations.RowCountTakesOneCountAndCompletes : Prop :=
  (∀ (s : State) (r : RowInProcess), s.power = .running → s.intake.inProcess = some r → r.row.slice ≠ 15 → r.column < 31 →
     exec .rowCount s =
       .next ((s.setGrid
         { s.grid.putNode r.row.slice (r.row.row * 32 + r.column)
             (fineCount r.tuning r.aim r.row.showNumber s.seq.showNumber (r.row.counts.getD r.column 65535)
               (s.grid.node r.row.slice (r.row.row * 32 + r.column))).after with
           sticky :=
             stickyAfter s.grid.sticky r.row.slice
               (fineCount r.tuning r.aim r.row.showNumber s.seq.showNumber (r.row.counts.getD r.column 65535)
                 (s.grid.node r.row.slice (r.row.row * 32 + r.column))).clamped
           phase :=
             if (fineCount r.tuning r.aim r.row.showNumber s.seq.showNumber (r.row.counts.getD r.column 65535)
                 (s.grid.node r.row.slice (r.row.row * 32 + r.column))).outcome = .applied then .fine
             else s.grid.phase }).setIntake
         { s.intake with
           inProcess :=
             some
               { r with
                 column := r.column + 1
                 tally :=
                   r.tally.count
                     (fineCount r.tuning r.aim r.row.showNumber s.seq.showNumber (r.row.counts.getD r.column 65535)
                       (s.grid.node r.row.slice (r.row.row * 32 + r.column))).outcome
                     (fineCount r.tuning r.aim r.row.showNumber s.seq.showNumber (r.row.counts.getD r.column 65535)
                       (s.grid.node r.row.slice (r.row.row * 32 + r.column))).updated } }).arbitrate) ∧
  (∀ (s : State) (r : RowInProcess), s.power = .running → s.intake.inProcess = some r → r.column = 31 →
     ∃ s1 r1, s.takeCount r = (s1, r1) ∧ r1.row = r.row ∧ r1.column = 32 ∧
       let completed : State :=
         ((s1.reply .station 0x30 r.row.frameTag .ok
           (measureFields r.row.patchTag r.row.row r.row.showNumber r.row.slice r1.tally
             (s1.grid.stickyFlag r.row.slice))).setSeq
               (s1.seq.notice r.row.patchTag r.row.showNumber r.row.row)).setIntake
                 { s1.intake with inProcess := none }
       ((∀ pixels rest, s.pending ≠ .markerRead ⟨pixels, true⟩ :: rest) → exec .rowCount s = .next completed.advanceRows.arbitrate) ∧
         (∀ pixels rest, s.pending = .markerRead ⟨pixels, true⟩ :: rest → exec .rowCount s = .next completed.takeHeld.arbitrate)) ∧
  (∀ (s : State) (pixels : List Pixel) (meets : Bool), s.power = .running → pixels.length = 768 →
     exec (.markerRead ⟨pixels, meets⟩) s = .next ((s.takeMarkerRead pixels).beginDue meets).arbitrate ∧
       (meets = true → s.intake.inProcess = none → s.grid.held = [] → s.beginDue meets = s.beginRow) ∧
       (meets = false ∨ s.intake.inProcess.isSome = true ∨ s.grid.held ≠ [] ∨ s.intake.queue = [] → s.beginDue meets = s))

/-! ### The intake -/

/-- MEASURE's acceptance (R54): the row index enters the patch's received set, the row joins the queue under the patch's show number and
slice, and begins at once when no row is in process. No reply is sent.

MEASURE's seven checks, the first failure being replied with the tag and row as given and nothing changed (R51, R62). -/
def Obligations.MeasureChecksAndQueuesTheRow : Prop :=
  (∀ (s : State) (tag patchTag row : Byte) (counts : List Half) (q : Patch), s.AdmitsOpen tag → counts.length = 32 → row.toNat ≤ 17 →
     s.seq.findShown patchTag.toNat = some q → q.ready = true → row.toNat ∉ q.received → s.grid.aims.getD q.slice 0 ≠ 0 →
       s.intake.queue.length < 8 →
         exec (.measure .station tag patchTag row counts) s =
           .next (((s.setSeq (s.seq.receive patchTag.toNat row.toNat)).setIntake
             { s.intake with
               queue :=
                 s.intake.queue ++
                   [{ frameTag := tag, patchTag := patchTag.toNat, showNumber := q.showNumber.getD 0, slice := q.slice,
                      row := row.toNat, counts := counts.map (·.toNat) }] }).advanceRows).arbitrate) ∧
  (∀ (s : State) (tag patchTag row : Byte) (counts : List Half), s.AdmitsUnclosed tag → counts.length = 32 →
     let refused (status : Status) : Host.Outcome State Fault Refusal :=
       .next (s.reply .station 0x30 tag status (measureFields patchTag.toNat row.toNat 0 0 .zero false)).arbitrate
     (s.unit.phase ≠ .opened → exec (.measure .station tag patchTag row counts) s = refused .wrongPhase) ∧
       (s.unit.phase = .opened → 17 < row.toNat → exec (.measure .station tag patchTag row counts) s = refused .badValue) ∧
       (s.unit.phase = .opened → row.toNat ≤ 17 → s.seq.findShown patchTag.toNat = none →
         exec (.measure .station tag patchTag row counts) s = refused .unknownPatch) ∧
       (∀ q, s.unit.phase = .opened → row.toNat ≤ 17 → s.seq.findShown patchTag.toNat = some q →
         (q.ready = false → exec (.measure .station tag patchTag row counts) s = refused .notReady) ∧
           (q.ready = true → row.toNat ∈ q.received →
             exec (.measure .station tag patchTag row counts) s = refused .duplicateRow) ∧
           (q.ready = true → row.toNat ∉ q.received → s.grid.aims.getD q.slice 0 = 0 →
             exec (.measure .station tag patchTag row counts) s = refused .noAim) ∧
           (q.ready = true → row.toNat ∉ q.received → s.grid.aims.getD q.slice 0 ≠ 0 → 8 ≤ s.intake.queue.length →
             exec (.measure .station tag patchTag row counts) s = refused .full)))

/-- PROGRESS_TIMER_EXPIRY (R64, R65): the timer runs on, and while some record of the current slice is SEEKING a PROGRESS report carries
the four counts and the show number. -/
def Obligations.ProgressReportsTheCurrentSlice : Prop :=
  ∀ (s : State) (ms : Nat) (q : Patch), s.power = .running → s.intake.progress = some ms → s.seq.current = some q →
    (s.grid.countState q.slice .seeking = 0 →
        exec .progressTimerExpiry s =
          .next (s.setIntake { s.intake with progress := some (40 * (1 + s.grid.tuning.progressIndex)) }).arbitrate) ∧
      (s.grid.countState q.slice .seeking ≠ 0 →
        exec .progressTimerExpiry s =
          .next ((s.setIntake { s.intake with progress := some (40 * (1 + s.grid.tuning.progressIndex)) }).report 0x73
            (u8 q.slice ++ u16 (s.grid.countState q.slice .seeking) ++ u16 (s.grid.countState q.slice .locked) ++
              u16 (s.grid.countState q.slice .stalled) ++ u16 (s.grid.countState q.slice .pinned) ++
              u32 s.seq.showNumber)).arbitrate)

/-! ### The sequencer and frame boundaries -/

/-- The six requests that move the sequencer (R73 to R78): where each is taken, what it sets, and its reply of the state and start
pending. -/
def Obligations.SequencerRequestsMoveTheSequencer : Prop :=
  ∀ (s : State) (tag : Byte), s.AdmitsOpen tag →
    (s.seq.state = .idle →
        exec (.arm .station tag) s =
          .next ((s.setSeq { s.seq with state := .armed, startPending := false }).reply .station 0x31 tag .ok [1, 0]).arbitrate) ∧
      (s.seq.state = .armed →
        exec (.disarm .station tag) s =
          .next ((s.setSeq { s.seq with state := .idle, startPending := false }).reply .station 0x32 tag .ok [0, 0]).arbitrate) ∧
      (s.seq.state = .armed → s.seq.list ≠ [] → s.seq.showNumber < 4294967295 →
        exec (.start .station tag) s =
          .next ((s.setSeq { s.seq with startPending := true }).reply .station 0x33 tag .ok [1, 1]).arbitrate) ∧
      (s.seq.state = .running →
        exec (.stop .station tag) s =
          .next ((s.setSeq { s.seq with state := .stopping }).reply .station 0x34 tag .ok
            ([3] ++ flag s.seq.startPending)).arbitrate) ∧
      (s.seq.inRun = true →
        exec (.halt .station tag) s =
            .next ((s.setSeq { s.seq with haltRequested := true }).reply .station 0x35 tag .ok
              (u8 s.seq.state.code ++ flag s.seq.startPending)).arbitrate ∧
          exec (.advance .station tag) s =
            .next ((s.setSeq { s.seq with advanceRequested := true }).reply .station 0x36 tag .ok
              (u8 s.seq.state.code ++ flag s.seq.startPending)).arbitrate) ∧
      (s.seq.state = .armed → s.seq.startPending = true →
        exec (.stop .station tag) s =
            .next ((s.setSeq { s.seq with startPending := false }).reply .station 0x34 tag .ok [1, 0]).arbitrate ∧
          exec (.halt .station tag) s =
            .next ((s.setSeq { s.seq with startPending := false }).reply .station 0x35 tag .ok [1, 0]).arbitrate)

/-- PATCH_APPEND adds one record at the list's tail with settle frames and hold limit clamped; PATCH_CLEAR empties the list, and outside
phase OPEN is refused WRONG_PHASE (R69, R70). -/
def Obligations.PatchRequestsChangeTheList : Prop :=
  (∀ (s : State) (tag patchTag slice settle auto : Byte) (hold : Half), s.AdmitsOpen tag →
    (patchTag ≠ 0 → slice.toNat ≤ 15 → auto.toNat ≤ 1 → (∀ q ∈ s.seq.records, q.tag ≠ patchTag.toNat) → s.seq.list.length < 16 →
        exec (.patchAppend .station tag patchTag slice settle hold auto) s =
          .next ((s.setSeq
            { s.seq with
              list :=
                s.seq.list ++
                  [{ tag := patchTag.toNat, slice := slice.toNat, settleFrames := max 1 (min 60 settle.toNat),
                     holdLimit := max 1 (min 1200 hold.toNat), autoAdvance := decide (auto = 1), showNumber := none,
                     subPhase := none, settleCounter := 0, holdCount := 0, ready := false, received := [], completed := [],
                     endReason := none }] }).reply .station 0x37 tag .ok
            (flag (decide (max 1 (min 60 settle.toNat) ≠ settle.toNat ∨ max 1 (min 1200 hold.toNat) ≠ hold.toNat)) ++
              u8 (max 1 (min 60 settle.toNat)) ++ u16 (max 1 (min 1200 hold.toNat)) ++ u8 (s.seq.list.length + 1))).arbitrate) ∧
      exec (.patchClear .station tag) s =
        .next ((s.setSeq { s.seq with list := [] }).reply .station 0x38 tag .ok (u8 s.seq.list.length)).arbitrate) ∧
  (∀ (s : State) (tag : Byte), s.Admits .station tag → s.unit.phase ≠ .opened →
    exec (.patchClear .station tag) s = .next (s.reply .station 0x38 tag .wrongPhase []).arbitrate)

/-- At a frame boundary with a start pending the head of the list begins display with the next show number, or, the list being empty, the
sequencer stays ARMED and SEQ_STOPPED reports LIST_EMPTY (R79, R80).

The current patch at a boundary of a run (R81): HALT and ADVANCE end it first; in SETTLE the counter falls, and at its end the patch is
ready and PATCH_READY goes out; in HOLD it ends COMPLETE when all its rows have completed under auto-advance, TIMEOUT at its hold limit,
and stays else. -/
def Obligations.BoundaryStartsAndAdvancesTheRun : Prop :=
  (∀ (s : State) (q : Patch) (rest : List Patch), s.seq.state = .armed → s.seq.startPending = true → s.seq.showNumber < 4294967295 →
     (s.seq.list = q :: rest →
         s.sequencerBoundary =
           (s.setSeq
             { s.seq with
               list := rest
               showNumber := s.seq.showNumber + 1
               state := .running
               startPending := false
               haltRequested := false
               advanceRequested := false
               current :=
                 some
                   { q with
                     showNumber := some (s.seq.showNumber + 1)
                     subPhase := some .settle
                     settleCounter := q.settleFrames
                     holdCount := 0
                     ready := false
                     completed := [] } }).setIntake
             { s.intake with progress := some (40 * (1 + s.grid.tuning.progressIndex)) }) ∧
       (s.seq.list = [] →
         s.sequencerBoundary =
           (s.setSeq { s.seq with startPending := false }).report 0x72 ([0, 0] ++ u32 s.seq.showNumber))) ∧
  (∀ (s : State) (q : Patch), s.seq.inRun = true → s.seq.current = some q →
     (s.seq.haltRequested = true → s.sequencerBoundary = s.endPatch q .halted) ∧
       (s.seq.haltRequested = false → s.seq.advanceRequested = true → s.sequencerBoundary = s.endPatch q .advanced) ∧
       (s.seq.haltRequested = false → s.seq.advanceRequested = false → q.subPhase = some .settle → 2 ≤ q.settleCounter →
         s.sequencerBoundary = s.setSeq { s.seq with current := some { q with settleCounter := q.settleCounter - 1 } }) ∧
       (s.seq.haltRequested = false → s.seq.advanceRequested = false → q.subPhase = some .settle → q.settleCounter = 1 →
         s.sequencerBoundary =
           (s.setSeq
             { s.seq with
               current := some { q with settleCounter := 0, subPhase := some .hold, holdCount := 0, ready := true } }).report 0x70
             (u8 q.tag ++ u32 (q.showNumber.getD 0) ++ u8 q.slice)) ∧
       (s.seq.haltRequested = false → s.seq.advanceRequested = false → q.subPhase = some .hold →
         (q.autoAdvance = true → (∀ row < 18, row ∈ q.completed) →
             s.sequencerBoundary = s.endPatch { q with holdCount := q.holdCount + 1 } .complete) ∧
           ((q.autoAdvance = false ∨ ∃ row < 18, row ∉ q.completed) → q.holdLimit ≤ q.holdCount + 1 →
             s.sequencerBoundary = s.endPatch { q with holdCount := q.holdCount + 1 } .timeout) ∧
           ((q.autoAdvance = false ∨ ∃ row < 18, row ∉ q.completed) → q.holdCount + 1 < q.holdLimit →
             s.sequencerBoundary = s.setSeq { s.seq with current := some { q with holdCount := q.holdCount + 1 } })))

/-- A patch that ends enters the history as its newest record, the oldest of five being evicted, and PATCH_DONE reports it (R82); then the run
ends HALTED, STOPPED, LIST_EMPTY or LIMIT, in that order, with SEQ_STOPPED, the sequencer ARMED with its requests clear and the progress timer
stopped, a deferred rate becoming the internal rate; or else the next patch begins, the requests clear (R64, R80, R83, R93).

What the frame that begins at a boundary carries (R72, R85): in IDLE the input frame, or black when the source is INTERNAL; in ARMED the rest
pattern, grey at level 2; in a run the current patch's colour at its level, white at level 4. The applier's view and the trims follow its mode
(R97, R103): unity in BYPASS, the working grid in WORKING, the committed image in COMMITTED. -/
def Obligations.EndedPatchEntersTheHistory : Prop :=
  (∀ (s : State) (q : Patch) (reason : EndReason), s.seq.history.length ≤ 4 → s.seq.inRun = true →
     let retired : State :=
       s.setSeq
         { s.seq with
           current := none
           history :=
             (if s.seq.history.length = 4 then s.seq.history.tail else s.seq.history) ++ [{ q with endReason := some reason }] }
     let reported : State :=
       retired.report 0x71
         (u8 q.tag ++ u32 (q.showNumber.getD 0) ++ u8 q.slice ++ u8 reason.code ++ flag q.ready ++ u8 q.received.length ++
           u8 q.completed.length)
     let stopped (code : Byte) : State :=
       (((reported.setSeq
         { retired.seq with state := .armed, current := none, haltRequested := false, advanceRequested := false }).setIntake
           { s.intake with progress := none }).setTiming
             { s.timing with rate := s.timing.deferred.getD s.timing.rate, deferred := none }).report 0x72
         ([code] ++ u8 s.seq.list.length ++ u32 s.seq.showNumber)
     (s.seq.haltRequested = true → s.endPatch q reason = stopped 2) ∧
       (s.seq.haltRequested = false → s.seq.state = .stopping → s.endPatch q reason = stopped 1) ∧
       (s.seq.haltRequested = false → s.seq.state = .running → s.seq.list = [] → s.endPatch q reason = stopped 0) ∧
       (s.seq.haltRequested = false → s.seq.state = .running → s.seq.list ≠ [] → 4294967295 ≤ s.seq.showNumber →
         s.endPatch q reason = stopped 3) ∧
       (∀ p rest, s.seq.haltRequested = false → s.seq.state = .running → s.seq.list = p :: rest → s.seq.showNumber < 4294967295 →
         s.endPatch q reason =
           reported.setSeq
             { retired.seq with
               list := rest
               showNumber := s.seq.showNumber + 1
               haltRequested := false
               advanceRequested := false
               current :=
                 some
                   { p with
                     showNumber := some (s.seq.showNumber + 1)
                     subPhase := some .settle
                     settleCounter := p.settleFrames
                     holdCount := 0
                     ready := false
                     completed := [] } })) ∧
  (∀ s : State,
     let level (n : Nat) : Nat := s.grid.levels.getD n 0
     (s.seq.state = .idle → s.framePicture = if s.timing.source = .input then .input else .uniform 0 0 0) ∧
       (s.seq.state = .armed → s.framePicture = .uniform (level 2) (level 2) (level 2)) ∧
       (∀ q, s.seq.inRun = true → s.seq.current = some q →
         (∀ n < 5,
           (q.slice = n → s.framePicture = .uniform (level n) 0 0) ∧ (q.slice = 5 + n → s.framePicture = .uniform 0 (level n) 0) ∧
             (q.slice = 10 + n → s.framePicture = .uniform 0 0 (level n))) ∧
           (q.slice = 15 → s.framePicture = .uniform (level 4) (level 4) (level 4))) ∧
       (s.applier.mode = .bypass → s.frameViewNow.mode = .bypass ∧ s.trimSource = List.replicate 144 128) ∧
       (s.applier.mode = .working →
         s.frameViewNow =
             { mode := .working, gains := s.grid.colour.map (fun slice => slice.map (·.cell.value)), levels := s.grid.levels } ∧
           s.trimSource = s.grid.zones.map (·.cell.value)) ∧
       (s.applier.mode = .committed →
         s.frameViewNow =
             { mode := .committed, gains := s.applier.committed.gains, levels := s.applier.committed.levels } ∧
           s.trimSource = s.applier.committed.trims))

/-- INTERNAL_GENERATOR_TICK produces a frame boundary while the internal generator runs, and the next interval takes the internal rate
then in force (R88, R93). At a boundary the sequencer comes first, then the applier's view, then the trim output. -/
def Obligations.GeneratorTickIsABoundary : Prop :=
  ∀ (s : State) (rate : Nat), s.power = .running → s.timing.generator = some rate →
    ∃ t, exec .internalGeneratorTick s = .next t ∧
      t = (s.frameBoundary.setTiming
        { s.frameBoundary.timing with generator := some s.frameBoundary.timing.rate }).arbitrate ∧
      s.frameBoundary = s.sequencerBoundary.takeFrameView.examineTrim ∧
      t.applier.view = some s.sequencerBoundary.frameViewNow ∧ t.applier.picture = some s.sequencerBoundary.framePicture

/-- INPUT_FRAME_START (R89 to R92): the totals of a completed frame raise the match count or start it anew; the third match acquires lock
with INPUT REGAINED; a locked frame start is a boundary when the source is INPUT; the source returns to INPUT at a locked frame start
outside a run, and during a run stays INTERNAL with no boundary.

A change of totals loses the lock and is no boundary, whichever the source: INPUT LOST goes out, MARKER LOST with it where the marker was present
(R94, R122), in either order by the model's reading (log 8), and with source INPUT the internal generator starts at the internal rate and a patch
being settled is settled anew, nothing else of the sequencer moving (R91).

A frame start with the gap timer stopped, the first after a reset or a gap, completes no frame and starts the timer. -/
def Obligations.FrameStartFollowsLockAndSource : Prop :=
  (∀ (s : State) (lines pixels : Half), s.power = .running → s.timing.gapRunning = true →
    (s.timing.lock = false → s.timing.source = .internal → s.timing.reference ≠ some (lines.toNat, pixels.toNat) →
        exec (.inputFrameStart lines pixels) s =
          .next ((s.setTiming { s.timing with reference := some (lines.toNat, pixels.toNat), matchCount := 1 }).setRegion
            { s.region with lineArmed := false }).arbitrate) ∧
      (s.timing.lock = false → s.timing.source = .internal → s.timing.reference = some (lines.toNat, pixels.toNat) →
        s.timing.matchCount = 1 →
          exec (.inputFrameStart lines pixels) s =
            .next ((s.setTiming { s.timing with matchCount := 2 }).setRegion { s.region with lineArmed := false }).arbitrate) ∧
      (s.timing.lock = false → s.timing.source = .internal → s.timing.reference = some (lines.toNat, pixels.toNat) →
        s.timing.matchCount = 2 →
          exec (.inputFrameStart lines pixels) s =
            .next (((s.setTiming { s.timing with matchCount := 3, lock := true }).report 0x74
              ([1, 1] ++ flag s.seq.inRun ++ lines.bytes ++ pixels.bytes)).setRegion
                { s.region with lineArmed := true }).arbitrate) ∧
      (s.timing.lock = true → s.timing.source = .input → s.timing.reference = some (lines.toNat, pixels.toNat) →
        exec (.inputFrameStart lines pixels) s =
          .next (s.setRegion { s.region with lineArmed := true }).frameBoundary.arbitrate) ∧
      (s.timing.lock = true → s.timing.source = .internal → s.seq.inRun = false →
        s.timing.reference = some (lines.toNat, pixels.toNat) →
          exec (.inputFrameStart lines pixels) s =
            .next ((s.setRegion { s.region with lineArmed := true }).setTiming
              { s.timing with source := .input, generator := none }).frameBoundary.arbitrate) ∧
      (s.timing.lock = true → s.timing.source = .internal → s.seq.inRun = true →
        s.timing.reference = some (lines.toNat, pixels.toNat) →
          exec (.inputFrameStart lines pixels) s = .next (s.setRegion { s.region with lineArmed := true }).arbitrate) ∧
      (s.timing.lock = true → s.timing.reference ≠ some (lines.toNat, pixels.toNat) →
        let inputLost (u : State) : State := u.report 0x74 [0, 1, 0, 0, 0, 0, 0]
        let markerLost (u : State) : State :=
          u.report 0x75
            ([bitByte [s.region.identity.isSome, false], 1, 0] ++ u16 s.region.sensed ++ flag s.region.sensedValid ++
              identityBytes s.region.identity ++ [0, 0, 0, 0])
        ∃ t, exec (.inputFrameStart lines pixels) s = .next t ∧
          (s.timing.source = .internal →
            t.timing = { s.timing with lock := false, reference := some (lines.toNat, pixels.toNat), matchCount := 1 } ∧
              t.seq = s.seq) ∧
          (s.timing.source = .input →
            t.timing =
                { s.timing with
                  lock := false
                  source := .internal
                  generator := some s.timing.rate
                  reference := some (lines.toNat, pixels.toNat)
                  matchCount := 1 } ∧
              (∀ q, s.seq.inRun = true → s.seq.current = some q → q.subPhase = some .settle →
                t.seq = { s.seq with current := some { q with settleCounter := q.settleFrames } }) ∧
              (s.seq.inRun = false ∨ (∀ q, s.seq.current = some q → q.subPhase ≠ some .settle) → t.seq = s.seq)) ∧
          t.region =
            { s.region with
              lineArmed := false
              markerPresent := false
              missCount := if s.region.markerPresent = true then 0 else s.region.missCount } ∧
          (s.region.markerPresent = false → t.station = (inputLost s).arbitrate.station) ∧
          (s.region.markerPresent = true →
            t.station = (markerLost (inputLost s)).arbitrate.station ∨ t.station = (inputLost (markerLost s)).arbitrate.station) ∧
          (s.Quiet → t.system = s.system) ∧ s.SameBesideLock t)) ∧
  (∀ (s : State) (lines pixels : Half), s.power = .running → s.timing.gapRunning = false → s.timing.lock = false →
    s.timing.source = .internal →
      exec (.inputFrameStart lines pixels) s =
        .next ((s.setTiming { s.timing with gapRunning := true }).setRegion { s.region with lineArmed := false }).arbitrate)

/-- INPUT_GAP_EXPIRY (R90, R91): the reference and the match count go; a held lock is lost, marker presence ends, and with source INPUT
the internal generator starts at the internal rate and a patch being settled is settled anew; a patch in HOLD, and the sequencer outside a run,
stay as they are. The report INPUT LOST goes out, and, the marker having been present, MARKER LOST with it (R94, R122, R125), in either order by
the model's reading (log 8). -/
def Obligations.GapExpiryLosesTheLock : Prop :=
  ∀ s : State, s.power = .running → s.timing.gapRunning = true →
    (s.timing.lock = false →
        exec .inputGapExpiry s =
          .next (s.setTiming { s.timing with gapRunning := false, matchCount := 0, reference := none }).arbitrate) ∧
      (s.timing.lock = true →
        ∃ t, exec .inputGapExpiry s = .next t ∧
          t.region =
            { s.region with
              lineArmed := false
              markerPresent := false
              missCount := if s.region.markerPresent = true then 0 else s.region.missCount } ∧
          (s.Quiet → t.system = s.system) ∧ s.SameBesideLock t ∧
          (s.timing.source = .input →
            t.timing =
                { s.timing with
                  lock := false
                  source := .internal
                  generator := some s.timing.rate
                  gapRunning := false
                  matchCount := 0
                  reference := none } ∧
              (∀ q, s.seq.inRun = true → s.seq.current = some q → q.subPhase = some .settle →
                t.seq = { s.seq with current := some { q with settleCounter := q.settleFrames } }) ∧
              (s.seq.inRun = false ∨ (∀ q, s.seq.current = some q → q.subPhase ≠ some .settle) → t.seq = s.seq)) ∧
          (s.timing.source = .internal →
            t.timing = { s.timing with lock := false, gapRunning := false, matchCount := 0, reference := none } ∧ t.seq = s.seq) ∧
          let inputLost (u : State) : State := u.report 0x74 [0, 1, 0, 0, 0, 0, 0]
          let markerLost (u : State) : State :=
            u.report 0x75
              ([bitByte [s.region.identity.isSome, false], 1, 0] ++ u16 s.region.sensed ++ flag s.region.sensedValid ++
                identityBytes s.region.identity ++ [0, 0, 0, 0])
          (s.region.markerPresent = false → t.station = (inputLost s).arbitrate.station) ∧
            (s.region.markerPresent = true →
              t.station = (markerLost (inputLost s)).arbitrate.station ∨ t.station = (inputLost (markerLost s)).arbitrate.station))

/-! ### The applier and the trim output -/

/-- In WORKING and COMMITTED the output code is the smaller of 1023 and the input code times a gain over 2048 (R101): the first level's spatial gain
up to its code, the last level's from its code on, and between two levels their spatial gains in proportion (R100); at a level's code that
level's alone. In BYPASS the output is the input (R98). Every output code lies in 0 to 1023 (the law of R101).

The spatial gain of a level (R99): between node centres the four gains around the pixel in proportion, beyond the outermost centres those of the
border. At a node's centre it is the node's gain, and everywhere it lies between the least and the greatest of the slice.

A view whose gains are all 2048 passes every code unchanged (R98 to R101). -/
def Obligations.OutputFollowsTheFrameView : Prop :=
  let rounded (n d : Nat) : Nat := (2 * n + d) / (2 * d)
  (∀ (v : FrameView) (plane x y c : Nat), c ≤ 1023 →
     v.output plane x y c ≤ 1023 ∧ (v.mode = .bypass → v.output plane x y c = c)) ∧
  (∀ (v : FrameView) (plane x y c : Nat), v.mode ≠ .bypass → levelsValid v.levels = true → c ≤ 1023 →
     let code (level : Nat) : Nat := v.levels.getD level 0
     let gain (level : Nat) : Nat := spatialGain (v.gains.getD (plane * 5 + level) []) x y
     let out (g : Nat) : Nat := min 1023 (rounded (c * g) 2048)
     (c ≤ code 0 → v.output plane x y c = out (gain 0)) ∧ (code 4 ≤ c → v.output plane x y c = out (gain 4)) ∧
       (∀ level < 5, c = code level → v.output plane x y c = out (gain level)) ∧
       (∀ level < 4, code level ≤ c → c < code (level + 1) →
         v.output plane x y c =
           out (rounded (gain level * (code (level + 1) - c) + gain (level + 1) * (c - code level))
             (code (level + 1) - code level)))) ∧
  (∀ (slice : List Nat) (i j wx wy : Nat), i < 31 ∧ wx < 240 ∨ i = 31 ∧ wx = 0 → j < 17 ∧ wy < 240 ∨ j = 17 ∧ wy = 0 →
     let g (row column : Nat) : Nat := slice.getD (row * 32 + column) 0
     spatialGain slice (120 + 240 * i + wx) (120 + 240 * j + wy) =
       rounded
         (g j i * (240 - wx) * (240 - wy) + g j (i + 1) * wx * (240 - wy) + g (j + 1) i * (240 - wx) * wy + g (j + 1) (i + 1) * wx * wy)
         57600) ∧
  (∀ (slice : List Nat) (x y : Nat),
     (x ≤ 120 → spatialGain slice x y = spatialGain slice 120 y) ∧ (7560 ≤ x → spatialGain slice x y = spatialGain slice 7560 y) ∧
       (y ≤ 120 → spatialGain slice x y = spatialGain slice x 120) ∧ (4200 ≤ y → spatialGain slice x y = spatialGain slice x 4200)) ∧
  (∀ (slice : List Nat) (row column : Nat), slice.length = 576 → row < 18 → column < 32 →
     spatialGain slice (120 + 240 * column) (120 + 240 * row) = slice.getD (row * 32 + column) 0 ∧
       (∀ lo hi x y, (∀ g ∈ slice, lo ≤ g ∧ g ≤ hi) → x < 7680 → y < 4320 → lo ≤ spatialGain slice x y ∧ spatialGain slice x y ≤ hi)) ∧
  (∀ (v : FrameView) (plane x y c : Nat), plane < 3 → x < 7680 → y < 4320 → c ≤ 1023 → levelsValid v.levels = true →
     v.gains = List.replicate 15 (List.replicate 576 2048) → v.output plane x y c = c)

/-- The trim output at a frame boundary (R105): a set dirty flag and an idle line begin one frame of the selected trims unless they are
the last sent; a frame in flight or a clear flag leaves the output as it is. The frame's end makes it the last sent (R106).

On the backlight line a trim frame is 149 bytes (R107, R191): the start code, the sequence number, the mode, the trims in zone order and a CRC-16
over all but the start code, each byte's most significant bit first. -/
def Obligations.TrimFramesFollowTheDirtyFlag : Prop :=
  (∀ s : State,
    (s.trim.dirty = false ∨ s.trim.inFlight.isSome = true → s.examineTrim = s) ∧
      (s.trim.dirty = true → s.trim.inFlight = none → s.trim.lastSent ≠ some s.trimImage →
        s.examineTrim =
          s.setTrim
            { s.trim with
              dirty := false
              inFlight := some { sequence := s.trim.sequence, image := s.trimImage }
              sequence := (s.trim.sequence + 1) % 256 }) ∧
      (s.trim.dirty = true → s.trim.inFlight = none → s.trim.lastSent = some s.trimImage →
        s.examineTrim = s.setTrim { s.trim with dirty := false }) ∧
      (∀ f, s.power = .running → s.trim.inFlight = some f →
        exec .trimFrameComplete s =
          .next (s.setTrim { s.trim with inFlight := none, lastSent := some f.image }).arbitrate)) ∧
  (∀ f : TrimFrame, f.image.trims.length = 144 →
     let mode : Byte := match f.image.mode with | .bypass => 0 | .working => 1 | .committed => 2
     let covered : List Byte := [BitVec.ofNat 8 f.sequence, mode] ++ f.image.trims.map (BitVec.ofNat 8)
     f.wire = [0x5C] ++ covered ++ [(crc16 covered).extractLsb' 0 8, (crc16 covered).extractLsb' 8 8] ∧ f.wire.length = 149 ∧
       f.line.length = 1192 ∧ ∀ i < 149, ∀ j < 8, f.line[8 * i + j]? = some ((f.wire.getD i 0).getMsbD j))

/-! ### Regions and the marker -/

/-- LOAD_PROFILE fills its slot, and SET_REGION writes GIVEN; CURRENT, the unknown condition and, after SET_REGION, the conflict flag follow at
once, and the reply says so, with code 0 for an unset CURRENT by the model's reading (log 14). A code held elsewhere is refused DUPLICATE, the slot
of CURRENT's profile IN_USE (R111), a code without a profile NO_PROFILE; the value GIVEN already holds changes nothing (R114), which is looked at
after the checks by the model's reading (log 30).

The recomputation in OPEN (R113, R116, R117): what CURRENT, the unknown condition and the conflict flag become, with REGION_UNKNOWN and
REGION_CONFLICT as they rise. What the readers of a changed CURRENT take (R115): the frame timing unit its rate, deferred during a run (R93);
grid memory its ceiling (R9, R10), held while a row is in process, in the place of one already held (R13), a ceiling equal to the one in force too
by the model's reading (log 12). Outside OPEN, CURRENT and its readers stay, the unknown condition is no and the conflict flag follows (R113, R116,
R117).

An accepted marker (R123, R124): a pair of markers that carry one region moves SENSED to it, any other leaves SENSED as it is; the station
identity is assembled from a pending high byte and the next accepted marker, when that one follows it, with MARKER event IDENTITY where it is
new. -/
def Obligations.RegionRequestsRecomputeCurrent : Prop :=
  (∀ (s : State) (tag slot : Byte) (f : ProfileFields), s.AdmitsOpen tag → slot.toNat ≤ 7 → profileValid f = true →
     let t : State := (s.setRegion { s.region with slots := s.region.slots.set slot.toNat (some (profileGiven f)) }).settleCurrent
     (s.region.heldElsewhere slot.toNat f.code.toNat = true →
         exec (.loadProfile .station tag slot f) s = .next (s.reply .station 0x40 tag .duplicate []).arbitrate) ∧
       (s.region.heldElsewhere slot.toNat f.code.toNat = false → s.region.currentIn slot.toNat = true →
         exec (.loadProfile .station tag slot f) s = .next (s.reply .station 0x40 tag .inUse []).arbitrate) ∧
       (s.region.heldElsewhere slot.toNat f.code.toNat = false → s.region.currentIn slot.toNat = false →
         exec (.loadProfile .station tag slot f) s =
           .next (t.reply .station 0x40 tag .ok
             ([slot] ++ u16 ((t.region.current.map (·.code)).getD 0) ++
               flag (decide (s.region.current.map (fun c => (c.code, c.profile)) ≠
                 t.region.current.map (fun c => (c.code, c.profile)))))).arbitrate)) ∧
  (∀ (s : State) (tag : Byte) (code : Half), s.AdmitsOpen tag → code.toNat ≤ 999 → s.seq.inRun = false →
     let t : State := (s.setRegion { s.region with given := code.toNat }).settleRegion
     let shown (r : Region) : List Byte := u16 r.given ++ u16 ((r.current.map (·.code)).getD 0) ++ flag r.conflict
     (code.toNat ≠ 0 → s.region.profileFor code.toNat = none →
         exec (.setRegion .station tag code) s = .next (s.reply .station 0x41 tag .noProfile []).arbitrate) ∧
       (code.toNat = 0 ∨ (s.region.profileFor code.toNat).isSome = true → code.toNat = s.region.given →
         exec (.setRegion .station tag code) s = .next (s.reply .station 0x41 tag .ok (shown s.region)).arbitrate) ∧
       (code.toNat = 0 ∨ (s.region.profileFor code.toNat).isSome = true → code.toNat ≠ s.region.given →
         exec (.setRegion .station tag code) s = .next (t.reply .station 0x41 tag .ok (shown t.region)).arbitrate)) ∧
  (∀ s : State, s.unit.phase = .opened →
     let t := s.settleCurrent
     let current :=
       if s.region.given ≠ 0 then s.region.profileFor s.region.given
       else if s.region.sensedValid = true then s.region.profileFor s.region.sensed
       else none
     let unknown : Bool :=
       decide (s.region.given = 0 ∧ s.region.sensedValid = true ∧ s.region.profileFor s.region.sensed = none)
     let conflict : Bool := decide (s.region.given ≠ 0 ∧ s.region.sensedValid = true ∧ s.region.sensed ≠ s.region.given)
     let changed : Prop := s.region.current.map (fun c => (c.code, c.profile)) ≠ current.map (fun c => (c.code, c.profile))
     let rate := (current.map (·.profile.mains)).getD 60
     let ceiling := current.map (·.profile.ceiling)
     s.SameBesideRegion t ∧ t.system = s.system ∧ t.region = { s.region with current := current, unknown := unknown } ∧
       t.station =
         (if unknown = true ∧ s.region.unknown = false then
           (s.report 0x77 ([bitByte [s.region.identity.isSome]] ++ u16 s.region.sensed ++ identityBytes s.region.identity)).station
         else s.station) ∧
       (¬ changed → t.grid = s.grid ∧ t.timing = s.timing) ∧
       (changed →
         (s.seq.inRun = false → t.timing = { s.timing with rate := rate, deferred := none }) ∧
           (s.seq.inRun = true → rate ≠ s.timing.rate → t.timing = { s.timing with deferred := some rate }) ∧
           (s.seq.inRun = true → rate = s.timing.rate → t.timing = { s.timing with deferred := none }) ∧
           (s.intake.inProcess = none → t.grid = s.grid.retarget s.grid.aims ceiling) ∧
           (s.intake.inProcess.isSome = true →
             ((∀ limit, HeldItem.ceiling limit ∉ s.grid.held) →
                 t.grid = { s.grid with held := s.grid.held ++ [.ceiling ceiling] }) ∧
               (∀ before old after, (∀ limit, HeldItem.ceiling limit ∉ before) →
                 s.grid.held = before ++ .ceiling old :: after →
                   t.grid = { s.grid with held := before ++ .ceiling ceiling :: after }))) ∧
       s.settleRegion =
         (let u := t.setRegion { t.region with conflict := conflict }
          if conflict = true ∧ s.region.conflict = false then
            u.report 0x76
              ([bitByte [s.region.identity.isSome]] ++ u16 s.region.given ++ u16 s.region.sensed ++ identityBytes s.region.identity)
          else u)) ∧
  (∀ s : State, s.unit.phase ≠ .opened →
     let conflict : Bool := decide (s.region.given ≠ 0 ∧ s.region.sensedValid = true ∧ s.region.sensed ≠ s.region.given)
     s.settleCurrent = s.setRegion { s.region with unknown := false } ∧
       s.settleRegion =
         (let u := s.setRegion { s.region with unknown := false, conflict := conflict }
          if conflict = true ∧ s.region.conflict = false then
            u.report 0x76
              ([bitByte [s.region.identity.isSome]] ++ u16 s.region.given ++ u16 s.region.sensed ++ identityBytes s.region.identity)
          else u)) ∧
  (∀ (s : State) (pixels : List Pixel) (meets : Bool) (m : Marker),
     s.power = .running → pixels.length = 768 → s.region.lineArmed = true →
     decodeMarker (cellValues pixels) = some m →
       let confirms : Prop := ∃ last, s.region.lastMarker = some last ∧ last.code = m.code ∧ 1 ≤ m.code ∧ m.code ≤ 999
       ∃ t, exec (.markerRead ⟨pixels, meets⟩) s = .next t ∧
         (confirms →
           t.region.sensed = m.code ∧ t.region.sensedValid = true ∧
             (s.region.sensedValid = false ∨ s.region.sensed ≠ m.code →
               t.region.conflict = decide (s.region.given ≠ 0 ∧ m.code ≠ s.region.given) ∧
                 (s.unit.phase = .opened → t.region.current = t.region.computed)) ∧
             (s.unit.phase ≠ .opened → t.region.current = s.region.current ∧ t.grid = s.grid ∧ t.timing = s.timing)) ∧
         (¬ confirms → t.region.sensed = s.region.sensed ∧ t.region.sensedValid = s.region.sensedValid) ∧
         (¬ confirms ∨ (s.region.sensedValid = true ∧ s.region.sensed = m.code) →
           t.region.current = s.region.current ∧ t.region.conflict = s.region.conflict ∧ t.grid = s.grid ∧ t.timing = s.timing) ∧
         (∀ high, s.region.pendingHigh = some high → m.frameIndex = high.frameIndex + 1 → m.line = high.line →
           t.region.pendingHigh = none ∧
             t.region.identity = some { line := m.line, station := high.stationByte * 256 + m.stationByte }) ∧
         ((∀ high, s.region.pendingHigh = some high → m.frameIndex ≠ high.frameIndex + 1 ∨ m.line ≠ high.line) →
           t.region.identity = s.region.identity ∧
             t.region.pendingHigh = (if m.frameIndex = 0 ∨ m.frameIndex = 2 then some m else none))) ∧
  (∀ (s : State) (m : Marker) (i : StationId),
     (s.region.identity = some i → s.takeIdentity m i = s) ∧
       (s.region.identity ≠ some i →
         s.takeIdentity m i =
           (s.setRegion { s.region with identity := some i }).report 0x75
             ([bitByte [true, true], 3] ++ flag s.region.markerPresent ++ u16 s.region.sensed ++ flag s.region.sensedValid ++
               (u8 i.line ++ u16 i.station) ++ (u8 m.frameIndex ++ u8 m.line ++ u16 m.code))))

/-- The marker the generator draws is decoded to its fields when its sync word and check code are right (R119, R120). -/
def Obligations.DrawnMarkerIsDecoded : Prop :=
  ∀ (frameIndex : BitVec 2) (line : BitVec 4) (code : BitVec 10) (stationByte : Byte) (pixels : List Pixel),
    (∀ i < 768, ∃ px, pixels[i]? = some px ∧
      px = (if ((0x6C35#16 ++ (frameIndex ++ line ++ code ++ stationByte) ++
          crc8 ((List.range 24).map (fun j => (frameIndex ++ line ++ code ++ stationByte).getMsbD j))) : BitVec 48).getMsbD (i / 16)
        then { r := 1023, g := 1023, b := 1023 } else { r := 0, g := 0, b := 0 })) →
      decodeMarker (cellValues pixels) =
        some { frameIndex := frameIndex.toNat, line := line.toNat, code := code.toNat, stationByte := stationByte.toNat }

/-- An accepted marker ends the misses and makes the marker present, with MARKER FOUND where it was not (R121); then a confirmed code that SENSED
does not hold moves it, with MARKER SENSED and what follows for CURRENT and the conflict flag (R123); the marker becomes the last accepted one;
then its station byte is taken, with MARKER IDENTITY where an identity new to the unit is assembled (R124). The reports join the queue in that
order (R125). A rejected marker raises the miss count while the marker is present, and the hundredth ends presence with MARKER LOST (R122). A
line 0 that is not read changes nothing (R119). Where the marker read meets the completion of a row and is taken second, the row that waits for
it begins after it (R127; log 33). -/
def Obligations.MarkerReadsCountPresence : Prop :=
  ∀ (s : State) (pixels : List Pixel) (meets : Bool), s.power = .running → pixels.length = 768 →
    (s.region.lineArmed = false → exec (.markerRead ⟨pixels, meets⟩) s = .next (s.beginDue meets).arbitrate) ∧
      (s.region.lineArmed = true → decodeMarker (cellValues pixels) = none → s.region.markerPresent = false →
        exec (.markerRead ⟨pixels, meets⟩) s = .next ((s.setRegion { s.region with lineArmed := false }).beginDue meets).arbitrate) ∧
      (s.region.lineArmed = true → decodeMarker (cellValues pixels) = none → s.region.markerPresent = true →
        s.region.missCount < 99 →
          exec (.markerRead ⟨pixels, meets⟩) s =
            .next ((s.setRegion { s.region with lineArmed := false, missCount := s.region.missCount + 1 }).beginDue meets).arbitrate) ∧
      (s.region.lineArmed = true → decodeMarker (cellValues pixels) = none → s.region.markerPresent = true →
        s.region.missCount = 99 →
          exec (.markerRead ⟨pixels, meets⟩) s =
            .next (((s.setRegion { s.region with lineArmed := false, markerPresent := false, missCount := 0 }).report 0x75
              ([bitByte [s.region.identity.isSome, false], 1, 0] ++ u16 s.region.sensed ++ flag s.region.sensedValid ++
                identityBytes s.region.identity ++ [0, 0, 0, 0])).beginDue meets).arbitrate) ∧
      (∀ m, s.region.lineArmed = true → decodeMarker (cellValues pixels) = some m →
        let shown (event : Byte) (u : State) : State :=
          u.report 0x75
            ([bitByte [u.region.identity.isSome, true], event] ++ flag u.region.markerPresent ++ u16 u.region.sensed ++
              flag u.region.sensedValid ++ identityBytes u.region.identity ++ (u8 m.frameIndex ++ u8 m.line ++ u16 m.code))
        let moves : Prop :=
          (∃ last, s.region.lastMarker = some last ∧ last.code = m.code ∧ 1 ≤ m.code ∧ m.code ≤ 999) ∧
            ¬ (s.region.sensedValid = true ∧ s.region.sensed = m.code)
        let found : State :=
          let u := s.setRegion { s.region with lineArmed := false, markerPresent := true, missCount := 0 }
          if s.region.markerPresent = true then u else shown 0 u
        ∃ settled kept taken : State,
          exec (.markerRead ⟨pixels, meets⟩) s = .next (taken.beginDue meets).arbitrate ∧
            (moves → settled = (shown 2 (found.setRegion { found.region with sensed := m.code, sensedValid := true })).settleRegion) ∧
            (¬ moves → settled = found) ∧ kept = settled.setRegion { settled.region with lastMarker := some m } ∧
            (∀ high, s.region.pendingHigh = some high → m.frameIndex = high.frameIndex + 1 → m.line = high.line →
              let identity : StationId := { line := m.line, station := high.stationByte * 256 + m.stationByte }
              (s.region.identity = some identity → taken = kept.setRegion { kept.region with pendingHigh := none }) ∧
                (s.region.identity ≠ some identity →
                  taken = shown 3 (kept.setRegion { kept.region with pendingHigh := none, identity := some identity }))) ∧
            ((∀ high, s.region.pendingHigh = some high → m.frameIndex ≠ high.frameIndex + 1 ∨ m.line ≠ high.line) →
              taken =
                kept.setRegion
                  { kept.region with pendingHigh := if m.frameIndex = 0 ∨ m.frameIndex = 2 then some m else none }) ∧
            taken.region.markerPresent = true ∧ taken.region.missCount = 0 ∧ taken.region.lastMarker = some m ∧
            taken.region.given = s.region.given ∧ taken.region.slots = s.region.slots ∧
            taken.region.committed = s.region.committed ∧ s.SameBesideRegion taken)

/-- SENSED moves only at a marker read, and only to the region code, 1 to 999, that the marker read and the last accepted marker both
carry (the law of R123). -/
def Obligations.SensedMovesOnlyOnAConfirmingPair : Prop :=
  ∀ (c : Instr) (s t : State), exec c s = .next t → t.region.sensedValid = true →
    t.region.sensed ≠ s.region.sensed ∨ s.region.sensedValid = false →
      ∃ pixels meets m last, c = .markerRead ⟨pixels, meets⟩ ∧ decodeMarker (cellValues pixels) = some m ∧ s.region.lastMarker = some last ∧
        last.code = m.code ∧ t.region.sensed = m.code ∧ 1 ≤ m.code ∧ m.code ≤ 999

/-! ### Keys and checks -/

/-- Loading a key (R130, R131, R134): KEY_BEGIN fills the lowest EMPTY entry, KEY_CHUNK appends a body that is not yet whole, KEY_DISCARD
empties an entry that is neither in the area nor pending. Every other entry and the key area stay.

The chunk that completes a body is judged by its CRC-32 (R132): the key becomes STAGED when it matches, and CHECK_FAILED with KEY_STATE
when it does not. -/
def Obligations.KeysAreLoadedAndChecked : Prop :=
  (∀ (s : State) (tag : Byte) (id length offset : Half) (cls : Byte) (k : KeyClass) (check : Quad) (regions : List Half) (body : List Byte),
     s.AdmitsOpen tag → 1 ≤ body.length → body.length ≤ 512 →
       (∀ n, id ≠ 0 → KeyClass.ofNat? cls.toNat = some k → 16 ≤ length.toNat → length.toNat ≤ 1024 → regionListValid regions = true →
         s.keys.find id.toNat = none → s.keys.firstEmpty = some n →
           exec (.keyBegin .station tag id cls length check regions) s =
             .next ((s.setKeys
               { s.keys with
                 entries :=
                   s.keys.entries.set n
                     (some
                       { id := id.toNat, cls := k, length := length.toNat, check := check, regions := regionListGiven regions,
                         state := .loading, received := 0, body := [], offset := none, fixPending := false }) }).reply .station
               0x50 tag .ok (u8 n ++ id.bytes)).arbitrate) ∧
         (∀ n e, s.keys.find id.toNat = some (n, e) → e.inArea = false → offset.toNat = e.received →
           offset.toNat + body.length < e.length →
             exec (.keyChunk .station tag id offset body) s =
               .next ((s.setKeys
                 { s.keys with
                   entries :=
                     s.keys.entries.set n
                       (some { e with body := e.body ++ body, received := e.received + body.length }) }).reportKeyState
                 { e with body := e.body ++ body, received := e.received + body.length }
                 |>.reply .station 0x51 tag .ok
                   (id.bytes ++ u16 (e.received + body.length) ++ u8 e.state.code)).arbitrate) ∧
         (∀ n e, s.keys.find id.toNat = some (n, e) → e.inArea = false → e.fixPending = false →
           exec (.keyDiscard .station tag id) s =
             .next ((s.setKeys { s.keys with entries := s.keys.entries.set n none }).reply .station 0x52 tag .ok
               (id.bytes ++ u8 e.state.code)).arbitrate)) ∧
  (∀ (s : State) (tag : Byte) (id offset : Half) (body : List Byte) (n : Nat) (e : KeyEntry), s.AdmitsOpen tag → 1 ≤ body.length →
     body.length ≤ 512 → s.keys.find id.toNat = some (n, e) → e.inArea = false → offset.toNat = e.received →
       offset.toNat + body.length = e.length →
         (crc32 (e.body ++ body) = e.check →
             exec (.keyChunk .station tag id offset body) s =
               .next ((s.setKeys
                 { s.keys with
                   entries :=
                     s.keys.entries.set n
                       (some { e with body := e.body ++ body, received := e.length, state := .staged }) }).reply .station 0x51 tag
                 .ok (id.bytes ++ u16 e.length ++ [2])).arbitrate) ∧
           (crc32 (e.body ++ body) ≠ e.check →
             exec (.keyChunk .station tag id offset body) s =
               .next (((s.setKeys
                 { s.keys with
                   entries :=
                     s.keys.entries.set n
                       (some { e with body := e.body ++ body, received := e.length, state := .checkFailed }) }).report 0x78
                 (u16 e.id ++ [3] ++ Quad.bytes e.check ++ Quad.bytes (crc32 (e.body ++ body)))).reply .station 0x51 tag .ok
                   (id.bytes ++ u16 e.length ++ [3])).arbitrate))

/-- KEY_FIX (R136): with no STAGED key it is replied OK at once; when the footprints do not fit it is refused NO_SPACE; else every STAGED
key joins the fix set, the operation is registered, and the first key's space word is written at the fill point with no reply yet. -/
def Obligations.KeyFixBeginsAtTheFillPoint : Prop :=
  ∀ (s : State) (tag : Byte), s.AdmitsOpen tag → s.unit.op = none →
    (s.keys.countState .staged = 0 →
        exec (.keyFix .station tag) s =
          .next (s.reply .station 0x53 tag .ok (u8 0 ++ u16 s.keys.fill ++ u16 s.keys.free)).arbitrate) ∧
      (s.keys.countState .staged ≠ 0 → s.keys.free < spaceNeeded s.keys.entries →
        exec (.keyFix .station tag) s =
          .next (s.reply .station 0x53 tag .noSpace (u16 (spaceNeeded s.keys.entries) ++ u16 s.keys.free)).arbitrate) ∧
      (∀ n e, s.keys.countState .staged ≠ 0 → spaceNeeded s.keys.entries ≤ s.keys.free → nextPending s.keys.fixSet = some n →
        s.keys.fixSet.getD n none = some e →
          exec (.keyFix .station tag) s =
            .next ((((s.setKeys
              { s.keys with entries := s.keys.fixSet, op := some (.fix tag 0 n .spaceWord s.keys.fill) }).setUnit
                { s.unit with op := some .keyFix }).setNv
                  { s.nv with
                    write := some { place := .keyArea s.keys.fill, data := spaceWord (footprint e.length) } })).arbitrate)

/-- The writes of one key (R137): each verified write begins the next, the space word's raising the fill point by the footprint; the
completion mark's makes the key FIXED at its space, and the next key of the set then begins at the fill point, or after the last one the
operation ends OK.

A fix write that fails its verify stops the operation with NV_FAULT, which carries the keys fixed, the key, the step, the fill point and the free
space (R138): no key stays pending, the fill point stands but after step 1, where it follows the read-back of the space word; a torn word closes
the area. What a write left in the store is the command's operand (log 7, 25).

A key whose four writes have gone into a blank space is read back from the area as that key, FIXED, its body byte by byte, and WITHDRAWN once
its withdraw mark is written; no byte outside its space is touched (R133, R135, R141, R190). -/
def Obligations.FixWritesFollowTheirOrderOrStop : Prop :=
  (∀ (s : State) (tag : Byte) (count n start : Nat) (step : FixStep) (e : KeyEntry) (w : NvWrite),
     s.power = .running → s.keys.op = some (.fix tag count n step start) → s.keys.entries[n]? = some (some e) → s.nv.write = some w →
       w.place = .keyArea (start + (e.fixWrite step).1) → w.data = (e.fixWrite step).2 →
         (s.nv.endWrite .whole).readBack w = w.data →
           let writing (offset : Nat) (data : List Byte) : State :=
             s.setNv { s.nv.endWrite .whole with write := some { place := .keyArea offset, data := data } }
           let entries := s.keys.entries.set n (some { e with state := .fixed, offset := some start, fixPending := false, body := [] })
           (step = .spaceWord →
               exec (.keyFixWriteComplete .whole) s =
                 .next ((writing (start + 4) e.header).setKeys
                   { s.keys with fill := s.keys.fill + footprint e.length, op := some (.fix tag count n .header start) }).arbitrate) ∧
             (step = .header →
               exec (.keyFixWriteComplete .whole) s =
                 .next ((writing (start + 32) e.body).setKeys { s.keys with op := some (.fix tag count n .body start) }).arbitrate) ∧
             (step = .body →
               exec (.keyFixWriteComplete .whole) s =
                 .next ((writing (start + 22) [0x5A]).setKeys { s.keys with op := some (.fix tag count n .mark start) }).arbitrate) ∧
             (step = .mark →
               (nextPending entries = none →
                   exec (.keyFixWriteComplete .whole) s =
                     .next ((((s.setNv (s.nv.endWrite .whole)).setKeys { s.keys with entries := entries, op := none }).setUnit
                       { s.unit with op := none }).reply .station 0x53 tag .ok
                         (u8 (count + 1) ++ u16 s.keys.fill ++ u16 s.keys.free)).arbitrate) ∧
                 (∀ k next, nextPending entries = some k → entries[k]? = some (some next) →
                   exec (.keyFixWriteComplete .whole) s =
                     .next ((writing s.keys.fill (spaceWord (footprint next.length))).setKeys
                       { s.keys with
                         entries := entries
                         op := some (.fix tag (count + 1) k .spaceWord s.keys.fill) }).arbitrate))) ∧
  (∀ (s : State) (tag : Byte) (count n start : Nat) (step : FixStep) (e : KeyEntry) (w : NvWrite) (outcome : WriteOutcome),
     s.power = .running → s.keys.op = some (.fix tag count n step start) → s.keys.entries[n]? = some (some e) → s.nv.write = some w →
       (s.nv.endWrite outcome).readBack w ≠ w.data →
         let word := Cells.readAll (s.nv.endWrite outcome).keyArea start 4
         let stops (fill : Nat) (closed : Bool) : Prop :=
           exec (.keyFixWriteComplete outcome) s =
             .next ((((s.setNv (s.nv.endWrite outcome)).setKeys
               { entries := s.keys.entries.map (fun x => x.map (fun x => { x with fixPending := false }))
                 fill := fill
                 areaClosed := closed
                 op := none }).setUnit { s.unit with op := none }).reply .station 0x53 tag .nvFault
                   (u8 count ++ u16 e.id ++
                     u8 (match step with | .spaceWord => 1 | .header => 2 | .body => 3 | .mark => 4) ++ u16 fill ++
                       u16 (if closed then 0 else 16384 - fill))).arbitrate
         (step ≠ .spaceWord → stops s.keys.fill s.keys.areaClosed) ∧
           (step = .spaceWord →
             (∀ size, readSpaceWord start word = .length size → stops (start + size) s.keys.areaClosed) ∧
               (readSpaceWord start word = .blankWord → stops s.keys.fill s.keys.areaClosed) ∧
               (readSpaceWord start word = .torn → stops s.keys.fill true))) ∧
  (∀ (area : List Host.Cell) (start : Nat) (e : KeyEntry), 16 ≤ e.length → e.length ≤ 1024 → start + footprint e.length ≤ 16384 →
     start % 16 = 0 → e.id < 65536 → e.body.length = e.length → e.received = e.length →
       (∀ codes, e.regions = some codes → 1 ≤ codes.length ∧ codes.length ≤ 4 ∧ ∀ c ∈ codes, c ≤ 999) →
         (∀ x, start ≤ x → x < start + footprint e.length → Cells.read area x = 0xFF) →
           let step (cells : List Host.Cell) (k : FixStep) : List Host.Cell :=
             Cells.writeAll cells (start + (e.fixWrite k).1) (e.fixWrite k).2
           let unmarked := step (step (step area .spaceWord) .header) .body
           let written := step unmarked .mark
           let fixed : KeyEntry := { e with state := .fixed, body := [], offset := some start, fixPending := false }
           readSpaceWord start (Cells.readAll unmarked start 4) = .length (footprint e.length) ∧ keyAt unmarked start = none ∧
             readSpaceWord start (Cells.readAll written start 4) = .length (footprint e.length) ∧ keyAt written start = some fixed ∧
             Cells.readAll written (start + 32) e.length = e.body ∧
             keyAt (Cells.write written (start + 23) 0x00) start = some { fixed with state := .withdrawn } ∧
             (∀ x, x < start ∨ start + footprint e.length ≤ x → Cells.read written x = Cells.read area x))

/-- KEY_WITHDRAW of a FIXED key registers the operation and writes 0x00 into byte 23 of its space; at the write's completion a mark that
is not blank makes the key WITHDRAWN, and a blank one leaves it FIXED (R139, R190). The deferred reply carries the key id and the state, with OK
where the byte reads as written and NV_FAULT where it does not (R139). What the write left is the command's operand (log 7). -/
def Obligations.WithdrawFollowsItsMark : Prop :=
  ∀ (s : State) (tag : Byte) (id : Half) (n x : Nat) (e : KeyEntry) (outcome : WriteOutcome), e.offset = some x →
    (s.AdmitsOpen tag → s.keys.find id.toNat = some (n, e) → e.state = .fixed → s.unit.op = none →
        exec (.keyWithdraw .station tag id) s =
          .next ((((s.setKeys { s.keys with op := some (.withdraw tag n) }).setUnit
            { s.unit with op := some .keyWithdraw }).setNv
              { s.nv with write := some { place := .keyArea (x + 23), data := [0x00] } })).arbitrate) ∧
      (s.power = .running → s.keys.op = some (.withdraw tag n) → s.keys.entries[n]? = some (some e) → e.state = .fixed →
        s.nv.write = some { place := .keyArea (x + 23), data := [0x00] } →
          ∃ t, exec (.keyWithdrawWriteComplete outcome) s = .next t ∧ t.unit.op = none ∧ t.keys.op = none ∧
            t.nv = s.nv.endWrite outcome ∧ t.keys.fill = s.keys.fill ∧ t.keys.areaClosed = s.keys.areaClosed ∧
            s.SameBesideKeys t ∧
            (Cells.read t.nv.keyArea (x + 23) ≠ 0xFF →
              t.keys.entries = s.keys.entries.set n (some { e with state := .withdrawn })) ∧
            (Cells.read t.nv.keyArea (x + 23) = 0xFF → t.keys.entries = s.keys.entries) ∧
            t.station =
              (s.reply .station 0x54 tag (if Cells.read t.nv.keyArea (x + 23) = 0x00 then .ok else .nvFault)
                (u16 e.id ++ [if Cells.read t.nv.keyArea (x + 23) = 0xFF then 4 else 5])).arbitrate.station)

/-- SET_CHECK stores a record whose argument suits its quantity, and refuses the others BAD_VALUE (R147).

A slot's verdict (R148, R149): the conditions met are those of its mask that hold between the value and the limit, and the verdict is FAIL
exactly when one is met; the absent policy, with none met, when the quantity has no value. The overall verdict is FAIL exactly when some
verdict is. -/
def Obligations.ChecksAreStoredAndJudged : Prop :=
  (∀ (s : State) (tag slot : Byte) (f : CheckFields), s.AdmitsOpen tag →
     (∀ record, slot.toNat ≤ 15 → checkGiven f = some record →
         exec (.setCheck .station tag slot f) s =
           .next ((s.setChecks (s.checks.set slot.toNat record)).reply .station 0x60 tag .ok
             ([slot] ++ record.bytes ++ u8 (enabledCount (s.checks.set slot.toNat record)))).arbitrate) ∧
       (15 < slot.toNat ∨ checkGiven f = none →
         exec (.setCheck .station tag slot f) s = .next (s.reply .station 0x60 tag .badValue []).arbitrate)) ∧
  (∀ (c : CheckSlot) (slot : Nat) (q : Nat),
     ((c.judge slot (some q)).verdict = .fail ↔
         (c.mask.less = true ∧ (q : Int) < c.limit) ∨ (c.mask.greater = true ∧ c.limit < q) ∨ (c.mask.equal = true ∧ (q : Int) = c.limit) ∨
           (c.mask.magLess = true ∧ q < c.limit.natAbs) ∨ (c.mask.magGreater = true ∧ c.limit.natAbs < q)) ∧
       ((c.judge slot (some q)).met.less = true ↔ c.mask.less = true ∧ (q : Int) < c.limit) ∧
       ((c.judge slot (some q)).met.greater = true ↔ c.mask.greater = true ∧ c.limit < q) ∧
       ((c.judge slot (some q)).met.equal = true ↔ c.mask.equal = true ∧ (q : Int) = c.limit) ∧
       ((c.judge slot (some q)).met.magLess = true ↔ c.mask.magLess = true ∧ q < c.limit.natAbs) ∧
       ((c.judge slot (some q)).met.magGreater = true ↔ c.mask.magGreater = true ∧ c.limit.natAbs < q) ∧
       (c.judge slot none).verdict = c.absent ∧ (c.judge slot none).met = .none) ∧
  (∀ records : List VerdictRecord, overallVerdict records = .fail ↔ ∃ v ∈ records, v.verdict = .fail)

/-! ### The unit's life -/

/-- OPEN (R165, R166): in BLANK it begins the write of copy A or the copy that is not newest with mark OPEN; in PARKED the stored serial
enters OPEN at once, another is refused SERIAL_MISMATCH.

OPEN_WRITE_COMPLETE (R165): a verified copy makes the serial the unit's and enters OPEN; a failed one leaves BLANK with NV_FAULT; which of
the two, the command's operand says, and a torn write always fails (log 7, 31).

The entry to OPEN (R166): the phase, GIVEN with CURRENT and the conflict flag recomputed, the mode WORKING, and a restart of all slices (R16): gains
return to 2048 but a pinned node keeps its pin and gain, trims return to 128, every record forgets, the sticky flags clear, the phase is COARSE, the
rows go with their DISCARDED replies, the history goes, the show number is 0. The tuning, levels and aims, the patch list, the check slots and the
key table stay. The replies of OPEN give code 0 for an unset CURRENT by the model's reading (log 14). -/
def Obligations.OpenBeginsOrEnters : Prop :=
  (∀ (s : State) (tag : Byte) (given : Half) (serial : List Byte), s.Admits .station tag → serialValid serial = true → given.toNat ≤ 999 →
     s.unit.op = none →
       (s.unit.phase = .blank →
           exec (.openUnit .station tag given serial) s =
             .next (((s.setUnit { s.unit with op := some (.openWrite tag serial given.toNat) }).setNv
               { s.nv with
                 write :=
                   some
                     { place := s.nv.target
                       data :=
                         UnitRecord.bytes
                           { generation := s.nv.nextGeneration, mark := .opened, rework := 0, serial := serial,
                             identity := none } } })).arbitrate) ∧
         (s.unit.phase = .parked → s.unit.serial ≠ some serial →
           exec (.openUnit .station tag given serial) s = .next (s.reply .station 0x10 tag .serialMismatch []).arbitrate) ∧
         (s.unit.phase = .parked → s.unit.serial = some serial →
           exec (.openUnit .station tag given serial) s =
             .next ((s.enterOpen given.toNat).reply .station 0x10 tag .ok
               ([2] ++ (u8 serial.length ++ serial) ++ u8 s.unit.rework ++ u16 given.toNat ++
                 u16 (s.enterOpen given.toNat).region.currentCode)).arbitrate)) ∧
  (∀ (s : State) (tag : Byte) (serial left : List Byte) (given : Nat) (w : NvWrite),
     s.power = .running → s.unit.op = some (.openWrite tag serial given) → s.nv.write = some w →
       exec (.openWriteComplete .whole) s =
           .next ((((s.setNv (s.nv.endWrite .whole)).setUnit { s.unit with serial := some serial, op := none }).enterOpen
             given).replyOpened tag).arbitrate ∧
         exec (.openWriteComplete (.torn left)) s =
           .next (((s.setNv (s.nv.endWrite (.torn left))).setUnit { s.unit with op := none }).reply .station 0x10 tag .nvFault
             []).arbitrate) ∧
  (∀ (s : State) (given : Nat),
     (s.enterOpen given).unit = { s.unit with phase := .opened } ∧ (s.enterOpen given).region.given = given ∧
       (s.enterOpen given).region.current = (s.enterOpen given).region.computed ∧
       (s.enterOpen given).region.conflict = conflictFlag given s.region.sensed s.region.sensedValid ∧
       (s.enterOpen given).region.slots = s.region.slots ∧ (s.enterOpen given).applier.mode = .working ∧
       (s.enterOpen given).applier.committed = s.applier.committed ∧ (s.enterOpen given).grid.phase = .coarse ∧
       (s.enterOpen given).grid.tuning = s.grid.tuning ∧ (s.enterOpen given).grid.levels = s.grid.levels ∧
       (s.enterOpen given).grid.aims = s.grid.aims ∧ (s.enterOpen given).seq.history = [] ∧
       (s.enterOpen given).seq.showNumber = 0 ∧ (s.enterOpen given).checks = s.checks ∧ (s.enterOpen given).keys = s.keys ∧
       (s.enterOpen given).nv = s.nv) ∧
  (∀ (s : State) (given : Nat), s.Shaped →
     let t := s.enterOpen given
     t.grid.colour =
         s.grid.colour.map (fun slice =>
           slice.map (fun n =>
             if n.cell.state = .pinned then
               { cell :=
                   { value := n.cell.value, state := .pinned, streak := 0, iterations := 0, appliedAt := 0, saturated := false }
                 lastMeasured := none
                 lastError := none
                 pin := n.pin }
             else
               { cell := { value := 2048, state := .seeking, streak := 0, iterations := 0, appliedAt := 0, saturated := false }
                 lastMeasured := none
                 lastError := none
                 pin := 0 })) ∧
       t.grid.white = List.replicate 576 { lastMeasured := none, lastError := none, heldShow := none } ∧
       t.grid.zones =
         List.replicate 144
           { cell := { value := 128, state := .seeking, streak := 0, iterations := 0, appliedAt := 0, saturated := false }
             pendingSum := 0
             pendingCount := 0
             pendingShow := none
             pendingShort := false } ∧
       t.grid.sticky = List.replicate 16 false ∧ t.grid.phase = .coarse ∧
       (s.intake.inProcess = none → t.grid.held = s.grid.held) ∧
       (s.intake.inProcess = none → currentChanged s.region.current t.region.current = true →
         t.grid.ceiling = t.region.current.map (·.profile.ceiling)) ∧
       (currentChanged s.region.current t.region.current = false → t.grid.held = s.grid.held ∧ t.grid.ceiling = s.grid.ceiling) ∧
       t.intake = { s.intake with queue := [], inProcess := none } ∧ t.seq = { s.seq with history := [], showNumber := 0 } ∧
       t.station.replies =
         s.station.replies ++
           (s.intake.inProcess.toList.map (·.row) ++ s.intake.queue).map (fun row =>
             replyFrame 0x30 row.frameTag .discarded
               (measureFields row.patchTag row.row row.showNumber row.slice
                 { applied := 0, stale := 0, recordedOnly := 0, unusable := 0, zonesUpdated := 0 } false)) ∧
       t.applier = { s.applier with mode := .working } ∧
       t.trim =
         { s.trim with
           dirty :=
             s.trim.dirty || decide (s.applier.mode ≠ .working) || decide (trimsOf s.grid.zones ≠ List.replicate 144 128) } ∧
       t.power = s.power ∧ t.system = s.system ∧ t.pending = s.pending)

/-- CLOSE (R167): the nine preconditions all hold exactly when the commit begins, with phase CLOSING, COMMIT registered, the mark CLOSING
being written and no reply; else the first that fails is replied with its status and fields, and nothing changes. -/
def Obligations.CloseBeginsTheCommitOrRefuses : Prop :=
  ∀ (s : State) (tag : Byte), s.AdmitsUnclosed tag →
    (s.closeRefusal = none ↔
        s.unit.phase = .opened ∧ s.unit.op = none ∧ s.seq.state = .idle ∧ s.intake.queue = [] ∧ s.intake.inProcess = none ∧
          s.region.current.isSome = true ∧ s.region.conflict = false ∧ s.keys.pendingKeys = 0 ∧
          s.keys.satisfies s.region.current = true ∧ overallVerdict s.evaluation = .pass) ∧
      (let refused (status : Status) (fields : List Byte) : Prop :=
         exec (.close .station tag) s = .next (s.reply .station 0x11 tag status fields).arbitrate
       let pending : Nat :=
         (s.keys.entries.filterMap id).countP (fun e =>
           decide (e.state = .loading ∨ e.state = .staged ∨ e.state = .checkFailed))
       let unfixed (k : KeyClass) : Bool :=
         (s.keys.entries.filterMap id).all (fun e => decide (e.state ≠ .fixed ∨ e.cls ≠ k))
       (s.unit.phase ≠ .opened → refused .wrongPhase []) ∧
         (s.unit.phase = .opened →
           (∀ op, s.unit.op = some op → refused .busy (0 :: u8 op.code)) ∧
             (s.unit.op = none → s.seq.state ≠ .idle → refused .busy (1 :: u8 s.seq.state.code)) ∧
             (s.unit.op = none → s.seq.state = .idle →
               (∀ r, s.intake.inProcess = some r → refused .busy (2 :: u8 (s.intake.queue.length + 1))) ∧
                 (s.intake.inProcess = none → s.intake.queue ≠ [] → refused .busy (2 :: u8 s.intake.queue.length)) ∧
                 (s.intake.inProcess = none → s.intake.queue = [] →
                   (s.region.current = none →
                       refused .noRegion (u16 s.region.given ++ u16 s.region.sensed ++ flag s.region.sensedValid)) ∧
                     (∀ c, s.region.current = some c →
                       let lacking : List Bool :=
                         [c.profile.required.content && unfixed .content, c.profile.required.identity && unfixed .identity,
                          c.profile.required.service && unfixed .service, c.profile.required.platform && unfixed .platform]
                       (s.region.conflict = true → refused .conflict (u16 s.region.given ++ u16 s.region.sensed)) ∧
                         (s.region.conflict = false → pending ≠ 0 → refused .keysPending (u8 pending)) ∧
                         (s.region.conflict = false → pending = 0 → true ∈ lacking →
                           refused .keysMissing [bitByte lacking]) ∧
                         (s.region.conflict = false → pending = 0 → true ∉ lacking →
                           (∃ v ∈ s.evaluation, v.verdict = .fail) →
                             refused .checkFail
                               (u8 s.evaluation.length ++ s.evaluation.flatMap VerdictRecord.bytes))))))) ∧
      (∀ status fields, s.closeRefusal = some (status, fields) →
        exec (.close .station tag) s = .next (s.reply .station 0x11 tag status fields).arbitrate) ∧
      (s.closeRefusal = none →
        exec (.close .station tag) s =
          .next ((((s.setUnit { s.unit with phase := .closing, op := some (.commit tag .closingMark) }).setRegion
            { s.region with unknown := false }).setNv
              { s.nv with
                write :=
                  some
                    { place := s.nv.target
                      data :=
                        UnitRecord.bytes
                          { generation := s.nv.nextGeneration, mark := .closing, rework := s.unit.rework,
                            serial := s.unit.serial.getD [], identity := s.unit.identity } } })).arbitrate)

/-- Each verified write of the commit begins the next, in the order mark CLOSING, grid, region, tuning, mark CLOSED (R168).

The commit's end (R169, R170): step 3 verified makes the unit CLOSED with the identity written, the applier COMMITTED over the working
grid's image and CURRENT's profile the committed one, and CLOSE is replied OK with serial, rework count, CURRENT and identity. Any failed write
returns to OPEN, where CURRENT is recomputed, and CLOSE is replied NV_FAULT with the step and the record; the working grid, the applier and the
committed profile are untouched. Which write fails is the command's operand, and a torn one always does (log 7, 31); beside a step other than 2
the record byte is a free value (log 15). CLOSE's OK reply gives code 0 for an unset CURRENT by the model's reading (log 14).

What a verified write has put into the store is what start-up loads (R20, R118, R159, R161): the grid, region and tuning records come back as they
were written, and the unit record just written is the newest valid copy. -/
def Obligations.CommitWritesThenCompletesOrFails : Prop :=
  (∀ (s : State) (tag : Byte) (w : NvWrite), s.power = .running → s.nv.write = some w →
     (s.unit.op = some (.commit tag .closingMark) →
         exec (.commitWriteComplete .whole) s =
           .next (((s.setNv
             { s.nv.endWrite .whole with write := some { place := .gridRecord, data := s.grid.image.bytes } }).setUnit
               { s.unit with op := some (.commit tag .gridRecord) })).arbitrate) ∧
       (s.unit.op = some (.commit tag .gridRecord) → ∀ current, s.region.current = some current →
         exec (.commitWriteComplete .whole) s =
           .next (((s.setNv
             { s.nv.endWrite .whole with write := some { place := .regionRecord, data := current.profile.bytes } }).setUnit
               { s.unit with op := some (.commit tag .regionRecord) })).arbitrate) ∧
       (s.unit.op = some (.commit tag .regionRecord) →
         exec (.commitWriteComplete .whole) s =
           .next (((s.setNv
             { s.nv.endWrite .whole with write := some { place := .tuningRecord, data := s.grid.tuning.bytes } }).setUnit
               { s.unit with op := some (.commit tag .tuningRecord) })).arbitrate) ∧
       (s.unit.op = some (.commit tag .tuningRecord) →
         exec (.commitWriteComplete .whole) s =
           .next (((s.setNv
             { s.nv.endWrite .whole with
               write :=
                 some
                   { place := (s.nv.endWrite .whole).target
                     data :=
                       UnitRecord.bytes
                         { generation := (s.nv.endWrite .whole).nextGeneration, mark := .closed, rework := s.unit.rework,
                           serial := s.unit.serial.getD [], identity := s.region.identity } } }).setUnit
             { s.unit with op := some (.commit tag (.closedMark s.region.identity)) })).arbitrate)) ∧
  (∀ (s : State) (tag : Byte) (w : NvWrite) (identity : Option StationId), s.power = .running → s.nv.write = some w →
     s.unit.op = some (.commit tag (.closedMark identity)) →
       exec (.commitWriteComplete .whole) s =
         .next ((((((s.setNv (s.nv.endWrite .whole)).setUnit
           { s.unit with phase := .closed, identity := identity, op := none }).setApplier
             { s.applier with
               mode := .committed
               committed :=
                 { gains := s.grid.colour.map (fun slice => slice.map (·.cell.value))
                   trims := s.grid.zones.map (·.cell.value)
                   levels := s.grid.levels } }).setTrim
             { s.trim with dirty := s.trim.dirty || decide (s.applier.mode ≠ .committed) }).setRegion
             { s.region with
               committed := s.region.current.map (·.profile)
               current := s.region.current.map (fun c => { c with place := .committed }) }).reply .station 0x11 tag .ok
                 (serialText s.unit.serial ++ u8 s.unit.rework ++ u16 ((s.region.current.map (·.code)).getD 0) ++
                   [bitByte [identity.isSome]] ++ identityBytes identity)).arbitrate) ∧
  (∀ (s : State) (tag : Byte) (w : NvWrite) (left : List Byte) (step : CommitStep), s.power = .running → s.nv.write = some w →
     s.unit.op = some (.commit tag step) →
       let opened : State := (s.setNv (s.nv.endWrite (.torn left))).setUnit { s.unit with phase := .opened, op := none }
       exec (.commitWriteComplete (.torn left)) s =
           .next (opened.settleCurrent.reply .station 0x11 tag .nvFault
             (match step with
              | .closingMark => [1, Config.unreadCommitRecord]
              | .gridRecord => [2, 0]
              | .regionRecord => [2, 1]
              | .tuningRecord => [2, 2]
              | .closedMark _ => [3, Config.unreadCommitRecord])).arbitrate ∧
         opened.SameBesideRegion opened.settleCurrent ∧
         opened.settleCurrent.region =
           { s.region with
             current := s.region.computed
             unknown :=
               decide (s.region.given = 0 ∧ s.region.sensedValid = true ∧ s.region.profileFor s.region.sensed = none) } ∧
         (s.grid.colour.length = 15 →
           opened.settleCurrent.grid.gains = s.grid.gains ∧ trimsOf opened.settleCurrent.grid.zones = trimsOf s.grid.zones) ∧
         (currentChanged s.region.current s.region.computed = false → opened.settleCurrent.grid = s.grid)) ∧
  (∀ (nv : NvStore) (image : GridImage) (p : Profile) (t : Tuning) (r : UnitRecord),
     (image.Storable → nv.write = some { place := .gridRecord, data := image.bytes } →
         (nv.endWrite .whole).loadedImage = image) ∧
       (p.Storable → nv.write = some { place := .regionRecord, data := p.bytes } →
         (nv.endWrite .whole).loadedProfile = some p) ∧
       (t.Legal → nv.write = some { place := .tuningRecord, data := t.bytes } → (nv.endWrite .whole).loadedTuning = t) ∧
       (r.Storable → r.generation = nv.nextGeneration → nv.write = some { place := nv.target, data := r.bytes } →
         (nv.endWrite .whole).newest.map (·.2) = some r))

/-- REOPEN (R172, R173): a CLOSED unit with no operation in flight and a rework count below 3 begins the write of mark OPEN with the count one
higher; the checks refuse WRONG_PHASE, BUSY and REWORK_LIMIT in that order.

The verified write makes the unit OPEN with the count raised, the loop state cleared, the list and history empty, GIVEN the committed code with
CURRENT and its conditions recomputed, and the mode WORKING, and is replied OK with the count; a failed one leaves the unit CLOSED and is replied
NV_FAULT. Which, the command's operand says, and a torn write always fails (log 7, 31).

The clearing (R18, R87): gains, trims, pins and the PINNED state stay; streak, iterations, applied_at, saturated, the last values, the white nodes,
the pending sets and the sticky flags go, and the phase is COARSE; tuning, levels and aims stay. -/
def Obligations.ReopenRaisesTheReworkCount : Prop :=
  (∀ (s : State) (tag : Byte), s.Admits .station tag →
     (s.unit.phase ≠ .closed → exec (.reopen .station tag) s = .next (s.reply .station 0x12 tag .wrongPhase []).arbitrate) ∧
       (s.unit.phase = .closed → s.unit.op.isSome = true →
         exec (.reopen .station tag) s = .next (s.reply .station 0x12 tag .busy []).arbitrate) ∧
       (s.unit.phase = .closed → s.unit.op = none → 3 ≤ s.unit.rework →
         exec (.reopen .station tag) s = .next (s.reply .station 0x12 tag .reworkLimit []).arbitrate) ∧
       (s.unit.phase = .closed → s.unit.op = none → s.unit.rework < 3 →
         exec (.reopen .station tag) s =
           .next (((s.setUnit { s.unit with op := some (.reopenWrite tag) }).setNv
             { s.nv with
               write :=
                 some
                   { place := s.nv.target
                     data :=
                       UnitRecord.bytes
                         { generation := s.nv.nextGeneration, mark := .opened, rework := s.unit.rework + 1,
                           serial := s.unit.serial.getD [], identity := s.unit.identity } } })).arbitrate)) ∧
  (∀ (s : State) (tag : Byte) (w : NvWrite) (left : List Byte), s.power = .running → s.unit.op = some (.reopenWrite tag) →
     s.nv.write = some w →
       let reopened : State :=
         (s.setNv (s.nv.endWrite .whole)).setUnit { s.unit with phase := .opened, rework := s.unit.rework + 1, op := none }
       let settled : State := reopened.clearLoopState.writeGiven ((s.region.committed.map (·.code)).getD 0)
       exec (.reopenWriteComplete .whole) s =
           .next (((settled.setApplier { s.applier with mode := .working }).setTrim
             { s.trim with dirty := s.trim.dirty || decide (s.applier.mode ≠ .working) }).reply .station 0x12 tag .ok
               (u8 (s.unit.rework + 1))).arbitrate ∧
         reopened.clearLoopState.SameBesideRegion settled ∧
         settled.region.given = (s.region.committed.map (·.code)).getD 0 ∧ settled.region.current = settled.region.computed ∧
         settled.region.conflict = conflictFlag settled.region.given s.region.sensed s.region.sensedValid ∧
         settled.region.committed = s.region.committed ∧ settled.region.slots = s.region.slots ∧
         exec (.reopenWriteComplete (.torn left)) s =
           .next (((s.setNv (s.nv.endWrite (.torn left))).setUnit { s.unit with op := none }).reply .station 0x12 tag .nvFault
             []).arbitrate) ∧
  (∀ s : State,
     s.clearLoopState =
       (s.setGrid
         { s.grid with
           colour :=
             s.grid.colour.map (fun slice =>
               slice.map (fun n =>
                 { cell :=
                     { value := n.cell.value
                       state := if n.cell.state = .pinned then .pinned else .seeking
                       streak := 0
                       iterations := 0
                       appliedAt := 0
                       saturated := false }
                   lastMeasured := none
                   lastError := none
                   pin := n.pin }))
           white := s.grid.white.map (fun _ => { lastMeasured := none, lastError := none, heldShow := none })
           zones :=
             s.grid.zones.map (fun z =>
               { cell :=
                   { value := z.cell.value, state := .seeking, streak := 0, iterations := 0, appliedAt := 0, saturated := false }
                 pendingSum := 0
                 pendingCount := 0
                 pendingShow := none
                 pendingShort := false })
           sticky := s.grid.sticky.map (fun _ => false)
           phase := .coarse }).setSeq { s.seq with list := [], history := [], showNumber := 0 })

/-- PART_RESET sets reset pending with its OK reply; with an operation in flight it is refused BUSY and nothing changes (R163).

The reset with cause REQUEST takes place when the PART_RESET reply has been sent (R163, R183). -/
def Obligations.PartResetPendsUntilItsReplyIsSent : Prop :=
  (∀ (s : State) (tag : Byte), s.Admits .station tag →
     (s.unit.op = none →
         exec (.partReset .station tag) s =
           .next ((s.setUnit { s.unit with resetPending := true }).reply .station 0x13 tag .ok []).arbitrate) ∧
       (s.unit.op.isSome = true → exec (.partReset .station tag) s = .next (s.reply .station 0x13 tag .busy []).arbitrate)) ∧
  (∀ (s : State) (f : Frame), s.power = .running → s.unit.resetPending = true → s.station.sending = some f → f.kind = 0x93 →
     f.payload = [0] →
       exec (.transmissionComplete .station) s =
         .next (State.volatileReset .request { s.nv with write := none } s.pending s.choices))

/-! ### Invariants that every command keeps -/

/-- The machine right after reset meets every invariant below. -/
def Obligations.ResetMeetsEveryInvariant : Prop :=
  Cells.wf State.reset.nv.keyArea = true ∧ State.reset.WithinCapacities ∧ State.reset.Shaped ∧ State.reset.TagsUnique ∧
    State.reset.KeyIdsUnique ∧ State.reset.SeqLegal ∧ State.reset.GridLegal ∧ State.reset.StoreLegal ∧ State.reset.ErrorsLegal ∧
    State.reset.StampsLegal ∧ State.reset.Quiet ∧ State.reset.RowLegal ∧ State.reset.RowsBegin ∧ State.reset.OpsAgree ∧
    State.reset.RepliesFit ∧ State.reset.RegionAgrees ∧ State.reset.ClosureLegal ∧ State.reset.ReworkLegal

/-- The key area keeps its canonical form, and a written byte of it is never blank again (R133), through every step, resets included; what
a torn write left is normalised to the bytes of the write (log 25). -/
def Obligations.KeyAreaStaysCanonicalAndWritten : Prop :=
  ∀ s t : State, step s = .next t →
    (Cells.wf s.nv.keyArea = true → Cells.wf t.nv.keyArea = true) ∧
      (∀ x, Cells.read s.nv.keyArea x ≠ blank → Cells.read t.nv.keyArea x ≠ blank)

/-- No collection ever exceeds its capacity: the patch list 16, the history 4, the intake queue 8, the report queue 16, the key table 24
(the law of R49).

Grid memory's tables, the slots and the check slots keep their sizes. -/
def Obligations.CollectionsKeepTheirSizes : Prop :=
  (∀ s t : State, step s = .next t → s.WithinCapacities → t.WithinCapacities) ∧
  (∀ s t : State, step s = .next t → s.Shaped → t.Shaped)

/-- No patch tag is ever held twice among list, current patch and history (R68). -/
def Obligations.PatchTagsStayUnique : Prop :=
  ∀ s t : State, step s = .next t → s.TagsUnique → t.TagsUnique

/-- No key id is ever held by two entries (the law of R130); start-up loading, which rebuilds the table from what the area holds, apart.

An entry that is FIXED or WITHDRAWN stays so under its key id, so their number never decreases while the part runs (R129, R141). -/
def Obligations.KeyEntriesKeepTheirLaws : Prop :=
  (∀ (c : Instr) (s t : State), exec c s = .next t → c ≠ .startupLoading → s.KeyIdsUnique → t.KeyIdsUnique) ∧
  (∀ (c : Instr) (s t : State), exec c s = .next t → ¬ resets c s →
     ∀ (n : Nat) (e : KeyEntry), s.keys.entries[n]? = some (some e) → e.inArea = true →
       ∃ e', t.keys.entries[n]? = some (some e') ∧ e'.inArea = true ∧ e'.id = e.id)

/-- A current patch and a running progress timer are there exactly in RUNNING and STOPPING, a pending start only in ARMED (R68, R72). -/
def Obligations.SequencerStatesAreKept : Prop :=
  ∀ s t : State, step s = .next t → s.SeqLegal → t.SeqLegal

/-- The law of R7: gains, PINNED nodes apart, and trims stay within the limits of the tuning record in force, and streaks within C. At a
start-up under mark CLOSED, which alone loads the records, the law rests on what they hold (R20).

What they hold under that mark is legal, and every step keeps it so (R20, R168, R172): only a commit writes the records, from a grid within its
limits and with no mark CLOSED in force, and the mark follows them. This rests on the next generation fitting its 4 bytes (log 16). -/
def Obligations.GridStaysWithinItsLimits : Prop :=
  (∀ (c : Instr) (s t : State), exec c s = .next t → (c = .startupLoading → s.nv.MarkedClosed → s.nv.GridStored) →
     s.GridLegal → t.GridLegal) ∧
  (∀ s t : State, step s = .next t → s.nv.nextGeneration ≤ 4294967295 → s.OpsAgree → s.RowsBegin → s.GridLegal → s.Shaped →
     s.StoreLegal → t.StoreLegal)

/-- The law of R29: every recorded error and every zone error lies within -4096 to +4096. -/
def Obligations.ErrorsStayInRange : Prop :=
  (∀ s t : State, step s = .next t → s.ErrorsLegal → t.ErrorsLegal) ∧
    ∀ sum : Int, sum.natAbs ≤ 4096 * 4 → (roundDiv sum 4).natAbs ≤ 4096

/-- No applied_at is ever ahead of the show number (R26).

The tallies of the row in process add up to the counts taken (R24).

A row never waits in a non-empty queue while the engine is idle (R55): with no row in process grid memory holds nothing, and a row is queued
only while the marker read of the same moment as its completion is still to be taken (R127, log 33). -/
def Obligations.StampsAndTalliesKeepStep : Prop :=
  (∀ s t : State, step s = .next t → s.StampsLegal → t.StampsLegal) ∧
  (∀ s t : State, step s = .next t → s.RowLegal → t.RowLegal) ∧
  (∀ s t : State, step s = .next t → s.OpsAgree → s.RowsBegin → t.RowsBegin)

/-- The operation in flight, the key table's progress, the write in flight, the phase and a pending reset stay in agreement (R158, R160).

The reply queues never exceed their places: on the station port what waits and what is owed stay below 32, on the system port at most 2
wait (R178).

Between events no transmitter is free while something waits for it (R181). -/
def Obligations.OperationsAgreeAndRepliesFit : Prop :=
  (∀ s t : State, step s = .next t → s.OpsAgree → t.OpsAgree) ∧
  (∀ s t : State, step s = .next t → s.OpsAgree → s.RepliesFit → t.RepliesFit) ∧
  (∀ s t : State, step s = .next t → s.Quiet → t.Quiet)

/-- In OPEN, CURRENT is always what R113 makes of GIVEN, SENSED and the profiles, and the conflict flag and the unknown condition are
always what R116 and R117 make of them. -/
def Obligations.RegionStaysInAgreement : Prop :=
  ∀ s t : State, step s = .next t → s.OpsAgree → s.RegionAgrees → t.RegionAgrees

/-- The law of R161, while the part runs: in CLOSED, and in CLOSING before it, CURRENT is set and every class it
requires has a FIXED key. -/
def Obligations.ClosureLawIsKept : Prop :=
  ∀ (c : Instr) (s t : State), exec c s = .next t → c ≠ .startupLoading → s.OpsAgree → s.ClosureLegal → t.ClosureLegal

/-- The law of R172: the rework count never exceeds 3, not across resets and start-ups either. -/
def Obligations.ReworkNeverExceedsThree : Prop :=
  ∀ s t : State, step s = .next t → s.ReworkLegal → t.ReworkLegal

end
end

