-- ==== Sys2Proof/Laws/State.lean ====
section
/-! SUPPORT. One lemma per field per update of `State`, and how the ports' two records are reached, so that no proof unfolds a record
update. -/

namespace Sys2Proof.Machine

section
variable (s : State) (x : Power)
@[simp] theorem State.setPower_power : (s.setPower x).power = x := rfl
@[simp] theorem State.setPower_grid : (s.setPower x).grid = s.grid := rfl
@[simp] theorem State.setPower_intake : (s.setPower x).intake = s.intake := rfl
@[simp] theorem State.setPower_seq : (s.setPower x).seq = s.seq := rfl
@[simp] theorem State.setPower_timing : (s.setPower x).timing = s.timing := rfl
@[simp] theorem State.setPower_region : (s.setPower x).region = s.region := rfl
@[simp] theorem State.setPower_applier : (s.setPower x).applier = s.applier := rfl
@[simp] theorem State.setPower_trim : (s.setPower x).trim = s.trim := rfl
@[simp] theorem State.setPower_keys : (s.setPower x).keys = s.keys := rfl
@[simp] theorem State.setPower_checks : (s.setPower x).checks = s.checks := rfl
@[simp] theorem State.setPower_unit : (s.setPower x).unit = s.unit := rfl
@[simp] theorem State.setPower_nv : (s.setPower x).nv = s.nv := rfl
@[simp] theorem State.setPower_station : (s.setPower x).station = s.station := rfl
@[simp] theorem State.setPower_system : (s.setPower x).system = s.system := rfl
@[simp] theorem State.setPower_pending : (s.setPower x).pending = s.pending := rfl
@[simp] theorem State.setPower_choices : (s.setPower x).choices = s.choices := rfl
end

section
variable (s : State) (x : Grid)
@[simp] theorem State.setGrid_power : (s.setGrid x).power = s.power := rfl
@[simp] theorem State.setGrid_grid : (s.setGrid x).grid = x := rfl
@[simp] theorem State.setGrid_intake : (s.setGrid x).intake = s.intake := rfl
@[simp] theorem State.setGrid_seq : (s.setGrid x).seq = s.seq := rfl
@[simp] theorem State.setGrid_timing : (s.setGrid x).timing = s.timing := rfl
@[simp] theorem State.setGrid_region : (s.setGrid x).region = s.region := rfl
@[simp] theorem State.setGrid_applier : (s.setGrid x).applier = s.applier := rfl
@[simp] theorem State.setGrid_trim : (s.setGrid x).trim = s.trim := rfl
@[simp] theorem State.setGrid_keys : (s.setGrid x).keys = s.keys := rfl
@[simp] theorem State.setGrid_checks : (s.setGrid x).checks = s.checks := rfl
@[simp] theorem State.setGrid_unit : (s.setGrid x).unit = s.unit := rfl
@[simp] theorem State.setGrid_nv : (s.setGrid x).nv = s.nv := rfl
@[simp] theorem State.setGrid_station : (s.setGrid x).station = s.station := rfl
@[simp] theorem State.setGrid_system : (s.setGrid x).system = s.system := rfl
@[simp] theorem State.setGrid_pending : (s.setGrid x).pending = s.pending := rfl
@[simp] theorem State.setGrid_choices : (s.setGrid x).choices = s.choices := rfl
end

section
variable (s : State) (x : Intake)
@[simp] theorem State.setIntake_power : (s.setIntake x).power = s.power := rfl
@[simp] theorem State.setIntake_grid : (s.setIntake x).grid = s.grid := rfl
@[simp] theorem State.setIntake_intake : (s.setIntake x).intake = x := rfl
@[simp] theorem State.setIntake_seq : (s.setIntake x).seq = s.seq := rfl
@[simp] theorem State.setIntake_timing : (s.setIntake x).timing = s.timing := rfl
@[simp] theorem State.setIntake_region : (s.setIntake x).region = s.region := rfl
@[simp] theorem State.setIntake_applier : (s.setIntake x).applier = s.applier := rfl
@[simp] theorem State.setIntake_trim : (s.setIntake x).trim = s.trim := rfl
@[simp] theorem State.setIntake_keys : (s.setIntake x).keys = s.keys := rfl
@[simp] theorem State.setIntake_checks : (s.setIntake x).checks = s.checks := rfl
@[simp] theorem State.setIntake_unit : (s.setIntake x).unit = s.unit := rfl
@[simp] theorem State.setIntake_nv : (s.setIntake x).nv = s.nv := rfl
@[simp] theorem State.setIntake_station : (s.setIntake x).station = s.station := rfl
@[simp] theorem State.setIntake_system : (s.setIntake x).system = s.system := rfl
@[simp] theorem State.setIntake_pending : (s.setIntake x).pending = s.pending := rfl
@[simp] theorem State.setIntake_choices : (s.setIntake x).choices = s.choices := rfl
end

section
variable (s : State) (x : Sequencer)
@[simp] theorem State.setSeq_power : (s.setSeq x).power = s.power := rfl
@[simp] theorem State.setSeq_grid : (s.setSeq x).grid = s.grid := rfl
@[simp] theorem State.setSeq_intake : (s.setSeq x).intake = s.intake := rfl
@[simp] theorem State.setSeq_seq : (s.setSeq x).seq = x := rfl
@[simp] theorem State.setSeq_timing : (s.setSeq x).timing = s.timing := rfl
@[simp] theorem State.setSeq_region : (s.setSeq x).region = s.region := rfl
@[simp] theorem State.setSeq_applier : (s.setSeq x).applier = s.applier := rfl
@[simp] theorem State.setSeq_trim : (s.setSeq x).trim = s.trim := rfl
@[simp] theorem State.setSeq_keys : (s.setSeq x).keys = s.keys := rfl
@[simp] theorem State.setSeq_checks : (s.setSeq x).checks = s.checks := rfl
@[simp] theorem State.setSeq_unit : (s.setSeq x).unit = s.unit := rfl
@[simp] theorem State.setSeq_nv : (s.setSeq x).nv = s.nv := rfl
@[simp] theorem State.setSeq_station : (s.setSeq x).station = s.station := rfl
@[simp] theorem State.setSeq_system : (s.setSeq x).system = s.system := rfl
@[simp] theorem State.setSeq_pending : (s.setSeq x).pending = s.pending := rfl
@[simp] theorem State.setSeq_choices : (s.setSeq x).choices = s.choices := rfl
end

section
variable (s : State) (x : Timing)
@[simp] theorem State.setTiming_power : (s.setTiming x).power = s.power := rfl
@[simp] theorem State.setTiming_grid : (s.setTiming x).grid = s.grid := rfl
@[simp] theorem State.setTiming_intake : (s.setTiming x).intake = s.intake := rfl
@[simp] theorem State.setTiming_seq : (s.setTiming x).seq = s.seq := rfl
@[simp] theorem State.setTiming_timing : (s.setTiming x).timing = x := rfl
@[simp] theorem State.setTiming_region : (s.setTiming x).region = s.region := rfl
@[simp] theorem State.setTiming_applier : (s.setTiming x).applier = s.applier := rfl
@[simp] theorem State.setTiming_trim : (s.setTiming x).trim = s.trim := rfl
@[simp] theorem State.setTiming_keys : (s.setTiming x).keys = s.keys := rfl
@[simp] theorem State.setTiming_checks : (s.setTiming x).checks = s.checks := rfl
@[simp] theorem State.setTiming_unit : (s.setTiming x).unit = s.unit := rfl
@[simp] theorem State.setTiming_nv : (s.setTiming x).nv = s.nv := rfl
@[simp] theorem State.setTiming_station : (s.setTiming x).station = s.station := rfl
@[simp] theorem State.setTiming_system : (s.setTiming x).system = s.system := rfl
@[simp] theorem State.setTiming_pending : (s.setTiming x).pending = s.pending := rfl
@[simp] theorem State.setTiming_choices : (s.setTiming x).choices = s.choices := rfl
end

section
variable (s : State) (x : Region)
@[simp] theorem State.setRegion_power : (s.setRegion x).power = s.power := rfl
@[simp] theorem State.setRegion_grid : (s.setRegion x).grid = s.grid := rfl
@[simp] theorem State.setRegion_intake : (s.setRegion x).intake = s.intake := rfl
@[simp] theorem State.setRegion_seq : (s.setRegion x).seq = s.seq := rfl
@[simp] theorem State.setRegion_timing : (s.setRegion x).timing = s.timing := rfl
@[simp] theorem State.setRegion_region : (s.setRegion x).region = x := rfl
@[simp] theorem State.setRegion_applier : (s.setRegion x).applier = s.applier := rfl
@[simp] theorem State.setRegion_trim : (s.setRegion x).trim = s.trim := rfl
@[simp] theorem State.setRegion_keys : (s.setRegion x).keys = s.keys := rfl
@[simp] theorem State.setRegion_checks : (s.setRegion x).checks = s.checks := rfl
@[simp] theorem State.setRegion_unit : (s.setRegion x).unit = s.unit := rfl
@[simp] theorem State.setRegion_nv : (s.setRegion x).nv = s.nv := rfl
@[simp] theorem State.setRegion_station : (s.setRegion x).station = s.station := rfl
@[simp] theorem State.setRegion_system : (s.setRegion x).system = s.system := rfl
@[simp] theorem State.setRegion_pending : (s.setRegion x).pending = s.pending := rfl
@[simp] theorem State.setRegion_choices : (s.setRegion x).choices = s.choices := rfl
end

section
variable (s : State) (x : Applier)
@[simp] theorem State.setApplier_power : (s.setApplier x).power = s.power := rfl
@[simp] theorem State.setApplier_grid : (s.setApplier x).grid = s.grid := rfl
@[simp] theorem State.setApplier_intake : (s.setApplier x).intake = s.intake := rfl
@[simp] theorem State.setApplier_seq : (s.setApplier x).seq = s.seq := rfl
@[simp] theorem State.setApplier_timing : (s.setApplier x).timing = s.timing := rfl
@[simp] theorem State.setApplier_region : (s.setApplier x).region = s.region := rfl
@[simp] theorem State.setApplier_applier : (s.setApplier x).applier = x := rfl
@[simp] theorem State.setApplier_trim : (s.setApplier x).trim = s.trim := rfl
@[simp] theorem State.setApplier_keys : (s.setApplier x).keys = s.keys := rfl
@[simp] theorem State.setApplier_checks : (s.setApplier x).checks = s.checks := rfl
@[simp] theorem State.setApplier_unit : (s.setApplier x).unit = s.unit := rfl
@[simp] theorem State.setApplier_nv : (s.setApplier x).nv = s.nv := rfl
@[simp] theorem State.setApplier_station : (s.setApplier x).station = s.station := rfl
@[simp] theorem State.setApplier_system : (s.setApplier x).system = s.system := rfl
@[simp] theorem State.setApplier_pending : (s.setApplier x).pending = s.pending := rfl
@[simp] theorem State.setApplier_choices : (s.setApplier x).choices = s.choices := rfl
end

section
variable (s : State) (x : TrimOutput)
@[simp] theorem State.setTrim_power : (s.setTrim x).power = s.power := rfl
@[simp] theorem State.setTrim_grid : (s.setTrim x).grid = s.grid := rfl
@[simp] theorem State.setTrim_intake : (s.setTrim x).intake = s.intake := rfl
@[simp] theorem State.setTrim_seq : (s.setTrim x).seq = s.seq := rfl
@[simp] theorem State.setTrim_timing : (s.setTrim x).timing = s.timing := rfl
@[simp] theorem State.setTrim_region : (s.setTrim x).region = s.region := rfl
@[simp] theorem State.setTrim_applier : (s.setTrim x).applier = s.applier := rfl
@[simp] theorem State.setTrim_trim : (s.setTrim x).trim = x := rfl
@[simp] theorem State.setTrim_keys : (s.setTrim x).keys = s.keys := rfl
@[simp] theorem State.setTrim_checks : (s.setTrim x).checks = s.checks := rfl
@[simp] theorem State.setTrim_unit : (s.setTrim x).unit = s.unit := rfl
@[simp] theorem State.setTrim_nv : (s.setTrim x).nv = s.nv := rfl
@[simp] theorem State.setTrim_station : (s.setTrim x).station = s.station := rfl
@[simp] theorem State.setTrim_system : (s.setTrim x).system = s.system := rfl
@[simp] theorem State.setTrim_pending : (s.setTrim x).pending = s.pending := rfl
@[simp] theorem State.setTrim_choices : (s.setTrim x).choices = s.choices := rfl
end

section
variable (s : State) (x : KeyTable)
@[simp] theorem State.setKeys_power : (s.setKeys x).power = s.power := rfl
@[simp] theorem State.setKeys_grid : (s.setKeys x).grid = s.grid := rfl
@[simp] theorem State.setKeys_intake : (s.setKeys x).intake = s.intake := rfl
@[simp] theorem State.setKeys_seq : (s.setKeys x).seq = s.seq := rfl
@[simp] theorem State.setKeys_timing : (s.setKeys x).timing = s.timing := rfl
@[simp] theorem State.setKeys_region : (s.setKeys x).region = s.region := rfl
@[simp] theorem State.setKeys_applier : (s.setKeys x).applier = s.applier := rfl
@[simp] theorem State.setKeys_trim : (s.setKeys x).trim = s.trim := rfl
@[simp] theorem State.setKeys_keys : (s.setKeys x).keys = x := rfl
@[simp] theorem State.setKeys_checks : (s.setKeys x).checks = s.checks := rfl
@[simp] theorem State.setKeys_unit : (s.setKeys x).unit = s.unit := rfl
@[simp] theorem State.setKeys_nv : (s.setKeys x).nv = s.nv := rfl
@[simp] theorem State.setKeys_station : (s.setKeys x).station = s.station := rfl
@[simp] theorem State.setKeys_system : (s.setKeys x).system = s.system := rfl
@[simp] theorem State.setKeys_pending : (s.setKeys x).pending = s.pending := rfl
@[simp] theorem State.setKeys_choices : (s.setKeys x).choices = s.choices := rfl
end

section
variable (s : State) (x : List CheckSlot)
@[simp] theorem State.setChecks_power : (s.setChecks x).power = s.power := rfl
@[simp] theorem State.setChecks_grid : (s.setChecks x).grid = s.grid := rfl
@[simp] theorem State.setChecks_intake : (s.setChecks x).intake = s.intake := rfl
@[simp] theorem State.setChecks_seq : (s.setChecks x).seq = s.seq := rfl
@[simp] theorem State.setChecks_timing : (s.setChecks x).timing = s.timing := rfl
@[simp] theorem State.setChecks_region : (s.setChecks x).region = s.region := rfl
@[simp] theorem State.setChecks_applier : (s.setChecks x).applier = s.applier := rfl
@[simp] theorem State.setChecks_trim : (s.setChecks x).trim = s.trim := rfl
@[simp] theorem State.setChecks_keys : (s.setChecks x).keys = s.keys := rfl
@[simp] theorem State.setChecks_checks : (s.setChecks x).checks = x := rfl
@[simp] theorem State.setChecks_unit : (s.setChecks x).unit = s.unit := rfl
@[simp] theorem State.setChecks_nv : (s.setChecks x).nv = s.nv := rfl
@[simp] theorem State.setChecks_station : (s.setChecks x).station = s.station := rfl
@[simp] theorem State.setChecks_system : (s.setChecks x).system = s.system := rfl
@[simp] theorem State.setChecks_pending : (s.setChecks x).pending = s.pending := rfl
@[simp] theorem State.setChecks_choices : (s.setChecks x).choices = s.choices := rfl
end

section
variable (s : State) (x : UnitCtl)
@[simp] theorem State.setUnit_power : (s.setUnit x).power = s.power := rfl
@[simp] theorem State.setUnit_grid : (s.setUnit x).grid = s.grid := rfl
@[simp] theorem State.setUnit_intake : (s.setUnit x).intake = s.intake := rfl
@[simp] theorem State.setUnit_seq : (s.setUnit x).seq = s.seq := rfl
@[simp] theorem State.setUnit_timing : (s.setUnit x).timing = s.timing := rfl
@[simp] theorem State.setUnit_region : (s.setUnit x).region = s.region := rfl
@[simp] theorem State.setUnit_applier : (s.setUnit x).applier = s.applier := rfl
@[simp] theorem State.setUnit_trim : (s.setUnit x).trim = s.trim := rfl
@[simp] theorem State.setUnit_keys : (s.setUnit x).keys = s.keys := rfl
@[simp] theorem State.setUnit_checks : (s.setUnit x).checks = s.checks := rfl
@[simp] theorem State.setUnit_unit : (s.setUnit x).unit = x := rfl
@[simp] theorem State.setUnit_nv : (s.setUnit x).nv = s.nv := rfl
@[simp] theorem State.setUnit_station : (s.setUnit x).station = s.station := rfl
@[simp] theorem State.setUnit_system : (s.setUnit x).system = s.system := rfl
@[simp] theorem State.setUnit_pending : (s.setUnit x).pending = s.pending := rfl
@[simp] theorem State.setUnit_choices : (s.setUnit x).choices = s.choices := rfl
end

section
variable (s : State) (x : NvStore)
@[simp] theorem State.setNv_power : (s.setNv x).power = s.power := rfl
@[simp] theorem State.setNv_grid : (s.setNv x).grid = s.grid := rfl
@[simp] theorem State.setNv_intake : (s.setNv x).intake = s.intake := rfl
@[simp] theorem State.setNv_seq : (s.setNv x).seq = s.seq := rfl
@[simp] theorem State.setNv_timing : (s.setNv x).timing = s.timing := rfl
@[simp] theorem State.setNv_region : (s.setNv x).region = s.region := rfl
@[simp] theorem State.setNv_applier : (s.setNv x).applier = s.applier := rfl
@[simp] theorem State.setNv_trim : (s.setNv x).trim = s.trim := rfl
@[simp] theorem State.setNv_keys : (s.setNv x).keys = s.keys := rfl
@[simp] theorem State.setNv_checks : (s.setNv x).checks = s.checks := rfl
@[simp] theorem State.setNv_unit : (s.setNv x).unit = s.unit := rfl
@[simp] theorem State.setNv_nv : (s.setNv x).nv = x := rfl
@[simp] theorem State.setNv_station : (s.setNv x).station = s.station := rfl
@[simp] theorem State.setNv_system : (s.setNv x).system = s.system := rfl
@[simp] theorem State.setNv_pending : (s.setNv x).pending = s.pending := rfl
@[simp] theorem State.setNv_choices : (s.setNv x).choices = s.choices := rfl
end

section
variable (s : State) (x : PortCtl)
@[simp] theorem State.setStation_power : (s.setStation x).power = s.power := rfl
@[simp] theorem State.setStation_grid : (s.setStation x).grid = s.grid := rfl
@[simp] theorem State.setStation_intake : (s.setStation x).intake = s.intake := rfl
@[simp] theorem State.setStation_seq : (s.setStation x).seq = s.seq := rfl
@[simp] theorem State.setStation_timing : (s.setStation x).timing = s.timing := rfl
@[simp] theorem State.setStation_region : (s.setStation x).region = s.region := rfl
@[simp] theorem State.setStation_applier : (s.setStation x).applier = s.applier := rfl
@[simp] theorem State.setStation_trim : (s.setStation x).trim = s.trim := rfl
@[simp] theorem State.setStation_keys : (s.setStation x).keys = s.keys := rfl
@[simp] theorem State.setStation_checks : (s.setStation x).checks = s.checks := rfl
@[simp] theorem State.setStation_unit : (s.setStation x).unit = s.unit := rfl
@[simp] theorem State.setStation_nv : (s.setStation x).nv = s.nv := rfl
@[simp] theorem State.setStation_station : (s.setStation x).station = x := rfl
@[simp] theorem State.setStation_system : (s.setStation x).system = s.system := rfl
@[simp] theorem State.setStation_pending : (s.setStation x).pending = s.pending := rfl
@[simp] theorem State.setStation_choices : (s.setStation x).choices = s.choices := rfl
end

section
variable (s : State) (x : PortCtl)
@[simp] theorem State.setSystem_power : (s.setSystem x).power = s.power := rfl
@[simp] theorem State.setSystem_grid : (s.setSystem x).grid = s.grid := rfl
@[simp] theorem State.setSystem_intake : (s.setSystem x).intake = s.intake := rfl
@[simp] theorem State.setSystem_seq : (s.setSystem x).seq = s.seq := rfl
@[simp] theorem State.setSystem_timing : (s.setSystem x).timing = s.timing := rfl
@[simp] theorem State.setSystem_region : (s.setSystem x).region = s.region := rfl
@[simp] theorem State.setSystem_applier : (s.setSystem x).applier = s.applier := rfl
@[simp] theorem State.setSystem_trim : (s.setSystem x).trim = s.trim := rfl
@[simp] theorem State.setSystem_keys : (s.setSystem x).keys = s.keys := rfl
@[simp] theorem State.setSystem_checks : (s.setSystem x).checks = s.checks := rfl
@[simp] theorem State.setSystem_unit : (s.setSystem x).unit = s.unit := rfl
@[simp] theorem State.setSystem_nv : (s.setSystem x).nv = s.nv := rfl
@[simp] theorem State.setSystem_station : (s.setSystem x).station = s.station := rfl
@[simp] theorem State.setSystem_system : (s.setSystem x).system = x := rfl
@[simp] theorem State.setSystem_pending : (s.setSystem x).pending = s.pending := rfl
@[simp] theorem State.setSystem_choices : (s.setSystem x).choices = s.choices := rfl
end

section
variable (s : State) (x : List Instr)
@[simp] theorem State.setPending_power : (s.setPending x).power = s.power := rfl
@[simp] theorem State.setPending_grid : (s.setPending x).grid = s.grid := rfl
@[simp] theorem State.setPending_intake : (s.setPending x).intake = s.intake := rfl
@[simp] theorem State.setPending_seq : (s.setPending x).seq = s.seq := rfl
@[simp] theorem State.setPending_timing : (s.setPending x).timing = s.timing := rfl
@[simp] theorem State.setPending_region : (s.setPending x).region = s.region := rfl
@[simp] theorem State.setPending_applier : (s.setPending x).applier = s.applier := rfl
@[simp] theorem State.setPending_trim : (s.setPending x).trim = s.trim := rfl
@[simp] theorem State.setPending_keys : (s.setPending x).keys = s.keys := rfl
@[simp] theorem State.setPending_checks : (s.setPending x).checks = s.checks := rfl
@[simp] theorem State.setPending_unit : (s.setPending x).unit = s.unit := rfl
@[simp] theorem State.setPending_nv : (s.setPending x).nv = s.nv := rfl
@[simp] theorem State.setPending_station : (s.setPending x).station = s.station := rfl
@[simp] theorem State.setPending_system : (s.setPending x).system = s.system := rfl
@[simp] theorem State.setPending_pending : (s.setPending x).pending = x := rfl
@[simp] theorem State.setPending_choices : (s.setPending x).choices = s.choices := rfl
end

section
variable (s : State) (x : Nat)
@[simp] theorem State.setChoices_power : (s.setChoices x).power = s.power := rfl
@[simp] theorem State.setChoices_grid : (s.setChoices x).grid = s.grid := rfl
@[simp] theorem State.setChoices_intake : (s.setChoices x).intake = s.intake := rfl
@[simp] theorem State.setChoices_seq : (s.setChoices x).seq = s.seq := rfl
@[simp] theorem State.setChoices_timing : (s.setChoices x).timing = s.timing := rfl
@[simp] theorem State.setChoices_region : (s.setChoices x).region = s.region := rfl
@[simp] theorem State.setChoices_applier : (s.setChoices x).applier = s.applier := rfl
@[simp] theorem State.setChoices_trim : (s.setChoices x).trim = s.trim := rfl
@[simp] theorem State.setChoices_keys : (s.setChoices x).keys = s.keys := rfl
@[simp] theorem State.setChoices_checks : (s.setChoices x).checks = s.checks := rfl
@[simp] theorem State.setChoices_unit : (s.setChoices x).unit = s.unit := rfl
@[simp] theorem State.setChoices_nv : (s.setChoices x).nv = s.nv := rfl
@[simp] theorem State.setChoices_station : (s.setChoices x).station = s.station := rfl
@[simp] theorem State.setChoices_system : (s.setChoices x).system = s.system := rfl
@[simp] theorem State.setChoices_pending : (s.setChoices x).pending = s.pending := rfl
@[simp] theorem State.setChoices_choices : (s.setChoices x).choices = x := rfl
end

/-! ### The later of two updates of one block stands -/

@[simp] theorem State.setPower_setPower (s : State) (x y : Power) : (s.setPower x).setPower y = s.setPower y := rfl
@[simp] theorem State.setGrid_setGrid (s : State) (x y : Grid) : (s.setGrid x).setGrid y = s.setGrid y := rfl
@[simp] theorem State.setIntake_setIntake (s : State) (x y : Intake) : (s.setIntake x).setIntake y = s.setIntake y := rfl
@[simp] theorem State.setSeq_setSeq (s : State) (x y : Sequencer) : (s.setSeq x).setSeq y = s.setSeq y := rfl
@[simp] theorem State.setTiming_setTiming (s : State) (x y : Timing) : (s.setTiming x).setTiming y = s.setTiming y := rfl
@[simp] theorem State.setRegion_setRegion (s : State) (x y : Region) : (s.setRegion x).setRegion y = s.setRegion y := rfl
@[simp] theorem State.setApplier_setApplier (s : State) (x y : Applier) : (s.setApplier x).setApplier y = s.setApplier y := rfl
@[simp] theorem State.setTrim_setTrim (s : State) (x y : TrimOutput) : (s.setTrim x).setTrim y = s.setTrim y := rfl
@[simp] theorem State.setKeys_setKeys (s : State) (x y : KeyTable) : (s.setKeys x).setKeys y = s.setKeys y := rfl
@[simp] theorem State.setChecks_setChecks (s : State) (x y : List CheckSlot) : (s.setChecks x).setChecks y = s.setChecks y := rfl
@[simp] theorem State.setUnit_setUnit (s : State) (x y : UnitCtl) : (s.setUnit x).setUnit y = s.setUnit y := rfl
@[simp] theorem State.setNv_setNv (s : State) (x y : NvStore) : (s.setNv x).setNv y = s.setNv y := rfl
@[simp] theorem State.setStation_setStation (s : State) (x y : PortCtl) : (s.setStation x).setStation y = s.setStation y := rfl
@[simp] theorem State.setSystem_setSystem (s : State) (x y : PortCtl) : (s.setSystem x).setSystem y = s.setSystem y := rfl
@[simp] theorem State.setPending_setPending (s : State) (x y : List Instr) : (s.setPending x).setPending y = s.setPending y := rfl
@[simp] theorem State.setChoices_setChoices (s : State) (x y : Nat) : (s.setChoices x).setChoices y = s.setChoices y := rfl

/-! ### The ports -/

@[simp] theorem State.port_station (s : State) : s.port .station = s.station := rfl
@[simp] theorem State.port_system (s : State) : s.port .system = s.system := rfl
@[simp] theorem State.setPort_station (s : State) (x : PortCtl) : s.setPort .station x = s.setStation x := rfl
@[simp] theorem State.setPort_system (s : State) (x : PortCtl) : s.setPort .system x = s.setSystem x := rfl

@[simp] theorem State.setPort_power (s : State) (p : Port) (x : PortCtl) : (s.setPort p x).power = s.power := by cases p <;> rfl
@[simp] theorem State.setPort_grid (s : State) (p : Port) (x : PortCtl) : (s.setPort p x).grid = s.grid := by cases p <;> rfl
@[simp] theorem State.setPort_intake (s : State) (p : Port) (x : PortCtl) : (s.setPort p x).intake = s.intake := by cases p <;> rfl
@[simp] theorem State.setPort_seq (s : State) (p : Port) (x : PortCtl) : (s.setPort p x).seq = s.seq := by cases p <;> rfl
@[simp] theorem State.setPort_timing (s : State) (p : Port) (x : PortCtl) : (s.setPort p x).timing = s.timing := by cases p <;> rfl
@[simp] theorem State.setPort_region (s : State) (p : Port) (x : PortCtl) : (s.setPort p x).region = s.region := by cases p <;> rfl
@[simp] theorem State.setPort_applier (s : State) (p : Port) (x : PortCtl) : (s.setPort p x).applier = s.applier := by cases p <;> rfl
@[simp] theorem State.setPort_trim (s : State) (p : Port) (x : PortCtl) : (s.setPort p x).trim = s.trim := by cases p <;> rfl
@[simp] theorem State.setPort_keys (s : State) (p : Port) (x : PortCtl) : (s.setPort p x).keys = s.keys := by cases p <;> rfl
@[simp] theorem State.setPort_checks (s : State) (p : Port) (x : PortCtl) : (s.setPort p x).checks = s.checks := by cases p <;> rfl
@[simp] theorem State.setPort_unit (s : State) (p : Port) (x : PortCtl) : (s.setPort p x).unit = s.unit := by cases p <;> rfl
@[simp] theorem State.setPort_nv (s : State) (p : Port) (x : PortCtl) : (s.setPort p x).nv = s.nv := by cases p <;> rfl
@[simp] theorem State.setPort_pending (s : State) (p : Port) (x : PortCtl) : (s.setPort p x).pending = s.pending := by cases p <;> rfl
@[simp] theorem State.setPort_choices (s : State) (p : Port) (x : PortCtl) : (s.setPort p x).choices = s.choices := by cases p <;> rfl
@[simp] theorem State.setPort_port (s : State) (p : Port) (x : PortCtl) : (s.setPort p x).port p = x := by cases p <;> rfl

/-- One port's record is not touched by a change of the other's. -/
theorem State.setPort_port_of_ne (s : State) {p q : Port} (x : PortCtl) (h : p ≠ q) : (s.setPort p x).port q = s.port q := by
  cases p <;> cases q <;> first | rfl | exact absurd rfl h

end Sys2Proof.Machine
end

