-- ==== Sys2Proof/Laws/Frames.lean ====
section
/-! SUPPORT. What each operation leaves alone: for every operation over the whole state, one lemma that names every block it does not touch.
Each is a conjunction of field equations, so that `simp` has one rule for each. -/

namespace Sys2Proof.Machine

section
variable (s : State)

/-- What is passed to the station port leaves the system port alone. -/
@[simp] theorem State.reply_station_system (kind tag : Byte) (status : Status) (fields : List Byte) :
    (s.reply .station kind tag status fields).system = s.system := rfl

/-- What is passed to the system port leaves the station port alone. -/
@[simp] theorem State.reply_system_station (kind tag : Byte) (status : Status) (fields : List Byte) :
    (s.reply .system kind tag status fields).station = s.station := rfl

/-- A frame refused on the station port leaves the system port alone. -/
@[simp] theorem State.refuse_station_system (kind tag : Byte) (status : Status) :
    (s.refuse .station kind tag status).system = s.system := rfl

/-- `passReply` touches station, system at most. -/
@[simp] theorem State.passReply_frame (p : Port) (f : Frame) :
    (s.passReply p f).power = s.power ∧ (s.passReply p f).grid = s.grid ∧ (s.passReply p f).intake = s.intake ∧
      (s.passReply p f).seq = s.seq ∧ (s.passReply p f).timing = s.timing ∧ (s.passReply p f).region = s.region ∧
      (s.passReply p f).applier = s.applier ∧ (s.passReply p f).trim = s.trim ∧ (s.passReply p f).keys = s.keys ∧
      (s.passReply p f).checks = s.checks ∧ (s.passReply p f).unit = s.unit ∧ (s.passReply p f).nv = s.nv ∧
      (s.passReply p f).pending = s.pending ∧ (s.passReply p f).choices = s.choices := by
  unfold State.passReply
  cases p <;> simp

/-- `reply` touches station, system at most. -/
@[simp] theorem State.reply_frame (p : Port) (kind tag : Byte) (status : Status) (fields : List Byte) :
    (s.reply p kind tag status fields).power = s.power ∧ (s.reply p kind tag status fields).grid = s.grid ∧
      (s.reply p kind tag status fields).intake = s.intake ∧ (s.reply p kind tag status fields).seq = s.seq ∧
      (s.reply p kind tag status fields).timing = s.timing ∧ (s.reply p kind tag status fields).region = s.region ∧
      (s.reply p kind tag status fields).applier = s.applier ∧ (s.reply p kind tag status fields).trim = s.trim ∧
      (s.reply p kind tag status fields).keys = s.keys ∧ (s.reply p kind tag status fields).checks = s.checks ∧
      (s.reply p kind tag status fields).unit = s.unit ∧ (s.reply p kind tag status fields).nv = s.nv ∧
      (s.reply p kind tag status fields).pending = s.pending ∧ (s.reply p kind tag status fields).choices = s.choices := by
  unfold State.reply
  simp

/-- `refuse` touches station, system at most. -/
@[simp] theorem State.refuse_frame (p : Port) (kind tag : Byte) (status : Status) :
    (s.refuse p kind tag status).power = s.power ∧ (s.refuse p kind tag status).grid = s.grid ∧
      (s.refuse p kind tag status).intake = s.intake ∧ (s.refuse p kind tag status).seq = s.seq ∧
      (s.refuse p kind tag status).timing = s.timing ∧ (s.refuse p kind tag status).region = s.region ∧
      (s.refuse p kind tag status).applier = s.applier ∧ (s.refuse p kind tag status).trim = s.trim ∧
      (s.refuse p kind tag status).keys = s.keys ∧ (s.refuse p kind tag status).checks = s.checks ∧
      (s.refuse p kind tag status).unit = s.unit ∧ (s.refuse p kind tag status).nv = s.nv ∧
      (s.refuse p kind tag status).pending = s.pending ∧ (s.refuse p kind tag status).choices = s.choices := by
  unfold State.refuse
  simp

/-- `emit` touches station at most. -/
@[simp] theorem State.emit_frame (f : Frame) :
    (s.emit f).power = s.power ∧ (s.emit f).grid = s.grid ∧ (s.emit f).intake = s.intake ∧ (s.emit f).seq = s.seq ∧
      (s.emit f).timing = s.timing ∧ (s.emit f).region = s.region ∧ (s.emit f).applier = s.applier ∧ (s.emit f).trim = s.trim ∧
      (s.emit f).keys = s.keys ∧ (s.emit f).checks = s.checks ∧ (s.emit f).unit = s.unit ∧ (s.emit f).nv = s.nv ∧
      (s.emit f).system = s.system ∧ (s.emit f).pending = s.pending ∧ (s.emit f).choices = s.choices := by
  unfold State.emit
  split <;> simp

/-- `report` touches station at most. -/
@[simp] theorem State.report_frame (kind : Byte) (payload : List Byte) :
    (s.report kind payload).power = s.power ∧ (s.report kind payload).grid = s.grid ∧ (s.report kind payload).intake = s.intake ∧
      (s.report kind payload).seq = s.seq ∧ (s.report kind payload).timing = s.timing ∧
      (s.report kind payload).region = s.region ∧ (s.report kind payload).applier = s.applier ∧
      (s.report kind payload).trim = s.trim ∧ (s.report kind payload).keys = s.keys ∧ (s.report kind payload).checks = s.checks ∧
      (s.report kind payload).unit = s.unit ∧ (s.report kind payload).nv = s.nv ∧ (s.report kind payload).system = s.system ∧
      (s.report kind payload).pending = s.pending ∧ (s.report kind payload).choices = s.choices := by
  unfold State.report
  simp

/-- `beginReply` touches station, system at most. -/
@[simp] theorem State.beginReply_frame (p : Port) :
    (s.beginReply p).power = s.power ∧ (s.beginReply p).grid = s.grid ∧ (s.beginReply p).intake = s.intake ∧
      (s.beginReply p).seq = s.seq ∧ (s.beginReply p).timing = s.timing ∧ (s.beginReply p).region = s.region ∧
      (s.beginReply p).applier = s.applier ∧ (s.beginReply p).trim = s.trim ∧ (s.beginReply p).keys = s.keys ∧
      (s.beginReply p).checks = s.checks ∧ (s.beginReply p).unit = s.unit ∧ (s.beginReply p).nv = s.nv ∧
      (s.beginReply p).pending = s.pending ∧ (s.beginReply p).choices = s.choices := by
  unfold State.beginReply
  cases p <;> (split <;> simp)

/-- `beginReport` touches station at most. -/
@[simp] theorem State.beginReport_frame :
    (s.beginReport).power = s.power ∧ (s.beginReport).grid = s.grid ∧ (s.beginReport).intake = s.intake ∧
      (s.beginReport).seq = s.seq ∧ (s.beginReport).timing = s.timing ∧ (s.beginReport).region = s.region ∧
      (s.beginReport).applier = s.applier ∧ (s.beginReport).trim = s.trim ∧ (s.beginReport).keys = s.keys ∧
      (s.beginReport).checks = s.checks ∧ (s.beginReport).unit = s.unit ∧ (s.beginReport).nv = s.nv ∧
      (s.beginReport).system = s.system ∧ (s.beginReport).pending = s.pending ∧ (s.beginReport).choices = s.choices := by
  unfold State.beginReport
  (repeat' split) <;> simp

/-- `serveNext` touches station, system at most. -/
@[simp] theorem State.serveNext_frame (p : Port) :
    (s.serveNext p).power = s.power ∧ (s.serveNext p).grid = s.grid ∧ (s.serveNext p).intake = s.intake ∧
      (s.serveNext p).seq = s.seq ∧ (s.serveNext p).timing = s.timing ∧ (s.serveNext p).region = s.region ∧
      (s.serveNext p).applier = s.applier ∧ (s.serveNext p).trim = s.trim ∧ (s.serveNext p).keys = s.keys ∧
      (s.serveNext p).checks = s.checks ∧ (s.serveNext p).unit = s.unit ∧ (s.serveNext p).nv = s.nv ∧
      (s.serveNext p).pending = s.pending ∧ (s.serveNext p).choices = s.choices := by
  unfold State.serveNext
  (repeat' split) <;> simp

/-- `arbitratePort` touches station, system at most. -/
@[simp] theorem State.arbitratePort_frame (p : Port) :
    (s.arbitratePort p).power = s.power ∧ (s.arbitratePort p).grid = s.grid ∧ (s.arbitratePort p).intake = s.intake ∧
      (s.arbitratePort p).seq = s.seq ∧ (s.arbitratePort p).timing = s.timing ∧ (s.arbitratePort p).region = s.region ∧
      (s.arbitratePort p).applier = s.applier ∧ (s.arbitratePort p).trim = s.trim ∧ (s.arbitratePort p).keys = s.keys ∧
      (s.arbitratePort p).checks = s.checks ∧ (s.arbitratePort p).unit = s.unit ∧ (s.arbitratePort p).nv = s.nv ∧
      (s.arbitratePort p).pending = s.pending ∧ (s.arbitratePort p).choices = s.choices := by
  unfold State.arbitratePort
  (repeat' split) <;> simp

/-- `arbitrate` touches station, system at most. -/
@[simp] theorem State.arbitrate_frame :
    (s.arbitrate).power = s.power ∧ (s.arbitrate).grid = s.grid ∧ (s.arbitrate).intake = s.intake ∧ (s.arbitrate).seq = s.seq ∧
      (s.arbitrate).timing = s.timing ∧ (s.arbitrate).region = s.region ∧ (s.arbitrate).applier = s.applier ∧
      (s.arbitrate).trim = s.trim ∧ (s.arbitrate).keys = s.keys ∧ (s.arbitrate).checks = s.checks ∧ (s.arbitrate).unit = s.unit ∧
      (s.arbitrate).nv = s.nv ∧ (s.arbitrate).pending = s.pending ∧ (s.arbitrate).choices = s.choices := by
  unfold State.arbitrate
  simp

/-- `beginWrite` touches nv at most. -/
@[simp] theorem State.beginWrite_frame (place : NvPlace) (data : List Byte) :
    (s.beginWrite place data).power = s.power ∧ (s.beginWrite place data).grid = s.grid ∧
      (s.beginWrite place data).intake = s.intake ∧ (s.beginWrite place data).seq = s.seq ∧
      (s.beginWrite place data).timing = s.timing ∧ (s.beginWrite place data).region = s.region ∧
      (s.beginWrite place data).applier = s.applier ∧ (s.beginWrite place data).trim = s.trim ∧
      (s.beginWrite place data).keys = s.keys ∧ (s.beginWrite place data).checks = s.checks ∧
      (s.beginWrite place data).unit = s.unit ∧ (s.beginWrite place data).station = s.station ∧
      (s.beginWrite place data).system = s.system ∧ (s.beginWrite place data).pending = s.pending ∧
      (s.beginWrite place data).choices = s.choices := by
  unfold State.beginWrite
  simp

/-- `putZones` touches grid, trim at most. -/
@[simp] theorem State.putZones_frame (zones : List ZoneRec) :
    (s.putZones zones).power = s.power ∧ (s.putZones zones).intake = s.intake ∧ (s.putZones zones).seq = s.seq ∧
      (s.putZones zones).timing = s.timing ∧ (s.putZones zones).region = s.region ∧ (s.putZones zones).applier = s.applier ∧
      (s.putZones zones).keys = s.keys ∧ (s.putZones zones).checks = s.checks ∧ (s.putZones zones).unit = s.unit ∧
      (s.putZones zones).nv = s.nv ∧ (s.putZones zones).station = s.station ∧ (s.putZones zones).system = s.system ∧
      (s.putZones zones).pending = s.pending ∧ (s.putZones zones).choices = s.choices := by
  unfold State.putZones
  simp

/-- `retune` touches grid, trim at most. -/
@[simp] theorem State.retune_frame (t : Tuning) :
    (s.retune t).power = s.power ∧ (s.retune t).intake = s.intake ∧ (s.retune t).seq = s.seq ∧ (s.retune t).timing = s.timing ∧
      (s.retune t).region = s.region ∧ (s.retune t).applier = s.applier ∧ (s.retune t).keys = s.keys ∧
      (s.retune t).checks = s.checks ∧ (s.retune t).unit = s.unit ∧ (s.retune t).nv = s.nv ∧ (s.retune t).station = s.station ∧
      (s.retune t).system = s.system ∧ (s.retune t).pending = s.pending ∧ (s.retune t).choices = s.choices := by
  unfold State.retune
  simp

/-- `takePin` touches grid at most. -/
@[simp] theorem State.takePin_frame (slice node value : Nat) :
    (s.takePin slice node value).power = s.power ∧ (s.takePin slice node value).intake = s.intake ∧
      (s.takePin slice node value).seq = s.seq ∧ (s.takePin slice node value).timing = s.timing ∧
      (s.takePin slice node value).region = s.region ∧ (s.takePin slice node value).applier = s.applier ∧
      (s.takePin slice node value).trim = s.trim ∧ (s.takePin slice node value).keys = s.keys ∧
      (s.takePin slice node value).checks = s.checks ∧ (s.takePin slice node value).unit = s.unit ∧
      (s.takePin slice node value).nv = s.nv ∧ (s.takePin slice node value).station = s.station ∧
      (s.takePin slice node value).system = s.system ∧ (s.takePin slice node value).pending = s.pending ∧
      (s.takePin slice node value).choices = s.choices := by
  unfold State.takePin
  simp

/-- `takeAims` touches grid, station at most. -/
@[simp] theorem State.takeAims_frame (tag : Byte) (aims : List Nat) (clamped : Bool) :
    (s.takeAims tag aims clamped).power = s.power ∧ (s.takeAims tag aims clamped).intake = s.intake ∧
      (s.takeAims tag aims clamped).seq = s.seq ∧ (s.takeAims tag aims clamped).timing = s.timing ∧
      (s.takeAims tag aims clamped).region = s.region ∧ (s.takeAims tag aims clamped).applier = s.applier ∧
      (s.takeAims tag aims clamped).trim = s.trim ∧ (s.takeAims tag aims clamped).keys = s.keys ∧
      (s.takeAims tag aims clamped).checks = s.checks ∧ (s.takeAims tag aims clamped).unit = s.unit ∧
      (s.takeAims tag aims clamped).nv = s.nv ∧ (s.takeAims tag aims clamped).system = s.system ∧
      (s.takeAims tag aims clamped).pending = s.pending ∧ (s.takeAims tag aims clamped).choices = s.choices := by
  unfold State.takeAims
  simp

/-- `takePinReplying` touches grid, station at most. -/
@[simp] theorem State.takePinReplying_frame (tag : Byte) (slice node value : Nat) :
    (s.takePinReplying tag slice node value).power = s.power ∧ (s.takePinReplying tag slice node value).intake = s.intake ∧
      (s.takePinReplying tag slice node value).seq = s.seq ∧ (s.takePinReplying tag slice node value).timing = s.timing ∧
      (s.takePinReplying tag slice node value).region = s.region ∧ (s.takePinReplying tag slice node value).applier = s.applier ∧
      (s.takePinReplying tag slice node value).trim = s.trim ∧ (s.takePinReplying tag slice node value).keys = s.keys ∧
      (s.takePinReplying tag slice node value).checks = s.checks ∧ (s.takePinReplying tag slice node value).unit = s.unit ∧
      (s.takePinReplying tag slice node value).nv = s.nv ∧ (s.takePinReplying tag slice node value).system = s.system ∧
      (s.takePinReplying tag slice node value).pending = s.pending ∧ (s.takePinReplying tag slice node value).choices = s.choices := by
  unfold State.takePinReplying
  simp

/-- `takeHeldItem` touches grid, station at most. -/
@[simp] theorem State.takeHeldItem_frame (item : HeldItem) :
    (s.takeHeldItem item).power = s.power ∧ (s.takeHeldItem item).intake = s.intake ∧ (s.takeHeldItem item).seq = s.seq ∧
      (s.takeHeldItem item).timing = s.timing ∧ (s.takeHeldItem item).region = s.region ∧
      (s.takeHeldItem item).applier = s.applier ∧ (s.takeHeldItem item).trim = s.trim ∧ (s.takeHeldItem item).keys = s.keys ∧
      (s.takeHeldItem item).checks = s.checks ∧ (s.takeHeldItem item).unit = s.unit ∧ (s.takeHeldItem item).nv = s.nv ∧
      (s.takeHeldItem item).system = s.system ∧ (s.takeHeldItem item).pending = s.pending ∧
      (s.takeHeldItem item).choices = s.choices := by
  unfold State.takeHeldItem
  cases item <;> simp

/-- `takeHeld` touches grid, station at most. -/
@[simp] theorem State.takeHeld_frame :
    (s.takeHeld).power = s.power ∧ (s.takeHeld).intake = s.intake ∧ (s.takeHeld).seq = s.seq ∧ (s.takeHeld).timing = s.timing ∧
      (s.takeHeld).region = s.region ∧ (s.takeHeld).applier = s.applier ∧ (s.takeHeld).trim = s.trim ∧
      (s.takeHeld).keys = s.keys ∧ (s.takeHeld).checks = s.checks ∧ (s.takeHeld).unit = s.unit ∧ (s.takeHeld).nv = s.nv ∧
      (s.takeHeld).system = s.system ∧ (s.takeHeld).pending = s.pending ∧ (s.takeHeld).choices = s.choices := by
  have step : ∀ (items : List HeldItem) (s : State),
      (items.foldl State.takeHeldItem s).power = s.power ∧ (items.foldl State.takeHeldItem s).intake = s.intake ∧
        (items.foldl State.takeHeldItem s).seq = s.seq ∧ (items.foldl State.takeHeldItem s).timing = s.timing ∧
        (items.foldl State.takeHeldItem s).region = s.region ∧ (items.foldl State.takeHeldItem s).applier = s.applier ∧
        (items.foldl State.takeHeldItem s).trim = s.trim ∧ (items.foldl State.takeHeldItem s).keys = s.keys ∧
        (items.foldl State.takeHeldItem s).checks = s.checks ∧ (items.foldl State.takeHeldItem s).unit = s.unit ∧
        (items.foldl State.takeHeldItem s).nv = s.nv ∧ (items.foldl State.takeHeldItem s).system = s.system ∧
        (items.foldl State.takeHeldItem s).pending = s.pending ∧ (items.foldl State.takeHeldItem s).choices = s.choices := by
    intro items
    induction items with
    | nil => simp
    | cons item rest ih => intro s; simpa using ih (s.takeHeldItem item)
  simpa [State.takeHeld] using step s.grid.held (s.setGrid { s.grid with held := [] })

/-- `hold` touches grid, station at most. -/
@[simp] theorem State.hold_frame (kind tag : Byte) (item : HeldItem) :
    (s.hold kind tag item).power = s.power ∧ (s.hold kind tag item).intake = s.intake ∧ (s.hold kind tag item).seq = s.seq ∧
      (s.hold kind tag item).timing = s.timing ∧ (s.hold kind tag item).region = s.region ∧
      (s.hold kind tag item).applier = s.applier ∧ (s.hold kind tag item).trim = s.trim ∧ (s.hold kind tag item).keys = s.keys ∧
      (s.hold kind tag item).checks = s.checks ∧ (s.hold kind tag item).unit = s.unit ∧ (s.hold kind tag item).nv = s.nv ∧
      (s.hold kind tag item).system = s.system ∧ (s.hold kind tag item).pending = s.pending ∧
      (s.hold kind tag item).choices = s.choices := by
  unfold State.hold
  (repeat' split) <;> simp

/-- `holdCeiling` touches grid at most. -/
@[simp] theorem State.holdCeiling_frame (limit : Option Nat) :
    (s.holdCeiling limit).power = s.power ∧ (s.holdCeiling limit).intake = s.intake ∧ (s.holdCeiling limit).seq = s.seq ∧
      (s.holdCeiling limit).timing = s.timing ∧ (s.holdCeiling limit).region = s.region ∧
      (s.holdCeiling limit).applier = s.applier ∧ (s.holdCeiling limit).trim = s.trim ∧ (s.holdCeiling limit).keys = s.keys ∧
      (s.holdCeiling limit).checks = s.checks ∧ (s.holdCeiling limit).unit = s.unit ∧ (s.holdCeiling limit).nv = s.nv ∧
      (s.holdCeiling limit).station = s.station ∧ (s.holdCeiling limit).system = s.system ∧
      (s.holdCeiling limit).pending = s.pending ∧ (s.holdCeiling limit).choices = s.choices := by
  unfold State.holdCeiling
  simp

/-- `takeOrHold` touches grid, station at most. -/
@[simp] theorem State.takeOrHold_frame (kind tag : Byte) (item : HeldItem) :
    (s.takeOrHold kind tag item).power = s.power ∧ (s.takeOrHold kind tag item).intake = s.intake ∧
      (s.takeOrHold kind tag item).seq = s.seq ∧ (s.takeOrHold kind tag item).timing = s.timing ∧
      (s.takeOrHold kind tag item).region = s.region ∧ (s.takeOrHold kind tag item).applier = s.applier ∧
      (s.takeOrHold kind tag item).trim = s.trim ∧ (s.takeOrHold kind tag item).keys = s.keys ∧
      (s.takeOrHold kind tag item).checks = s.checks ∧ (s.takeOrHold kind tag item).unit = s.unit ∧
      (s.takeOrHold kind tag item).nv = s.nv ∧ (s.takeOrHold kind tag item).system = s.system ∧
      (s.takeOrHold kind tag item).pending = s.pending ∧ (s.takeOrHold kind tag item).choices = s.choices := by
  unfold State.takeOrHold
  split <;> simp

/-- `takeCeiling` touches grid at most. -/
@[simp] theorem State.takeCeiling_frame (limit : Option Nat) :
    (s.takeCeiling limit).power = s.power ∧ (s.takeCeiling limit).intake = s.intake ∧ (s.takeCeiling limit).seq = s.seq ∧
      (s.takeCeiling limit).timing = s.timing ∧ (s.takeCeiling limit).region = s.region ∧
      (s.takeCeiling limit).applier = s.applier ∧ (s.takeCeiling limit).trim = s.trim ∧ (s.takeCeiling limit).keys = s.keys ∧
      (s.takeCeiling limit).checks = s.checks ∧ (s.takeCeiling limit).unit = s.unit ∧ (s.takeCeiling limit).nv = s.nv ∧
      (s.takeCeiling limit).station = s.station ∧ (s.takeCeiling limit).system = s.system ∧
      (s.takeCeiling limit).pending = s.pending ∧ (s.takeCeiling limit).choices = s.choices := by
  unfold State.takeCeiling
  split <;> simp [State.takeHeldItem]

/-- `restartRecords` touches grid, seq, trim at most. -/
@[simp] theorem State.restartRecords_frame (scope : RestartScope) :
    (s.restartRecords scope).power = s.power ∧ (s.restartRecords scope).intake = s.intake ∧
      (s.restartRecords scope).timing = s.timing ∧ (s.restartRecords scope).region = s.region ∧
      (s.restartRecords scope).applier = s.applier ∧ (s.restartRecords scope).keys = s.keys ∧
      (s.restartRecords scope).checks = s.checks ∧ (s.restartRecords scope).unit = s.unit ∧ (s.restartRecords scope).nv = s.nv ∧
      (s.restartRecords scope).station = s.station ∧ (s.restartRecords scope).system = s.system ∧
      (s.restartRecords scope).pending = s.pending ∧ (s.restartRecords scope).choices = s.choices := by
  unfold State.restartRecords
  simp

/-- `clearLoopState` touches grid, seq, trim at most. -/
@[simp] theorem State.clearLoopState_frame :
    (s.clearLoopState).power = s.power ∧ (s.clearLoopState).intake = s.intake ∧ (s.clearLoopState).timing = s.timing ∧
      (s.clearLoopState).region = s.region ∧ (s.clearLoopState).applier = s.applier ∧ (s.clearLoopState).keys = s.keys ∧
      (s.clearLoopState).checks = s.checks ∧ (s.clearLoopState).unit = s.unit ∧ (s.clearLoopState).nv = s.nv ∧
      (s.clearLoopState).station = s.station ∧ (s.clearLoopState).system = s.system ∧ (s.clearLoopState).pending = s.pending ∧
      (s.clearLoopState).choices = s.choices := by
  unfold State.clearLoopState
  simp

/-- `beginRow` touches intake at most. -/
@[simp] theorem State.beginRow_frame :
    (s.beginRow).power = s.power ∧ (s.beginRow).grid = s.grid ∧ (s.beginRow).seq = s.seq ∧ (s.beginRow).timing = s.timing ∧
      (s.beginRow).region = s.region ∧ (s.beginRow).applier = s.applier ∧ (s.beginRow).trim = s.trim ∧
      (s.beginRow).keys = s.keys ∧ (s.beginRow).checks = s.checks ∧ (s.beginRow).unit = s.unit ∧ (s.beginRow).nv = s.nv ∧
      (s.beginRow).station = s.station ∧ (s.beginRow).system = s.system ∧ (s.beginRow).pending = s.pending ∧
      (s.beginRow).choices = s.choices := by
  unfold State.beginRow
  (repeat' split) <;> simp

/-- `advanceRows` touches grid, intake, station at most. -/
@[simp] theorem State.advanceRows_frame :
    (s.advanceRows).power = s.power ∧ (s.advanceRows).seq = s.seq ∧ (s.advanceRows).timing = s.timing ∧
      (s.advanceRows).region = s.region ∧ (s.advanceRows).applier = s.applier ∧ (s.advanceRows).trim = s.trim ∧
      (s.advanceRows).keys = s.keys ∧ (s.advanceRows).checks = s.checks ∧ (s.advanceRows).unit = s.unit ∧
      (s.advanceRows).nv = s.nv ∧ (s.advanceRows).system = s.system ∧ (s.advanceRows).pending = s.pending ∧
      (s.advanceRows).choices = s.choices := by
  unfold State.advanceRows
  (repeat' split) <;> simp

/-- `refuseMeasure` touches station at most. -/
@[simp] theorem State.refuseMeasure_frame (tag patchTag row : Byte) (status : Status) :
    (s.refuseMeasure tag patchTag row status).power = s.power ∧ (s.refuseMeasure tag patchTag row status).grid = s.grid ∧
      (s.refuseMeasure tag patchTag row status).intake = s.intake ∧ (s.refuseMeasure tag patchTag row status).seq = s.seq ∧
      (s.refuseMeasure tag patchTag row status).timing = s.timing ∧ (s.refuseMeasure tag patchTag row status).region = s.region ∧
      (s.refuseMeasure tag patchTag row status).applier = s.applier ∧ (s.refuseMeasure tag patchTag row status).trim = s.trim ∧
      (s.refuseMeasure tag patchTag row status).keys = s.keys ∧ (s.refuseMeasure tag patchTag row status).checks = s.checks ∧
      (s.refuseMeasure tag patchTag row status).unit = s.unit ∧ (s.refuseMeasure tag patchTag row status).nv = s.nv ∧
      (s.refuseMeasure tag patchTag row status).system = s.system ∧
      (s.refuseMeasure tag patchTag row status).pending = s.pending ∧
      (s.refuseMeasure tag patchTag row status).choices = s.choices := by
  unfold State.refuseMeasure
  simp

/-- `replyDiscarded` touches station at most. -/
@[simp] theorem State.replyDiscarded_frame (row : Row) :
    (s.replyDiscarded row).power = s.power ∧ (s.replyDiscarded row).grid = s.grid ∧ (s.replyDiscarded row).intake = s.intake ∧
      (s.replyDiscarded row).seq = s.seq ∧ (s.replyDiscarded row).timing = s.timing ∧ (s.replyDiscarded row).region = s.region ∧
      (s.replyDiscarded row).applier = s.applier ∧ (s.replyDiscarded row).trim = s.trim ∧ (s.replyDiscarded row).keys = s.keys ∧
      (s.replyDiscarded row).checks = s.checks ∧ (s.replyDiscarded row).unit = s.unit ∧ (s.replyDiscarded row).nv = s.nv ∧
      (s.replyDiscarded row).system = s.system ∧ (s.replyDiscarded row).pending = s.pending ∧
      (s.replyDiscarded row).choices = s.choices := by
  unfold State.replyDiscarded
  simp

/-- `replyDiscarded` for every row touches the station port alone. -/
theorem State.replyDiscardedAll_frame (rows : List Row) :
    (rows.foldl State.replyDiscarded s).power = s.power ∧ (rows.foldl State.replyDiscarded s).grid = s.grid ∧
      (rows.foldl State.replyDiscarded s).intake = s.intake ∧ (rows.foldl State.replyDiscarded s).seq = s.seq ∧
      (rows.foldl State.replyDiscarded s).timing = s.timing ∧ (rows.foldl State.replyDiscarded s).region = s.region ∧
      (rows.foldl State.replyDiscarded s).applier = s.applier ∧ (rows.foldl State.replyDiscarded s).trim = s.trim ∧
      (rows.foldl State.replyDiscarded s).keys = s.keys ∧ (rows.foldl State.replyDiscarded s).checks = s.checks ∧
      (rows.foldl State.replyDiscarded s).unit = s.unit ∧ (rows.foldl State.replyDiscarded s).nv = s.nv ∧
      (rows.foldl State.replyDiscarded s).system = s.system ∧ (rows.foldl State.replyDiscarded s).pending = s.pending ∧
      (rows.foldl State.replyDiscarded s).choices = s.choices := by
  induction rows generalizing s with
  | nil => simp
  | cons row rest ih => simpa using ih (s.replyDiscarded row)

/-- `restart` touches grid, intake, seq, trim, station at most. -/
@[simp] theorem State.restart_frame (scope : RestartScope) :
    (s.restart scope).power = s.power ∧ (s.restart scope).timing = s.timing ∧ (s.restart scope).region = s.region ∧
      (s.restart scope).applier = s.applier ∧ (s.restart scope).keys = s.keys ∧ (s.restart scope).checks = s.checks ∧
      (s.restart scope).unit = s.unit ∧ (s.restart scope).nv = s.nv ∧ (s.restart scope).system = s.system ∧
      (s.restart scope).pending = s.pending ∧ (s.restart scope).choices = s.choices := by
  simp [State.restart, State.replyDiscardedAll_frame]

/-- `restartReplying` touches grid, intake, seq, trim, station at most. -/
@[simp] theorem State.restartReplying_frame (kind tag : Byte) (scope : RestartScope) :
    (s.restartReplying kind tag scope).power = s.power ∧ (s.restartReplying kind tag scope).timing = s.timing ∧
      (s.restartReplying kind tag scope).region = s.region ∧ (s.restartReplying kind tag scope).applier = s.applier ∧
      (s.restartReplying kind tag scope).keys = s.keys ∧ (s.restartReplying kind tag scope).checks = s.checks ∧
      (s.restartReplying kind tag scope).unit = s.unit ∧ (s.restartReplying kind tag scope).nv = s.nv ∧
      (s.restartReplying kind tag scope).system = s.system ∧ (s.restartReplying kind tag scope).pending = s.pending ∧
      (s.restartReplying kind tag scope).choices = s.choices := by
  unfold State.restartReplying
  simp

/-- `completeRow` touches grid, intake, seq, station at most. -/
@[simp] theorem State.completeRow_frame (r : RowInProcess) :
    (s.completeRow r).power = s.power ∧ (s.completeRow r).timing = s.timing ∧ (s.completeRow r).region = s.region ∧
      (s.completeRow r).applier = s.applier ∧ (s.completeRow r).trim = s.trim ∧ (s.completeRow r).keys = s.keys ∧
      (s.completeRow r).checks = s.checks ∧ (s.completeRow r).unit = s.unit ∧ (s.completeRow r).nv = s.nv ∧
      (s.completeRow r).system = s.system ∧ (s.completeRow r).pending = s.pending ∧ (s.completeRow r).choices = s.choices := by
  unfold State.completeRow
  dsimp only
  (repeat' split) <;> simp

/-- `progressExpiry` touches intake, station at most. -/
@[simp] theorem State.progressExpiry_frame :
    (s.progressExpiry).power = s.power ∧ (s.progressExpiry).grid = s.grid ∧ (s.progressExpiry).seq = s.seq ∧
      (s.progressExpiry).timing = s.timing ∧ (s.progressExpiry).region = s.region ∧ (s.progressExpiry).applier = s.applier ∧
      (s.progressExpiry).trim = s.trim ∧ (s.progressExpiry).keys = s.keys ∧ (s.progressExpiry).checks = s.checks ∧
      (s.progressExpiry).unit = s.unit ∧ (s.progressExpiry).nv = s.nv ∧ (s.progressExpiry).system = s.system ∧
      (s.progressExpiry).pending = s.pending ∧ (s.progressExpiry).choices = s.choices := by
  unfold State.progressExpiry
  dsimp only
  (repeat' split) <;> simp

/-- `takeFrameView` touches applier at most. -/
@[simp] theorem State.takeFrameView_frame :
    (s.takeFrameView).power = s.power ∧ (s.takeFrameView).grid = s.grid ∧ (s.takeFrameView).intake = s.intake ∧
      (s.takeFrameView).seq = s.seq ∧ (s.takeFrameView).timing = s.timing ∧ (s.takeFrameView).region = s.region ∧
      (s.takeFrameView).trim = s.trim ∧ (s.takeFrameView).keys = s.keys ∧ (s.takeFrameView).checks = s.checks ∧
      (s.takeFrameView).unit = s.unit ∧ (s.takeFrameView).nv = s.nv ∧ (s.takeFrameView).station = s.station ∧
      (s.takeFrameView).system = s.system ∧ (s.takeFrameView).pending = s.pending ∧ (s.takeFrameView).choices = s.choices := by
  unfold State.takeFrameView
  simp

/-- `setMode` touches applier, trim at most. -/
@[simp] theorem State.setMode_frame (mode : ApplierMode) :
    (s.setMode mode).power = s.power ∧ (s.setMode mode).grid = s.grid ∧ (s.setMode mode).intake = s.intake ∧
      (s.setMode mode).seq = s.seq ∧ (s.setMode mode).timing = s.timing ∧ (s.setMode mode).region = s.region ∧
      (s.setMode mode).keys = s.keys ∧ (s.setMode mode).checks = s.checks ∧ (s.setMode mode).unit = s.unit ∧
      (s.setMode mode).nv = s.nv ∧ (s.setMode mode).station = s.station ∧ (s.setMode mode).system = s.system ∧
      (s.setMode mode).pending = s.pending ∧ (s.setMode mode).choices = s.choices := by
  unfold State.setMode
  simp

/-- `examineTrim` touches trim at most. -/
@[simp] theorem State.examineTrim_frame :
    (s.examineTrim).power = s.power ∧ (s.examineTrim).grid = s.grid ∧ (s.examineTrim).intake = s.intake ∧
      (s.examineTrim).seq = s.seq ∧ (s.examineTrim).timing = s.timing ∧ (s.examineTrim).region = s.region ∧
      (s.examineTrim).applier = s.applier ∧ (s.examineTrim).keys = s.keys ∧ (s.examineTrim).checks = s.checks ∧
      (s.examineTrim).unit = s.unit ∧ (s.examineTrim).nv = s.nv ∧ (s.examineTrim).station = s.station ∧
      (s.examineTrim).system = s.system ∧ (s.examineTrim).pending = s.pending ∧ (s.examineTrim).choices = s.choices := by
  unfold State.examineTrim
  (repeat' split) <;> simp

/-- `completeTrim` touches trim at most. -/
@[simp] theorem State.completeTrim_frame :
    (s.completeTrim).power = s.power ∧ (s.completeTrim).grid = s.grid ∧ (s.completeTrim).intake = s.intake ∧
      (s.completeTrim).seq = s.seq ∧ (s.completeTrim).timing = s.timing ∧ (s.completeTrim).region = s.region ∧
      (s.completeTrim).applier = s.applier ∧ (s.completeTrim).keys = s.keys ∧ (s.completeTrim).checks = s.checks ∧
      (s.completeTrim).unit = s.unit ∧ (s.completeTrim).nv = s.nv ∧ (s.completeTrim).station = s.station ∧
      (s.completeTrim).system = s.system ∧ (s.completeTrim).pending = s.pending ∧ (s.completeTrim).choices = s.choices := by
  unfold State.completeTrim
  (repeat' split) <;> simp

/-- `replySeq` touches station at most. -/
@[simp] theorem State.replySeq_frame (kind tag : Byte) :
    (s.replySeq kind tag).power = s.power ∧ (s.replySeq kind tag).grid = s.grid ∧ (s.replySeq kind tag).intake = s.intake ∧
      (s.replySeq kind tag).seq = s.seq ∧ (s.replySeq kind tag).timing = s.timing ∧ (s.replySeq kind tag).region = s.region ∧
      (s.replySeq kind tag).applier = s.applier ∧ (s.replySeq kind tag).trim = s.trim ∧ (s.replySeq kind tag).keys = s.keys ∧
      (s.replySeq kind tag).checks = s.checks ∧ (s.replySeq kind tag).unit = s.unit ∧ (s.replySeq kind tag).nv = s.nv ∧
      (s.replySeq kind tag).system = s.system ∧ (s.replySeq kind tag).pending = s.pending ∧
      (s.replySeq kind tag).choices = s.choices := by
  unfold State.replySeq
  simp

/-- `takeRate` touches timing at most. -/
@[simp] theorem State.takeRate_frame (rate : Nat) :
    (s.takeRate rate).power = s.power ∧ (s.takeRate rate).grid = s.grid ∧ (s.takeRate rate).intake = s.intake ∧
      (s.takeRate rate).seq = s.seq ∧ (s.takeRate rate).region = s.region ∧ (s.takeRate rate).applier = s.applier ∧
      (s.takeRate rate).trim = s.trim ∧ (s.takeRate rate).keys = s.keys ∧ (s.takeRate rate).checks = s.checks ∧
      (s.takeRate rate).unit = s.unit ∧ (s.takeRate rate).nv = s.nv ∧ (s.takeRate rate).station = s.station ∧
      (s.takeRate rate).system = s.system ∧ (s.takeRate rate).pending = s.pending ∧ (s.takeRate rate).choices = s.choices := by
  unfold State.takeRate
  (repeat' split) <;> simp

/-- `reportStopped` touches station at most. -/
@[simp] theorem State.reportStopped_frame (reason : RunEnd) :
    (s.reportStopped reason).power = s.power ∧ (s.reportStopped reason).grid = s.grid ∧
      (s.reportStopped reason).intake = s.intake ∧ (s.reportStopped reason).seq = s.seq ∧
      (s.reportStopped reason).timing = s.timing ∧ (s.reportStopped reason).region = s.region ∧
      (s.reportStopped reason).applier = s.applier ∧ (s.reportStopped reason).trim = s.trim ∧
      (s.reportStopped reason).keys = s.keys ∧ (s.reportStopped reason).checks = s.checks ∧
      (s.reportStopped reason).unit = s.unit ∧ (s.reportStopped reason).nv = s.nv ∧ (s.reportStopped reason).system = s.system ∧
      (s.reportStopped reason).pending = s.pending ∧ (s.reportStopped reason).choices = s.choices := by
  unfold State.reportStopped
  simp

/-- `takePendingStart` touches intake, seq, station at most. -/
@[simp] theorem State.takePendingStart_frame :
    (s.takePendingStart).power = s.power ∧ (s.takePendingStart).grid = s.grid ∧ (s.takePendingStart).timing = s.timing ∧
      (s.takePendingStart).region = s.region ∧ (s.takePendingStart).applier = s.applier ∧ (s.takePendingStart).trim = s.trim ∧
      (s.takePendingStart).keys = s.keys ∧ (s.takePendingStart).checks = s.checks ∧ (s.takePendingStart).unit = s.unit ∧
      (s.takePendingStart).nv = s.nv ∧ (s.takePendingStart).system = s.system ∧ (s.takePendingStart).pending = s.pending ∧
      (s.takePendingStart).choices = s.choices := by
  unfold State.takePendingStart
  dsimp only
  split <;> simp

/-- `endRun` touches intake, seq, timing, station at most. -/
@[simp] theorem State.endRun_frame (reason : RunEnd) :
    (s.endRun reason).power = s.power ∧ (s.endRun reason).grid = s.grid ∧ (s.endRun reason).region = s.region ∧
      (s.endRun reason).applier = s.applier ∧ (s.endRun reason).trim = s.trim ∧ (s.endRun reason).keys = s.keys ∧
      (s.endRun reason).checks = s.checks ∧ (s.endRun reason).unit = s.unit ∧ (s.endRun reason).nv = s.nv ∧
      (s.endRun reason).system = s.system ∧ (s.endRun reason).pending = s.pending ∧ (s.endRun reason).choices = s.choices := by
  unfold State.endRun
  simp

/-- `reportDone` touches station at most. -/
@[simp] theorem State.reportDone_frame (p : Patch) (reason : EndReason) :
    (s.reportDone p reason).power = s.power ∧ (s.reportDone p reason).grid = s.grid ∧ (s.reportDone p reason).intake = s.intake ∧
      (s.reportDone p reason).seq = s.seq ∧ (s.reportDone p reason).timing = s.timing ∧
      (s.reportDone p reason).region = s.region ∧ (s.reportDone p reason).applier = s.applier ∧
      (s.reportDone p reason).trim = s.trim ∧ (s.reportDone p reason).keys = s.keys ∧ (s.reportDone p reason).checks = s.checks ∧
      (s.reportDone p reason).unit = s.unit ∧ (s.reportDone p reason).nv = s.nv ∧ (s.reportDone p reason).system = s.system ∧
      (s.reportDone p reason).pending = s.pending ∧ (s.reportDone p reason).choices = s.choices := by
  unfold State.reportDone
  simp

/-- `endPatch` touches intake, seq, timing, station at most. -/
@[simp] theorem State.endPatch_frame (p : Patch) (reason : EndReason) :
    (s.endPatch p reason).power = s.power ∧ (s.endPatch p reason).grid = s.grid ∧ (s.endPatch p reason).region = s.region ∧
      (s.endPatch p reason).applier = s.applier ∧ (s.endPatch p reason).trim = s.trim ∧ (s.endPatch p reason).keys = s.keys ∧
      (s.endPatch p reason).checks = s.checks ∧ (s.endPatch p reason).unit = s.unit ∧ (s.endPatch p reason).nv = s.nv ∧
      (s.endPatch p reason).system = s.system ∧ (s.endPatch p reason).pending = s.pending ∧
      (s.endPatch p reason).choices = s.choices := by
  unfold State.endPatch
  dsimp only
  (repeat' split) <;> simp

/-- `advancePatch` touches intake, seq, timing, station at most. -/
@[simp] theorem State.advancePatch_frame (p : Patch) :
    (s.advancePatch p).power = s.power ∧ (s.advancePatch p).grid = s.grid ∧ (s.advancePatch p).region = s.region ∧
      (s.advancePatch p).applier = s.applier ∧ (s.advancePatch p).trim = s.trim ∧ (s.advancePatch p).keys = s.keys ∧
      (s.advancePatch p).checks = s.checks ∧ (s.advancePatch p).unit = s.unit ∧ (s.advancePatch p).nv = s.nv ∧
      (s.advancePatch p).system = s.system ∧ (s.advancePatch p).pending = s.pending ∧ (s.advancePatch p).choices = s.choices := by
  unfold State.advancePatch
  dsimp only
  (repeat' split) <;> simp

/-- `sequencerBoundary` touches intake, seq, timing, station at most. -/
@[simp] theorem State.sequencerBoundary_frame :
    (s.sequencerBoundary).power = s.power ∧ (s.sequencerBoundary).grid = s.grid ∧ (s.sequencerBoundary).region = s.region ∧
      (s.sequencerBoundary).applier = s.applier ∧ (s.sequencerBoundary).trim = s.trim ∧ (s.sequencerBoundary).keys = s.keys ∧
      (s.sequencerBoundary).checks = s.checks ∧ (s.sequencerBoundary).unit = s.unit ∧ (s.sequencerBoundary).nv = s.nv ∧
      (s.sequencerBoundary).system = s.system ∧ (s.sequencerBoundary).pending = s.pending ∧
      (s.sequencerBoundary).choices = s.choices := by
  unfold State.sequencerBoundary
  (repeat' split) <;> simp

/-- `frameBoundary` touches intake, seq, timing, station, applier, trim at most. -/
@[simp] theorem State.frameBoundary_frame :
    (s.frameBoundary).power = s.power ∧ (s.frameBoundary).grid = s.grid ∧ (s.frameBoundary).region = s.region ∧
      (s.frameBoundary).keys = s.keys ∧ (s.frameBoundary).checks = s.checks ∧ (s.frameBoundary).unit = s.unit ∧
      (s.frameBoundary).nv = s.nv ∧ (s.frameBoundary).system = s.system ∧ (s.frameBoundary).pending = s.pending ∧
      (s.frameBoundary).choices = s.choices := by
  unfold State.frameBoundary
  simp

/-- `informReaders` touches grid, timing at most. -/
@[simp] theorem State.informReaders_frame :
    (s.informReaders).power = s.power ∧ (s.informReaders).intake = s.intake ∧ (s.informReaders).seq = s.seq ∧
      (s.informReaders).region = s.region ∧ (s.informReaders).applier = s.applier ∧ (s.informReaders).trim = s.trim ∧
      (s.informReaders).keys = s.keys ∧ (s.informReaders).checks = s.checks ∧ (s.informReaders).unit = s.unit ∧
      (s.informReaders).nv = s.nv ∧ (s.informReaders).station = s.station ∧ (s.informReaders).system = s.system ∧
      (s.informReaders).pending = s.pending ∧ (s.informReaders).choices = s.choices := by
  unfold State.informReaders
  simp

/-- `recomputeCurrent` touches grid, timing, region at most. -/
@[simp] theorem State.recomputeCurrent_frame :
    (s.recomputeCurrent).power = s.power ∧ (s.recomputeCurrent).intake = s.intake ∧ (s.recomputeCurrent).seq = s.seq ∧
      (s.recomputeCurrent).applier = s.applier ∧ (s.recomputeCurrent).trim = s.trim ∧ (s.recomputeCurrent).keys = s.keys ∧
      (s.recomputeCurrent).checks = s.checks ∧ (s.recomputeCurrent).unit = s.unit ∧ (s.recomputeCurrent).nv = s.nv ∧
      (s.recomputeCurrent).station = s.station ∧ (s.recomputeCurrent).system = s.system ∧
      (s.recomputeCurrent).pending = s.pending ∧ (s.recomputeCurrent).choices = s.choices := by
  unfold State.recomputeCurrent
  dsimp only
  (repeat' split) <;> simp

/-- `recomputeUnknown` touches region, station at most. -/
@[simp] theorem State.recomputeUnknown_frame :
    (s.recomputeUnknown).power = s.power ∧ (s.recomputeUnknown).grid = s.grid ∧ (s.recomputeUnknown).intake = s.intake ∧
      (s.recomputeUnknown).seq = s.seq ∧ (s.recomputeUnknown).timing = s.timing ∧ (s.recomputeUnknown).applier = s.applier ∧
      (s.recomputeUnknown).trim = s.trim ∧ (s.recomputeUnknown).keys = s.keys ∧ (s.recomputeUnknown).checks = s.checks ∧
      (s.recomputeUnknown).unit = s.unit ∧ (s.recomputeUnknown).nv = s.nv ∧ (s.recomputeUnknown).system = s.system ∧
      (s.recomputeUnknown).pending = s.pending ∧ (s.recomputeUnknown).choices = s.choices := by
  unfold State.recomputeUnknown
  dsimp only
  (repeat' split) <;> simp

/-- `recomputeConflict` touches region, station at most. -/
@[simp] theorem State.recomputeConflict_frame :
    (s.recomputeConflict).power = s.power ∧ (s.recomputeConflict).grid = s.grid ∧ (s.recomputeConflict).intake = s.intake ∧
      (s.recomputeConflict).seq = s.seq ∧ (s.recomputeConflict).timing = s.timing ∧ (s.recomputeConflict).applier = s.applier ∧
      (s.recomputeConflict).trim = s.trim ∧ (s.recomputeConflict).keys = s.keys ∧ (s.recomputeConflict).checks = s.checks ∧
      (s.recomputeConflict).unit = s.unit ∧ (s.recomputeConflict).nv = s.nv ∧ (s.recomputeConflict).system = s.system ∧
      (s.recomputeConflict).pending = s.pending ∧ (s.recomputeConflict).choices = s.choices := by
  unfold State.recomputeConflict
  dsimp only
  (repeat' split) <;> simp

/-- `settleCurrent` touches grid, timing, region, station at most. -/
@[simp] theorem State.settleCurrent_frame :
    (s.settleCurrent).power = s.power ∧ (s.settleCurrent).intake = s.intake ∧ (s.settleCurrent).seq = s.seq ∧
      (s.settleCurrent).applier = s.applier ∧ (s.settleCurrent).trim = s.trim ∧ (s.settleCurrent).keys = s.keys ∧
      (s.settleCurrent).checks = s.checks ∧ (s.settleCurrent).unit = s.unit ∧ (s.settleCurrent).nv = s.nv ∧
      (s.settleCurrent).system = s.system ∧ (s.settleCurrent).pending = s.pending ∧ (s.settleCurrent).choices = s.choices := by
  unfold State.settleCurrent
  simp

/-- `settleRegion` touches grid, timing, region, station at most. -/
@[simp] theorem State.settleRegion_frame :
    (s.settleRegion).power = s.power ∧ (s.settleRegion).intake = s.intake ∧ (s.settleRegion).seq = s.seq ∧
      (s.settleRegion).applier = s.applier ∧ (s.settleRegion).trim = s.trim ∧ (s.settleRegion).keys = s.keys ∧
      (s.settleRegion).checks = s.checks ∧ (s.settleRegion).unit = s.unit ∧ (s.settleRegion).nv = s.nv ∧
      (s.settleRegion).system = s.system ∧ (s.settleRegion).pending = s.pending ∧ (s.settleRegion).choices = s.choices := by
  unfold State.settleRegion
  simp

/-- `writeGiven` touches grid, timing, region, station at most. -/
@[simp] theorem State.writeGiven_frame (code : Nat) :
    (s.writeGiven code).power = s.power ∧ (s.writeGiven code).intake = s.intake ∧ (s.writeGiven code).seq = s.seq ∧
      (s.writeGiven code).applier = s.applier ∧ (s.writeGiven code).trim = s.trim ∧ (s.writeGiven code).keys = s.keys ∧
      (s.writeGiven code).checks = s.checks ∧ (s.writeGiven code).unit = s.unit ∧ (s.writeGiven code).nv = s.nv ∧
      (s.writeGiven code).system = s.system ∧ (s.writeGiven code).pending = s.pending ∧ (s.writeGiven code).choices = s.choices := by
  unfold State.writeGiven
  simp

/-- `reportMarker` touches station at most. -/
@[simp] theorem State.reportMarker_frame (event : MarkerEvent) (m : Option Marker) :
    (s.reportMarker event m).power = s.power ∧ (s.reportMarker event m).grid = s.grid ∧
      (s.reportMarker event m).intake = s.intake ∧ (s.reportMarker event m).seq = s.seq ∧
      (s.reportMarker event m).timing = s.timing ∧ (s.reportMarker event m).region = s.region ∧
      (s.reportMarker event m).applier = s.applier ∧ (s.reportMarker event m).trim = s.trim ∧
      (s.reportMarker event m).keys = s.keys ∧ (s.reportMarker event m).checks = s.checks ∧
      (s.reportMarker event m).unit = s.unit ∧ (s.reportMarker event m).nv = s.nv ∧ (s.reportMarker event m).system = s.system ∧
      (s.reportMarker event m).pending = s.pending ∧ (s.reportMarker event m).choices = s.choices := by
  unfold State.reportMarker
  simp

/-- `markerPresence` touches region, station at most. -/
@[simp] theorem State.markerPresence_frame (m : Marker) :
    (s.markerPresence m).power = s.power ∧ (s.markerPresence m).grid = s.grid ∧ (s.markerPresence m).intake = s.intake ∧
      (s.markerPresence m).seq = s.seq ∧ (s.markerPresence m).timing = s.timing ∧ (s.markerPresence m).applier = s.applier ∧
      (s.markerPresence m).trim = s.trim ∧ (s.markerPresence m).keys = s.keys ∧ (s.markerPresence m).checks = s.checks ∧
      (s.markerPresence m).unit = s.unit ∧ (s.markerPresence m).nv = s.nv ∧ (s.markerPresence m).system = s.system ∧
      (s.markerPresence m).pending = s.pending ∧ (s.markerPresence m).choices = s.choices := by
  unfold State.markerPresence
  dsimp only
  (repeat' split) <;> simp

/-- `markerLost` touches region, station at most. -/
@[simp] theorem State.markerLost_frame :
    (s.markerLost).power = s.power ∧ (s.markerLost).grid = s.grid ∧ (s.markerLost).intake = s.intake ∧
      (s.markerLost).seq = s.seq ∧ (s.markerLost).timing = s.timing ∧ (s.markerLost).applier = s.applier ∧
      (s.markerLost).trim = s.trim ∧ (s.markerLost).keys = s.keys ∧ (s.markerLost).checks = s.checks ∧
      (s.markerLost).unit = s.unit ∧ (s.markerLost).nv = s.nv ∧ (s.markerLost).system = s.system ∧
      (s.markerLost).pending = s.pending ∧ (s.markerLost).choices = s.choices := by
  unfold State.markerLost
  simp

/-- `markerMissed` touches region, station at most. -/
@[simp] theorem State.markerMissed_frame :
    (s.markerMissed).power = s.power ∧ (s.markerMissed).grid = s.grid ∧ (s.markerMissed).intake = s.intake ∧
      (s.markerMissed).seq = s.seq ∧ (s.markerMissed).timing = s.timing ∧ (s.markerMissed).applier = s.applier ∧
      (s.markerMissed).trim = s.trim ∧ (s.markerMissed).keys = s.keys ∧ (s.markerMissed).checks = s.checks ∧
      (s.markerMissed).unit = s.unit ∧ (s.markerMissed).nv = s.nv ∧ (s.markerMissed).system = s.system ∧
      (s.markerMissed).pending = s.pending ∧ (s.markerMissed).choices = s.choices := by
  unfold State.markerMissed
  (repeat' split) <;> simp

/-- `senseCode` touches grid, timing, region, station at most. -/
@[simp] theorem State.senseCode_frame (m : Marker) :
    (s.senseCode m).power = s.power ∧ (s.senseCode m).intake = s.intake ∧ (s.senseCode m).seq = s.seq ∧
      (s.senseCode m).applier = s.applier ∧ (s.senseCode m).trim = s.trim ∧ (s.senseCode m).keys = s.keys ∧
      (s.senseCode m).checks = s.checks ∧ (s.senseCode m).unit = s.unit ∧ (s.senseCode m).nv = s.nv ∧
      (s.senseCode m).system = s.system ∧ (s.senseCode m).pending = s.pending ∧ (s.senseCode m).choices = s.choices := by
  unfold State.senseCode
  simp

/-- `markerRegion` touches grid, timing, region, station at most. -/
@[simp] theorem State.markerRegion_frame (m : Marker) :
    (s.markerRegion m).power = s.power ∧ (s.markerRegion m).intake = s.intake ∧ (s.markerRegion m).seq = s.seq ∧
      (s.markerRegion m).applier = s.applier ∧ (s.markerRegion m).trim = s.trim ∧ (s.markerRegion m).keys = s.keys ∧
      (s.markerRegion m).checks = s.checks ∧ (s.markerRegion m).unit = s.unit ∧ (s.markerRegion m).nv = s.nv ∧
      (s.markerRegion m).system = s.system ∧ (s.markerRegion m).pending = s.pending ∧ (s.markerRegion m).choices = s.choices := by
  unfold State.markerRegion
  dsimp only
  (repeat' split) <;> simp

/-- `takeIdentity` touches region, station at most. -/
@[simp] theorem State.takeIdentity_frame (m : Marker) (i : StationId) :
    (s.takeIdentity m i).power = s.power ∧ (s.takeIdentity m i).grid = s.grid ∧ (s.takeIdentity m i).intake = s.intake ∧
      (s.takeIdentity m i).seq = s.seq ∧ (s.takeIdentity m i).timing = s.timing ∧ (s.takeIdentity m i).applier = s.applier ∧
      (s.takeIdentity m i).trim = s.trim ∧ (s.takeIdentity m i).keys = s.keys ∧ (s.takeIdentity m i).checks = s.checks ∧
      (s.takeIdentity m i).unit = s.unit ∧ (s.takeIdentity m i).nv = s.nv ∧ (s.takeIdentity m i).system = s.system ∧
      (s.takeIdentity m i).pending = s.pending ∧ (s.takeIdentity m i).choices = s.choices := by
  unfold State.takeIdentity
  (repeat' split) <;> simp

/-- `markerIdentity` touches region, station at most. -/
@[simp] theorem State.markerIdentity_frame (m : Marker) :
    (s.markerIdentity m).power = s.power ∧ (s.markerIdentity m).grid = s.grid ∧ (s.markerIdentity m).intake = s.intake ∧
      (s.markerIdentity m).seq = s.seq ∧ (s.markerIdentity m).timing = s.timing ∧ (s.markerIdentity m).applier = s.applier ∧
      (s.markerIdentity m).trim = s.trim ∧ (s.markerIdentity m).keys = s.keys ∧ (s.markerIdentity m).checks = s.checks ∧
      (s.markerIdentity m).unit = s.unit ∧ (s.markerIdentity m).nv = s.nv ∧ (s.markerIdentity m).system = s.system ∧
      (s.markerIdentity m).pending = s.pending ∧ (s.markerIdentity m).choices = s.choices := by
  unfold State.markerIdentity
  (repeat' split) <;> simp

/-- `markerAccepted` touches grid, timing, region, station at most. -/
@[simp] theorem State.markerAccepted_frame (m : Marker) :
    (s.markerAccepted m).power = s.power ∧ (s.markerAccepted m).intake = s.intake ∧ (s.markerAccepted m).seq = s.seq ∧
      (s.markerAccepted m).applier = s.applier ∧ (s.markerAccepted m).trim = s.trim ∧ (s.markerAccepted m).keys = s.keys ∧
      (s.markerAccepted m).checks = s.checks ∧ (s.markerAccepted m).unit = s.unit ∧ (s.markerAccepted m).nv = s.nv ∧
      (s.markerAccepted m).system = s.system ∧ (s.markerAccepted m).pending = s.pending ∧ (s.markerAccepted m).choices = s.choices := by
  unfold State.markerAccepted
  simp

/-- `takeMarkerRead` touches grid, timing, region, station at most. -/
@[simp] theorem State.takeMarkerRead_frame (pixels : List Pixel) :
    (s.takeMarkerRead pixels).power = s.power ∧ (s.takeMarkerRead pixels).intake = s.intake ∧
      (s.takeMarkerRead pixels).seq = s.seq ∧ (s.takeMarkerRead pixels).applier = s.applier ∧
      (s.takeMarkerRead pixels).trim = s.trim ∧ (s.takeMarkerRead pixels).keys = s.keys ∧
      (s.takeMarkerRead pixels).checks = s.checks ∧ (s.takeMarkerRead pixels).unit = s.unit ∧
      (s.takeMarkerRead pixels).nv = s.nv ∧ (s.takeMarkerRead pixels).system = s.system ∧
      (s.takeMarkerRead pixels).pending = s.pending ∧ (s.takeMarkerRead pixels).choices = s.choices := by
  unfold State.takeMarkerRead
  dsimp only
  (repeat' split) <;> simp

/-- `beginDue` touches intake at most. -/
@[simp] theorem State.beginDue_frame (meets : Bool) :
    (s.beginDue meets).power = s.power ∧ (s.beginDue meets).grid = s.grid ∧ (s.beginDue meets).seq = s.seq ∧ (s.beginDue meets).timing = s.timing ∧
      (s.beginDue meets).region = s.region ∧ (s.beginDue meets).applier = s.applier ∧ (s.beginDue meets).trim = s.trim ∧
      (s.beginDue meets).keys = s.keys ∧ (s.beginDue meets).checks = s.checks ∧ (s.beginDue meets).unit = s.unit ∧ (s.beginDue meets).nv = s.nv ∧
      (s.beginDue meets).station = s.station ∧ (s.beginDue meets).system = s.system ∧ (s.beginDue meets).pending = s.pending ∧
      (s.beginDue meets).choices = s.choices := by
  unfold State.beginDue
  (repeat' split) <;> simp

/-- `reportInput` touches station at most. -/
@[simp] theorem State.reportInput_frame (regained deferred : Bool) (lines pixels : Nat) :
    (s.reportInput regained deferred lines pixels).power = s.power ∧
      (s.reportInput regained deferred lines pixels).grid = s.grid ∧
      (s.reportInput regained deferred lines pixels).intake = s.intake ∧
      (s.reportInput regained deferred lines pixels).seq = s.seq ∧
      (s.reportInput regained deferred lines pixels).timing = s.timing ∧
      (s.reportInput regained deferred lines pixels).region = s.region ∧
      (s.reportInput regained deferred lines pixels).applier = s.applier ∧
      (s.reportInput regained deferred lines pixels).trim = s.trim ∧
      (s.reportInput regained deferred lines pixels).keys = s.keys ∧
      (s.reportInput regained deferred lines pixels).checks = s.checks ∧
      (s.reportInput regained deferred lines pixels).unit = s.unit ∧ (s.reportInput regained deferred lines pixels).nv = s.nv ∧
      (s.reportInput regained deferred lines pixels).system = s.system ∧
      (s.reportInput regained deferred lines pixels).pending = s.pending ∧
      (s.reportInput regained deferred lines pixels).choices = s.choices := by
  unfold State.reportInput
  simp

/-- `switchToInternal` touches seq, timing at most. -/
@[simp] theorem State.switchToInternal_frame :
    (s.switchToInternal).power = s.power ∧ (s.switchToInternal).grid = s.grid ∧ (s.switchToInternal).intake = s.intake ∧
      (s.switchToInternal).region = s.region ∧ (s.switchToInternal).applier = s.applier ∧ (s.switchToInternal).trim = s.trim ∧
      (s.switchToInternal).keys = s.keys ∧ (s.switchToInternal).checks = s.checks ∧ (s.switchToInternal).unit = s.unit ∧
      (s.switchToInternal).nv = s.nv ∧ (s.switchToInternal).station = s.station ∧ (s.switchToInternal).system = s.system ∧
      (s.switchToInternal).pending = s.pending ∧ (s.switchToInternal).choices = s.choices := by
  unfold State.switchToInternal
  (repeat' split) <;> simp

/-- `loseLock` touches seq, timing, region, station, choices at most. -/
@[simp] theorem State.loseLock_frame :
    (s.loseLock).power = s.power ∧ (s.loseLock).grid = s.grid ∧ (s.loseLock).intake = s.intake ∧
      (s.loseLock).applier = s.applier ∧ (s.loseLock).trim = s.trim ∧ (s.loseLock).keys = s.keys ∧
      (s.loseLock).checks = s.checks ∧ (s.loseLock).unit = s.unit ∧ (s.loseLock).nv = s.nv ∧ (s.loseLock).system = s.system ∧
      (s.loseLock).pending = s.pending := by
  unfold State.loseLock
  simp only [State.choose]
  (repeat' split) <;> simp

/-- `matchTotals` touches timing, station at most. -/
@[simp] theorem State.matchTotals_frame (totals : Nat × Nat) :
    (s.matchTotals totals).power = s.power ∧ (s.matchTotals totals).grid = s.grid ∧ (s.matchTotals totals).intake = s.intake ∧
      (s.matchTotals totals).seq = s.seq ∧ (s.matchTotals totals).region = s.region ∧ (s.matchTotals totals).applier = s.applier ∧
      (s.matchTotals totals).trim = s.trim ∧ (s.matchTotals totals).keys = s.keys ∧ (s.matchTotals totals).checks = s.checks ∧
      (s.matchTotals totals).unit = s.unit ∧ (s.matchTotals totals).nv = s.nv ∧ (s.matchTotals totals).system = s.system ∧
      (s.matchTotals totals).pending = s.pending ∧ (s.matchTotals totals).choices = s.choices := by
  unfold State.matchTotals
  dsimp only
  (repeat' split) <;> simp

/-- `takeTotals` touches seq, timing, region, station, choices at most. -/
@[simp] theorem State.takeTotals_frame (totals : Nat × Nat) :
    (s.takeTotals totals).power = s.power ∧ (s.takeTotals totals).grid = s.grid ∧ (s.takeTotals totals).intake = s.intake ∧
      (s.takeTotals totals).applier = s.applier ∧ (s.takeTotals totals).trim = s.trim ∧ (s.takeTotals totals).keys = s.keys ∧
      (s.takeTotals totals).checks = s.checks ∧ (s.takeTotals totals).unit = s.unit ∧ (s.takeTotals totals).nv = s.nv ∧
      (s.takeTotals totals).system = s.system ∧ (s.takeTotals totals).pending = s.pending := by
  unfold State.takeTotals
  dsimp only
  (repeat' split) <;> simp

/-- `returnToInput` touches timing at most. -/
@[simp] theorem State.returnToInput_frame :
    (s.returnToInput).power = s.power ∧ (s.returnToInput).grid = s.grid ∧ (s.returnToInput).intake = s.intake ∧
      (s.returnToInput).seq = s.seq ∧ (s.returnToInput).region = s.region ∧ (s.returnToInput).applier = s.applier ∧
      (s.returnToInput).trim = s.trim ∧ (s.returnToInput).keys = s.keys ∧ (s.returnToInput).checks = s.checks ∧
      (s.returnToInput).unit = s.unit ∧ (s.returnToInput).nv = s.nv ∧ (s.returnToInput).station = s.station ∧
      (s.returnToInput).system = s.system ∧ (s.returnToInput).pending = s.pending ∧ (s.returnToInput).choices = s.choices := by
  unfold State.returnToInput
  simp

/-- `takeFrameStart` touches intake, seq, timing, region, station, applier, trim, choices at most. -/
@[simp] theorem State.takeFrameStart_frame (totals : Nat × Nat) :
    (s.takeFrameStart totals).power = s.power ∧ (s.takeFrameStart totals).grid = s.grid ∧
      (s.takeFrameStart totals).keys = s.keys ∧ (s.takeFrameStart totals).checks = s.checks ∧
      (s.takeFrameStart totals).unit = s.unit ∧ (s.takeFrameStart totals).nv = s.nv ∧
      (s.takeFrameStart totals).system = s.system ∧ (s.takeFrameStart totals).pending = s.pending := by
  unfold State.takeFrameStart
  dsimp only
  (repeat' split) <;> simp

/-- `takeGapExpiry` touches seq, timing, region, station, choices at most. -/
@[simp] theorem State.takeGapExpiry_frame :
    (s.takeGapExpiry).power = s.power ∧ (s.takeGapExpiry).grid = s.grid ∧ (s.takeGapExpiry).intake = s.intake ∧
      (s.takeGapExpiry).applier = s.applier ∧ (s.takeGapExpiry).trim = s.trim ∧ (s.takeGapExpiry).keys = s.keys ∧
      (s.takeGapExpiry).checks = s.checks ∧ (s.takeGapExpiry).unit = s.unit ∧ (s.takeGapExpiry).nv = s.nv ∧
      (s.takeGapExpiry).system = s.system ∧ (s.takeGapExpiry).pending = s.pending := by
  unfold State.takeGapExpiry
  dsimp only
  (repeat' split) <;> simp

/-- `takeTick` touches intake, seq, timing, station, applier, trim at most. -/
@[simp] theorem State.takeTick_frame :
    (s.takeTick).power = s.power ∧ (s.takeTick).grid = s.grid ∧ (s.takeTick).region = s.region ∧ (s.takeTick).keys = s.keys ∧
      (s.takeTick).checks = s.checks ∧ (s.takeTick).unit = s.unit ∧ (s.takeTick).nv = s.nv ∧ (s.takeTick).system = s.system ∧
      (s.takeTick).pending = s.pending ∧ (s.takeTick).choices = s.choices := by
  unfold State.takeTick
  dsimp only
  (repeat' split) <;> simp

/-- `reportKeyState` touches station at most. -/
@[simp] theorem State.reportKeyState_frame (e : KeyEntry) :
    (s.reportKeyState e).power = s.power ∧ (s.reportKeyState e).grid = s.grid ∧ (s.reportKeyState e).intake = s.intake ∧
      (s.reportKeyState e).seq = s.seq ∧ (s.reportKeyState e).timing = s.timing ∧ (s.reportKeyState e).region = s.region ∧
      (s.reportKeyState e).applier = s.applier ∧ (s.reportKeyState e).trim = s.trim ∧ (s.reportKeyState e).keys = s.keys ∧
      (s.reportKeyState e).checks = s.checks ∧ (s.reportKeyState e).unit = s.unit ∧ (s.reportKeyState e).nv = s.nv ∧
      (s.reportKeyState e).system = s.system ∧ (s.reportKeyState e).pending = s.pending ∧ (s.reportKeyState e).choices = s.choices := by
  unfold State.reportKeyState
  (repeat' split) <;> simp

/-- `beginFixStep` touches keys, nv at most. -/
@[simp] theorem State.beginFixStep_frame (tag : Byte) (count n : Nat) (e : KeyEntry) (step : FixStep) (start : Nat) :
    (s.beginFixStep tag count n e step start).power = s.power ∧ (s.beginFixStep tag count n e step start).grid = s.grid ∧
      (s.beginFixStep tag count n e step start).intake = s.intake ∧ (s.beginFixStep tag count n e step start).seq = s.seq ∧
      (s.beginFixStep tag count n e step start).timing = s.timing ∧ (s.beginFixStep tag count n e step start).region = s.region ∧
      (s.beginFixStep tag count n e step start).applier = s.applier ∧ (s.beginFixStep tag count n e step start).trim = s.trim ∧
      (s.beginFixStep tag count n e step start).checks = s.checks ∧ (s.beginFixStep tag count n e step start).unit = s.unit ∧
      (s.beginFixStep tag count n e step start).station = s.station ∧
      (s.beginFixStep tag count n e step start).system = s.system ∧
      (s.beginFixStep tag count n e step start).pending = s.pending ∧
      (s.beginFixStep tag count n e step start).choices = s.choices := by
  unfold State.beginFixStep
  simp

/-- `nextFixKey` touches keys, nv, unit, station at most. -/
@[simp] theorem State.nextFixKey_frame (tag : Byte) (count : Nat) :
    (s.nextFixKey tag count).power = s.power ∧ (s.nextFixKey tag count).grid = s.grid ∧
      (s.nextFixKey tag count).intake = s.intake ∧ (s.nextFixKey tag count).seq = s.seq ∧
      (s.nextFixKey tag count).timing = s.timing ∧ (s.nextFixKey tag count).region = s.region ∧
      (s.nextFixKey tag count).applier = s.applier ∧ (s.nextFixKey tag count).trim = s.trim ∧
      (s.nextFixKey tag count).checks = s.checks ∧ (s.nextFixKey tag count).system = s.system ∧
      (s.nextFixKey tag count).pending = s.pending ∧ (s.nextFixKey tag count).choices = s.choices := by
  unfold State.nextFixKey
  (repeat' split) <;> simp

/-- `failFix` touches keys, unit, station at most. -/
@[simp] theorem State.failFix_frame (tag : Byte) (count id : Nat) (step : FixStep) (start : Nat) :
    (s.failFix tag count id step start).power = s.power ∧ (s.failFix tag count id step start).grid = s.grid ∧
      (s.failFix tag count id step start).intake = s.intake ∧ (s.failFix tag count id step start).seq = s.seq ∧
      (s.failFix tag count id step start).timing = s.timing ∧ (s.failFix tag count id step start).region = s.region ∧
      (s.failFix tag count id step start).applier = s.applier ∧ (s.failFix tag count id step start).trim = s.trim ∧
      (s.failFix tag count id step start).checks = s.checks ∧ (s.failFix tag count id step start).nv = s.nv ∧
      (s.failFix tag count id step start).system = s.system ∧ (s.failFix tag count id step start).pending = s.pending ∧
      (s.failFix tag count id step start).choices = s.choices := by
  unfold State.failFix
  simp

/-- `fixVerified` touches keys, nv, unit, station at most. -/
@[simp] theorem State.fixVerified_frame (tag : Byte) (count n : Nat) (e : KeyEntry) (step : FixStep) (start : Nat) :
    (s.fixVerified tag count n e step start).power = s.power ∧ (s.fixVerified tag count n e step start).grid = s.grid ∧
      (s.fixVerified tag count n e step start).intake = s.intake ∧ (s.fixVerified tag count n e step start).seq = s.seq ∧
      (s.fixVerified tag count n e step start).timing = s.timing ∧ (s.fixVerified tag count n e step start).region = s.region ∧
      (s.fixVerified tag count n e step start).applier = s.applier ∧ (s.fixVerified tag count n e step start).trim = s.trim ∧
      (s.fixVerified tag count n e step start).checks = s.checks ∧ (s.fixVerified tag count n e step start).system = s.system ∧
      (s.fixVerified tag count n e step start).pending = s.pending ∧ (s.fixVerified tag count n e step start).choices = s.choices := by
  unfold State.fixVerified
  (repeat' split) <;> simp

/-- `takeFixWrite` touches keys, nv, unit, station at most. -/
@[simp] theorem State.takeFixWrite_frame (outcome : WriteOutcome) :
    (s.takeFixWrite outcome).power = s.power ∧ (s.takeFixWrite outcome).grid = s.grid ∧
      (s.takeFixWrite outcome).intake = s.intake ∧ (s.takeFixWrite outcome).seq = s.seq ∧
      (s.takeFixWrite outcome).timing = s.timing ∧ (s.takeFixWrite outcome).region = s.region ∧
      (s.takeFixWrite outcome).applier = s.applier ∧ (s.takeFixWrite outcome).trim = s.trim ∧
      (s.takeFixWrite outcome).checks = s.checks ∧ (s.takeFixWrite outcome).system = s.system ∧
      (s.takeFixWrite outcome).pending = s.pending ∧ (s.takeFixWrite outcome).choices = s.choices := by
  unfold State.takeFixWrite
  dsimp only
  (repeat' split) <;> simp

/-- `takeWithdrawWrite` touches keys, nv, unit, station at most. -/
@[simp] theorem State.takeWithdrawWrite_frame (outcome : WriteOutcome) :
    (s.takeWithdrawWrite outcome).power = s.power ∧ (s.takeWithdrawWrite outcome).grid = s.grid ∧
      (s.takeWithdrawWrite outcome).intake = s.intake ∧ (s.takeWithdrawWrite outcome).seq = s.seq ∧
      (s.takeWithdrawWrite outcome).timing = s.timing ∧ (s.takeWithdrawWrite outcome).region = s.region ∧
      (s.takeWithdrawWrite outcome).applier = s.applier ∧ (s.takeWithdrawWrite outcome).trim = s.trim ∧
      (s.takeWithdrawWrite outcome).checks = s.checks ∧ (s.takeWithdrawWrite outcome).system = s.system ∧
      (s.takeWithdrawWrite outcome).pending = s.pending ∧ (s.takeWithdrawWrite outcome).choices = s.choices := by
  unfold State.takeWithdrawWrite
  dsimp only
  (repeat' split) <;> simp

/-- `beginRecord` touches nv at most. -/
@[simp] theorem State.beginRecord_frame (mark : Mark) (rework : Nat) (serial : List Byte) (identity : Option StationId) :
    (s.beginRecord mark rework serial identity).power = s.power ∧ (s.beginRecord mark rework serial identity).grid = s.grid ∧
      (s.beginRecord mark rework serial identity).intake = s.intake ∧ (s.beginRecord mark rework serial identity).seq = s.seq ∧
      (s.beginRecord mark rework serial identity).timing = s.timing ∧
      (s.beginRecord mark rework serial identity).region = s.region ∧
      (s.beginRecord mark rework serial identity).applier = s.applier ∧
      (s.beginRecord mark rework serial identity).trim = s.trim ∧ (s.beginRecord mark rework serial identity).keys = s.keys ∧
      (s.beginRecord mark rework serial identity).checks = s.checks ∧ (s.beginRecord mark rework serial identity).unit = s.unit ∧
      (s.beginRecord mark rework serial identity).station = s.station ∧
      (s.beginRecord mark rework serial identity).system = s.system ∧
      (s.beginRecord mark rework serial identity).pending = s.pending ∧
      (s.beginRecord mark rework serial identity).choices = s.choices := by
  unfold State.beginRecord
  simp

/-- `enterOpen` touches grid, intake, seq, timing, region, applier, trim, unit, station at most. -/
@[simp] theorem State.enterOpen_frame (given : Nat) :
    (s.enterOpen given).power = s.power ∧ (s.enterOpen given).keys = s.keys ∧ (s.enterOpen given).checks = s.checks ∧
      (s.enterOpen given).nv = s.nv ∧ (s.enterOpen given).system = s.system ∧ (s.enterOpen given).pending = s.pending ∧
      (s.enterOpen given).choices = s.choices := by
  unfold State.enterOpen
  simp

/-- `replyOpened` touches station at most. -/
@[simp] theorem State.replyOpened_frame (tag : Byte) :
    (s.replyOpened tag).power = s.power ∧ (s.replyOpened tag).grid = s.grid ∧ (s.replyOpened tag).intake = s.intake ∧
      (s.replyOpened tag).seq = s.seq ∧ (s.replyOpened tag).timing = s.timing ∧ (s.replyOpened tag).region = s.region ∧
      (s.replyOpened tag).applier = s.applier ∧ (s.replyOpened tag).trim = s.trim ∧ (s.replyOpened tag).keys = s.keys ∧
      (s.replyOpened tag).checks = s.checks ∧ (s.replyOpened tag).unit = s.unit ∧ (s.replyOpened tag).nv = s.nv ∧
      (s.replyOpened tag).system = s.system ∧ (s.replyOpened tag).pending = s.pending ∧ (s.replyOpened tag).choices = s.choices := by
  unfold State.replyOpened
  simp

/-- `takeOpenWrite` touches grid, intake, seq, timing, region, applier, trim, unit, nv, station at most. -/
@[simp] theorem State.takeOpenWrite_frame (outcome : WriteOutcome) :
    (s.takeOpenWrite outcome).power = s.power ∧ (s.takeOpenWrite outcome).keys = s.keys ∧
      (s.takeOpenWrite outcome).checks = s.checks ∧ (s.takeOpenWrite outcome).system = s.system ∧
      (s.takeOpenWrite outcome).pending = s.pending ∧ (s.takeOpenWrite outcome).choices = s.choices := by
  unfold State.takeOpenWrite
  dsimp only
  (repeat' split) <;> simp

/-- `commitAt` touches unit at most. -/
@[simp] theorem State.commitAt_frame (tag : Byte) (step : CommitStep) :
    (s.commitAt tag step).power = s.power ∧ (s.commitAt tag step).grid = s.grid ∧ (s.commitAt tag step).intake = s.intake ∧
      (s.commitAt tag step).seq = s.seq ∧ (s.commitAt tag step).timing = s.timing ∧ (s.commitAt tag step).region = s.region ∧
      (s.commitAt tag step).applier = s.applier ∧ (s.commitAt tag step).trim = s.trim ∧ (s.commitAt tag step).keys = s.keys ∧
      (s.commitAt tag step).checks = s.checks ∧ (s.commitAt tag step).nv = s.nv ∧ (s.commitAt tag step).station = s.station ∧
      (s.commitAt tag step).system = s.system ∧ (s.commitAt tag step).pending = s.pending ∧
      (s.commitAt tag step).choices = s.choices := by
  unfold State.commitAt
  simp

/-- `commitNext` touches unit, nv at most. -/
@[simp] theorem State.commitNext_frame (tag : Byte) (step : CommitStep) :
    (s.commitNext tag step).power = s.power ∧ (s.commitNext tag step).grid = s.grid ∧ (s.commitNext tag step).intake = s.intake ∧
      (s.commitNext tag step).seq = s.seq ∧ (s.commitNext tag step).timing = s.timing ∧
      (s.commitNext tag step).region = s.region ∧ (s.commitNext tag step).applier = s.applier ∧
      (s.commitNext tag step).trim = s.trim ∧ (s.commitNext tag step).keys = s.keys ∧ (s.commitNext tag step).checks = s.checks ∧
      (s.commitNext tag step).station = s.station ∧ (s.commitNext tag step).system = s.system ∧
      (s.commitNext tag step).pending = s.pending ∧ (s.commitNext tag step).choices = s.choices := by
  unfold State.commitNext
  (repeat' split) <;> simp

/-- `completeCommit` touches region, applier, trim, unit at most. -/
@[simp] theorem State.completeCommit_frame (identity : Option StationId) :
    (s.completeCommit identity).power = s.power ∧ (s.completeCommit identity).grid = s.grid ∧
      (s.completeCommit identity).intake = s.intake ∧ (s.completeCommit identity).seq = s.seq ∧
      (s.completeCommit identity).timing = s.timing ∧ (s.completeCommit identity).keys = s.keys ∧
      (s.completeCommit identity).checks = s.checks ∧ (s.completeCommit identity).nv = s.nv ∧
      (s.completeCommit identity).station = s.station ∧ (s.completeCommit identity).system = s.system ∧
      (s.completeCommit identity).pending = s.pending ∧ (s.completeCommit identity).choices = s.choices := by
  unfold State.completeCommit
  simp

/-- `replyClosed` touches station at most. -/
@[simp] theorem State.replyClosed_frame (tag : Byte) :
    (s.replyClosed tag).power = s.power ∧ (s.replyClosed tag).grid = s.grid ∧ (s.replyClosed tag).intake = s.intake ∧
      (s.replyClosed tag).seq = s.seq ∧ (s.replyClosed tag).timing = s.timing ∧ (s.replyClosed tag).region = s.region ∧
      (s.replyClosed tag).applier = s.applier ∧ (s.replyClosed tag).trim = s.trim ∧ (s.replyClosed tag).keys = s.keys ∧
      (s.replyClosed tag).checks = s.checks ∧ (s.replyClosed tag).unit = s.unit ∧ (s.replyClosed tag).nv = s.nv ∧
      (s.replyClosed tag).system = s.system ∧ (s.replyClosed tag).pending = s.pending ∧ (s.replyClosed tag).choices = s.choices := by
  unfold State.replyClosed
  simp

/-- `failCommit` touches grid, timing, region, unit, station at most. -/
@[simp] theorem State.failCommit_frame (tag : Byte) (step : CommitStep) :
    (s.failCommit tag step).power = s.power ∧ (s.failCommit tag step).intake = s.intake ∧ (s.failCommit tag step).seq = s.seq ∧
      (s.failCommit tag step).applier = s.applier ∧ (s.failCommit tag step).trim = s.trim ∧
      (s.failCommit tag step).keys = s.keys ∧ (s.failCommit tag step).checks = s.checks ∧ (s.failCommit tag step).nv = s.nv ∧
      (s.failCommit tag step).system = s.system ∧ (s.failCommit tag step).pending = s.pending ∧
      (s.failCommit tag step).choices = s.choices := by
  unfold State.failCommit
  simp

/-- `takeCommitWrite` touches grid, timing, region, applier, trim, unit, nv, station at most. -/
@[simp] theorem State.takeCommitWrite_frame (outcome : WriteOutcome) :
    (s.takeCommitWrite outcome).power = s.power ∧ (s.takeCommitWrite outcome).intake = s.intake ∧
      (s.takeCommitWrite outcome).seq = s.seq ∧ (s.takeCommitWrite outcome).keys = s.keys ∧
      (s.takeCommitWrite outcome).checks = s.checks ∧ (s.takeCommitWrite outcome).system = s.system ∧
      (s.takeCommitWrite outcome).pending = s.pending ∧ (s.takeCommitWrite outcome).choices = s.choices := by
  unfold State.takeCommitWrite
  dsimp only
  (repeat' split) <;> simp

/-- `completeReopen` touches grid, seq, timing, region, applier, trim, unit, station at most. -/
@[simp] theorem State.completeReopen_frame :
    (s.completeReopen).power = s.power ∧ (s.completeReopen).intake = s.intake ∧ (s.completeReopen).keys = s.keys ∧
      (s.completeReopen).checks = s.checks ∧ (s.completeReopen).nv = s.nv ∧ (s.completeReopen).system = s.system ∧
      (s.completeReopen).pending = s.pending ∧ (s.completeReopen).choices = s.choices := by
  unfold State.completeReopen
  simp

/-- `takeReopenWrite` touches grid, seq, timing, region, applier, trim, unit, nv, station at most. -/
@[simp] theorem State.takeReopenWrite_frame (outcome : WriteOutcome) :
    (s.takeReopenWrite outcome).power = s.power ∧ (s.takeReopenWrite outcome).intake = s.intake ∧
      (s.takeReopenWrite outcome).keys = s.keys ∧ (s.takeReopenWrite outcome).checks = s.checks ∧
      (s.takeReopenWrite outcome).system = s.system ∧ (s.takeReopenWrite outcome).pending = s.pending ∧
      (s.takeReopenWrite outcome).choices = s.choices := by
  unfold State.takeReopenWrite
  dsimp only
  (repeat' split) <;> simp

/-- `refuseKind` touches station, system at most. -/
@[simp] theorem State.refuseKind_frame (p : Port) (kind tag : Byte) (status : Status) :
    (s.refuseKind p kind tag status).power = s.power ∧ (s.refuseKind p kind tag status).grid = s.grid ∧
      (s.refuseKind p kind tag status).intake = s.intake ∧ (s.refuseKind p kind tag status).seq = s.seq ∧
      (s.refuseKind p kind tag status).timing = s.timing ∧ (s.refuseKind p kind tag status).region = s.region ∧
      (s.refuseKind p kind tag status).applier = s.applier ∧ (s.refuseKind p kind tag status).trim = s.trim ∧
      (s.refuseKind p kind tag status).keys = s.keys ∧ (s.refuseKind p kind tag status).checks = s.checks ∧
      (s.refuseKind p kind tag status).unit = s.unit ∧ (s.refuseKind p kind tag status).nv = s.nv ∧
      (s.refuseKind p kind tag status).pending = s.pending ∧ (s.refuseKind p kind tag status).choices = s.choices := by
  unfold State.refuseKind
  simp

/-- `discardFrame` touches station at most. -/
@[simp] theorem State.discardFrame_frame (p : Port) (reason : FrameFault) (received : Nat) (length : Option Nat) :
    (s.discardFrame p reason received length).power = s.power ∧ (s.discardFrame p reason received length).grid = s.grid ∧
      (s.discardFrame p reason received length).intake = s.intake ∧ (s.discardFrame p reason received length).seq = s.seq ∧
      (s.discardFrame p reason received length).timing = s.timing ∧ (s.discardFrame p reason received length).region = s.region ∧
      (s.discardFrame p reason received length).applier = s.applier ∧ (s.discardFrame p reason received length).trim = s.trim ∧
      (s.discardFrame p reason received length).keys = s.keys ∧ (s.discardFrame p reason received length).checks = s.checks ∧
      (s.discardFrame p reason received length).unit = s.unit ∧ (s.discardFrame p reason received length).nv = s.nv ∧
      (s.discardFrame p reason received length).system = s.system ∧
      (s.discardFrame p reason received length).pending = s.pending ∧
      (s.discardFrame p reason received length).choices = s.choices := by
  unfold State.discardFrame
  split <;> simp

/-- `abandon` touches station, system at most. -/
@[simp] theorem State.abandon_frame (p : Port) (reason : FrameFault) (received : Nat) (length : Option Nat) :
    (s.abandon p reason received length).power = s.power ∧ (s.abandon p reason received length).grid = s.grid ∧
      (s.abandon p reason received length).intake = s.intake ∧ (s.abandon p reason received length).seq = s.seq ∧
      (s.abandon p reason received length).timing = s.timing ∧ (s.abandon p reason received length).region = s.region ∧
      (s.abandon p reason received length).applier = s.applier ∧ (s.abandon p reason received length).trim = s.trim ∧
      (s.abandon p reason received length).keys = s.keys ∧ (s.abandon p reason received length).checks = s.checks ∧
      (s.abandon p reason received length).unit = s.unit ∧ (s.abandon p reason received length).nv = s.nv ∧
      (s.abandon p reason received length).pending = s.pending ∧ (s.abandon p reason received length).choices = s.choices := by
  unfold State.abandon
  simp

/-- `keepByte` touches station, system at most. -/
@[simp] theorem State.keepByte_frame (p : Port) (buffer : List Byte) (stage : RxStage) :
    (s.keepByte p buffer stage).power = s.power ∧ (s.keepByte p buffer stage).grid = s.grid ∧
      (s.keepByte p buffer stage).intake = s.intake ∧ (s.keepByte p buffer stage).seq = s.seq ∧
      (s.keepByte p buffer stage).timing = s.timing ∧ (s.keepByte p buffer stage).region = s.region ∧
      (s.keepByte p buffer stage).applier = s.applier ∧ (s.keepByte p buffer stage).trim = s.trim ∧
      (s.keepByte p buffer stage).keys = s.keys ∧ (s.keepByte p buffer stage).checks = s.checks ∧
      (s.keepByte p buffer stage).unit = s.unit ∧ (s.keepByte p buffer stage).nv = s.nv ∧
      (s.keepByte p buffer stage).pending = s.pending ∧ (s.keepByte p buffer stage).choices = s.choices := by
  unfold State.keepByte
  simp

end

end Sys2Proof.Machine
end

