-- ==== Sys2Proof/Laws/Ops.lean ====
section
/-! SUPPORT. What each shared operation does to the block it works on, said once: replies and reports, the store's writes, the region unit's
recomputations, restarts and what they discard, a boundary's end of a patch. -/

namespace Sys2Proof.Machine

/-! ### Replies and reports (R180, R182) -/

/-- A reply on the station port joins its queue at the tail. -/
@[simp] theorem State.reply_station (s : State) (kind tag : Byte) (status : Status) (fields : List Byte) :
    (s.reply .station kind tag status fields).station =
      { s.station with replies := s.station.replies ++ [replyFrame kind tag status fields] } := rfl

/-- A reply on the system port joins its queue at the tail. -/
@[simp] theorem State.reply_system (s : State) (kind tag : Byte) (status : Status) (fields : List Byte) :
    (s.reply .system kind tag status fields).system =
      { s.system with replies := s.system.replies ++ [replyFrame kind tag status fields] } := rfl

/-- A report touches no reply and no transmission, and never leaves more than 16 reports waiting. -/
@[simp] theorem State.report_station (s : State) (kind : Byte) (payload : List Byte) :
    (s.report kind payload).station.replies = s.station.replies ∧ (s.report kind payload).station.sending = s.station.sending ∧
      (s.report kind payload).station.stage = s.station.stage ∧ (s.report kind payload).station.buffer = s.station.buffer ∧
      (s.report kind payload).station.gapRunning = s.station.gapRunning := by
  unfold State.report State.emit
  split <;> simp

/-- The report queue keeps its capacity (R182). -/
theorem State.report_capacity (s : State) (kind : Byte) (payload : List Byte) (h : s.station.reports.length ≤ 16) :
    (s.report kind payload).station.reports.length ≤ 16 := by
  unfold State.report State.emit
  split <;> simp <;> omega

/-! ### The arbiters (R181) -/

/-- All that a port's arbiter can do: nothing at a port that sends or has nothing waiting, else begin the reply at the head of the reply
queue, or with none waiting the report at the head of the report queue. -/
theorem State.arbitratePort_cases (s : State) (p : Port) :
    (s.arbitratePort p = s ∧
        ((s.port p).sending.isSome = true ∨ (s.port p).replies = [] ∧ (p = .station → s.station.reports = []))) ∨
      ((s.port p).sending = none ∧ (s.port p).replies ≠ [] ∧ s.arbitratePort p = s.beginReply p) ∨
      (p = .station ∧ s.station.sending = none ∧ s.station.replies = [] ∧ s.station.reports ≠ [] ∧
        s.arbitratePort p = s.beginReport) := by
  unfold State.arbitratePort State.serveNext
  cases p with
  | station =>
    by_cases sending : s.station.sending = none <;> by_cases replies : s.station.replies = [] <;>
      by_cases reports : s.station.reports = [] <;> simp_all [State.port, State.beginReport, Option.isSome_iff_ne_none]
  | system =>
    by_cases sending : s.system.sending = none <;> by_cases replies : s.system.replies = [] <;>
      simp_all [State.port, State.beginReply, Option.isSome_iff_ne_none]

/-- A port's arbiter only takes frames from queues. -/
theorem State.arbitratePort_shrinks (s : State) (p : Port) :
    (s.arbitratePort p).station.replies.length ≤ s.station.replies.length ∧
      (s.arbitratePort p).station.reports.length ≤ s.station.reports.length ∧
      (s.arbitratePort p).system.replies.length ≤ s.system.replies.length := by
  obtain ⟨e, _⟩ | ⟨_, _, e⟩ | ⟨rfl, _, _, _, e⟩ := s.arbitratePort_cases p <;> rw [e]
  · simp
  · unfold State.beginReply
    cases p <;> (dsimp only; split <;> simp_all [State.port, State.setPort])
  · unfold State.beginReport
    split <;> simp_all

/-- With nothing to start the arbiters do nothing. -/
theorem State.arbitrate_idle (s : State) (station : s.station.sending = none → s.station.replies = [] ∧ s.station.reports = [])
    (system : s.system.sending = none → s.system.replies = []) : s.arbitrate = s := by
  have first : s.arbitratePort .station = s := by
    obtain ⟨e, _⟩ | ⟨free, some, _⟩ | ⟨_, free, _, some, _⟩ := s.arbitratePort_cases .station
    · exact e
    · exact absurd (station free).1 some
    · exact absurd (station free).2 some
  unfold State.arbitrate
  rw [first]
  obtain ⟨e, _⟩ | ⟨free, some, _⟩ | ⟨no, _⟩ := s.arbitratePort_cases .system
  · exact e
  · exact absurd (system free) some
  · exact absurd no (by simp)

/-- The arbiters only take frames from queues. -/
theorem State.arbitrate_shrinks (s : State) :
    s.arbitrate.station.replies.length ≤ s.station.replies.length ∧ s.arbitrate.station.reports.length ≤ s.station.reports.length ∧
      s.arbitrate.system.replies.length ≤ s.system.replies.length := by
  have first := s.arbitratePort_shrinks .station
  have second := (s.arbitratePort .station).arbitratePort_shrinks .system
  unfold State.arbitrate
  omega

/-! ### What reaches grid memory (R13) -/

/-- All that can happen to a request of grid memory: taken with no row in process, else held, or refused BUSY beside four held (R13). -/
theorem State.takeOrHold_cases (s : State) (kind tag : Byte) (item : HeldItem) :
    (s.intake.inProcess = none ∧ s.takeOrHold kind tag item = s.takeHeldItem item) ∨
      (s.intake.inProcess.isSome = true ∧ s.grid.heldRequests < 4 ∧
        s.takeOrHold kind tag item = s.setGrid { s.grid with held := s.grid.held ++ [item] }) ∨
      (s.intake.inProcess.isSome = true ∧ 4 ≤ s.grid.heldRequests ∧
        s.takeOrHold kind tag item = s.refuse .station kind tag .busy) := by
  unfold State.takeOrHold State.hold
  cases row : s.intake.inProcess
  · simp
  · by_cases room : s.grid.heldRequests < 4 <;> simp [room] ; omega

/-- What a region change does to grid memory: it is taken, or held by a row in process (R13). -/
theorem State.takeCeiling_grid (s : State) (limit : Option Nat) :
    (s.intake.inProcess = none ∧ (s.takeCeiling limit).grid = s.grid.retarget s.grid.aims limit) ∨
      (s.intake.inProcess.isSome = true ∧ (s.takeCeiling limit).grid = { s.grid with held := Machine.holdCeiling limit s.grid.held }) := by
  unfold State.takeCeiling
  cases row : s.intake.inProcess <;> simp [State.takeHeldItem, State.holdCeiling]

/-! ### The next row (R55, R127) -/

/-- What a completion leaves in the intake: the next row begun, or, with none queued or a marker read at the same moment, none. -/
theorem State.completeRow_intake (s : State) (r : RowInProcess) :
    (s.markerWaits = true ∨ s.intake.queue = [] → (s.completeRow r).intake = { s.intake with inProcess := none }) ∧
      (∀ row rest, s.markerWaits = false → s.intake.queue = row :: rest →
        ∃ begun : RowInProcess, begun.row = row ∧ begun.column = 0 ∧ begun.tally = .zero ∧
          (s.completeRow r).intake = { s.intake with queue := rest, inProcess := some begun }) := by
  unfold State.completeRow State.advanceRows State.beginRow
  constructor
  · rintro (waits | empty)
    · simp [waits]
    · by_cases waits : s.markerWaits = true <;> simp [waits, empty]
  · intro row rest waits queue
    simp only [waits, queue, State.setIntake_intake, State.takeHeld_frame, State.setSeq_intake, State.reply_frame, Option.isSome_none,
      Bool.false_eq_true, if_false]
    exact ⟨_, rfl, rfl, rfl, rfl⟩

/-! ### Writes to the store (R159, R160) -/

/-- A write that has ended is no longer in flight. -/
@[simp] theorem NvStore.endWrite_write (nv : NvStore) (outcome : WriteOutcome) : (nv.endWrite outcome).write = none := by
  unfold NvStore.endWrite
  (repeat' split) <;> simp_all

/-- A write to the key area leaves the copies and records as they are, and its bytes in the area. -/
theorem NvStore.endWrite_keyArea {nv : NvStore} {offset : Nat} {data : List Byte}
    (h : nv.write = some { place := .keyArea offset, data := data }) (outcome : WriteOutcome) :
    nv.endWrite outcome = { nv with keyArea := Cells.writeAll nv.keyArea offset (landed outcome data), write := none } := by
  unfold NvStore.endWrite
  rw [h]

/-- A write elsewhere leaves the key area as it is. -/
theorem NvStore.endWrite_elsewhere {nv : NvStore} {w : NvWrite} (h : nv.write = some w) (place : ∀ offset, w.place ≠ .keyArea offset)
    (outcome : WriteOutcome) : (nv.endWrite outcome).keyArea = nv.keyArea := by
  unfold NvStore.endWrite
  rw [h]
  dsimp only
  split <;> simp_all

/-! ### The region unit's recomputations (R113, R116, R117) -/

/-- CURRENT is recomputed in phase OPEN alone. -/
@[simp] theorem State.recomputeCurrent_region (s : State) :
    s.recomputeCurrent.region =
      if s.unit.phase = .opened then { s.region with current := s.region.computed } else s.region := by
  unfold State.recomputeCurrent
  dsimp only
  (repeat' split) <;> simp_all

/-- The unknown condition becomes what R117 makes of the unit's phase, GIVEN, SENSED and the profiles. -/
@[simp] theorem State.recomputeUnknown_region (s : State) :
    s.recomputeUnknown.region =
      { s.region with
        unknown :=
          unknownCondition s.unit.phase s.region.given s.region.sensedValid (s.region.profileFor s.region.sensed).isSome } := by
  unfold State.recomputeUnknown
  dsimp only
  split <;> simp

/-- The conflict flag becomes what R116 makes of GIVEN and SENSED. -/
@[simp] theorem State.recomputeConflict_region (s : State) :
    s.recomputeConflict.region =
      { s.region with conflict := conflictFlag s.region.given s.region.sensed s.region.sensedValid } := by
  unfold State.recomputeConflict
  dsimp only
  split <;> simp

/-- A profile is looked up among the slots and the committed profile alone. -/
theorem Region.profileFor_congr {r r' : Region} (slots : r'.slots = r.slots) (committed : r'.committed = r.committed) :
    r'.profileFor = r.profileFor := by
  funext code
  simp [Region.profileFor, slots, committed]

/-- CURRENT's computation reads GIVEN, SENSED and the profiles alone. -/
theorem Region.computed_congr {r r' : Region} (slots : r'.slots = r.slots) (committed : r'.committed = r.committed)
    (given : r'.given = r.given) (sensed : r'.sensed = r.sensed) (valid : r'.sensedValid = r.sensedValid) :
    r'.computed = r.computed := by
  simp [Region.computed, Region.profileFor_congr slots committed, given, sensed, valid]

/-- After a settling, in phase OPEN, CURRENT and the unknown condition agree with GIVEN, SENSED and the profiles. -/
theorem State.settleCurrent_region (s : State) :
    s.settleCurrent.region =
      { s.region with
        current := if s.unit.phase = .opened then s.region.computed else s.region.current
        unknown :=
          unknownCondition s.unit.phase s.region.given s.region.sensedValid (s.region.profileFor s.region.sensed).isSome } := by
  unfold State.settleCurrent
  split <;> simp [*, Region.profileFor]

/-- After a full settling the conflict flag agrees too. -/
theorem State.settleRegion_region (s : State) :
    s.settleRegion.region =
      { s.region with
        current := if s.unit.phase = .opened then s.region.computed else s.region.current
        unknown :=
          unknownCondition s.unit.phase s.region.given s.region.sensedValid (s.region.profileFor s.region.sensed).isSome
        conflict := conflictFlag s.region.given s.region.sensed s.region.sensedValid } := by
  simp [State.settleRegion, State.settleCurrent_region]

/-- What a settling does to grid memory: nothing, or the region change is taken, or a row in process has it held (R13, R115). -/
theorem State.settleCurrent_grid (s : State) :
    s.settleCurrent.grid = s.grid ∨
      ∃ limit, (s.intake.inProcess = none ∧ s.settleCurrent.grid = s.grid.retarget s.grid.aims limit) ∨
        s.intake.inProcess.isSome = true ∧ s.settleCurrent.grid = { s.grid with held := Machine.holdCeiling limit s.grid.held } := by
  unfold State.settleCurrent
  simp only [State.recomputeUnknown_frame]
  unfold State.recomputeCurrent
  split
  · dsimp only
    split
    · refine .inr ⟨s.region.computed.map (·.profile.ceiling), ?_⟩
      have := State.takeCeiling_grid
        (State.takeRate (s.setRegion { s.region with current := s.region.computed }) (Region.rate { s.region with current := s.region.computed }))
        (s.region.computed.map (·.profile.ceiling))
      simpa [State.informReaders, Region.ceiling] using this
    · exact .inl (by simp)
  · exact .inl rfl

/-! ### Restarts (R16) -/

/-- A row's DISCARDED reply joins the station port's queue, for every row in order (R57). -/
theorem State.replyDiscardedAll_replies (rows : List Row) (s : State) :
    (rows.foldl State.replyDiscarded s).station =
      { s.station with
        replies := s.station.replies ++ rows.map (fun row =>
          replyFrame kindMeasure row.frameTag .discarded
            (measureFields row.patchTag row.row row.showNumber row.slice .zero false)) } := by
  induction rows generalizing s with
  | nil => simp
  | cons row rest ih => simp [ih, State.replyDiscarded]

/-- A restart's parts: grid memory, the sequencer, the intake, the DISCARDED replies. -/
theorem State.restart_parts (s : State) (scope : RestartScope) :
    (s.restart scope).grid = s.grid.restarted scope ∧ (s.restart scope).seq = s.seq.restarted scope ∧
      (s.restart scope).intake = s.intake.without scope ∧
      (s.restart scope).station =
        { s.station with
          replies := s.station.replies ++ (s.intake.discarded scope).map (fun row =>
            replyFrame kindMeasure row.frameTag .discarded
              (measureFields row.patchTag row.row row.showNumber row.slice .zero false)) } := by
  simp [State.restart, State.restartRecords, State.replyDiscardedAll_frame, State.replyDiscardedAll_replies]

/-! ### Grid memory -/

/-- Only a change of trims touches the trim output, and only its dirty flag (R104). -/
@[simp] theorem State.putZones_grid (s : State) (zones : List ZoneRec) : (s.putZones zones).grid = { s.grid with zones := zones } := rfl

/-- The grid a new tuning record leaves (R7). -/
@[simp] theorem State.retune_grid (s : State) (t : Tuning) :
    (s.retune t).grid =
      { s.grid with
        tuning := t
        colour := s.grid.colour.map (fun slice => slice.map (NodeRec.reclamped t s.seq.showNumber))
        zones := s.grid.zones.map (ZoneRec.reclamped t s.seq.showNumber)
        sticky := s.grid.reclampedSticky t } := rfl

/-- The grid a taken pin leaves (R11, R12). -/
@[simp] theorem State.takePin_grid (s : State) (slice node value : Nat) :
    (s.takePin slice node value).grid =
      { s.grid.putNode slice node ((s.grid.node slice node).pinned s.grid.tuning s.seq.showNumber value) with
        sticky := stickyAfter s.grid.sticky slice ((s.grid.node slice node).unpinMoves s.grid.tuning value) } := rfl

/-- A held region change never adds a held request (R13). -/
@[simp] theorem holdCeiling_requests (limit : Option Nat) (items : List HeldItem) :
    (holdCeiling limit items).countP HeldItem.isRequest = items.countP HeldItem.isRequest := by
  induction items with
  | nil => rfl
  | cons item rest ih => cases item <;> simp [holdCeiling, ih, List.countP_cons, HeldItem.isRequest]

/-- What is held after a region change is what was held, or the region change. -/
theorem mem_holdCeiling {limit : Option Nat} {items : List HeldItem} {x : HeldItem} (h : x ∈ holdCeiling limit items) :
    x = .ceiling limit ∨ x ∈ items := by
  induction items with
  | nil => simp_all [holdCeiling]
  | cons item rest ih => cases item <;> simp_all [holdCeiling] <;> grind

/-- A node of a grid in which one node was replaced is that node or one that was there before. -/
theorem Grid.mem_putNode {g : Grid} {slice n : Nat} {r x : NodeRec} {records : List NodeRec}
    (h : records ∈ (g.putNode slice n r).colour) (hx : x ∈ records) : x = r ∨ ∃ old ∈ g.colour, x ∈ old := by
  unfold Grid.putNode at h
  rcases List.mem_or_eq_of_mem_set h with h | h
  · exact .inr ⟨records, h, hx⟩
  · subst h
    rcases List.mem_or_eq_of_mem_set hx with hx | hx
    · unfold Grid.slice at hx
      by_cases hs : slice < g.colour.length
      · rw [List.getD_eq_getElem _ _ hs] at hx
        exact .inr ⟨_, List.getElem_mem hs, hx⟩
      · rw [List.getD_eq_default _ _ (by omega)] at hx
        simp at hx
    · exact .inl hx

/-- A node read from the grid is one of its records, or a fresh one where there is none. -/
theorem Grid.node_mem (g : Grid) (slice n : Nat) : g.node slice n = .fresh ∨ ∃ records ∈ g.colour, g.node slice n ∈ records := by
  unfold Grid.node Grid.slice
  by_cases hs : slice < g.colour.length
  · rw [List.getD_eq_getElem _ _ hs]
    by_cases hn : n < (g.colour[slice]).length
    · rw [List.getD_eq_getElem _ _ hn]
      exact .inr ⟨_, List.getElem_mem hs, List.getElem_mem hn⟩
    · rw [List.getD_eq_default _ _ (by omega)]
      exact .inl rfl
  · rw [List.getD_eq_default g.colour _ (by omega)]
    exact .inl rfl

/-- A record of a retargeted slice is a record as it was, or one retargeted (R10). -/
theorem Grid.mem_retarget {g : Grid} {aims : List Nat} {ceiling : Option Nat} {records : List NodeRec} {x : NodeRec}
    (h : records ∈ (g.retarget aims ceiling).colour) (hx : x ∈ records) :
    ∃ old ∈ g.colour, ∃ y ∈ old, x = y ∨ x = y.retargeted := by
  unfold Grid.retarget at h
  dsimp only at h
  obtain ⟨i, hi, rfl⟩ := List.getElem_of_mem h
  simp only [List.length_zipWith] at hi
  rw [List.getElem_zipWith] at hx
  split at hx
  · obtain ⟨y, hy, rfl⟩ := List.mem_map.mp hx
    exact ⟨_, List.getElem_mem (by omega), y, hy, .inr rfl⟩
  · exact ⟨_, List.getElem_mem (by omega), x, hx, .inl rfl⟩

/-- A zone of a retargeted grid is a zone as it was, or one retargeted (R10). -/
theorem Grid.mem_retarget_zones {g : Grid} {aims : List Nat} {ceiling : Option Nat} {z : ZoneRec}
    (h : z ∈ (g.retarget aims ceiling).zones) : ∃ y ∈ g.zones, z = y ∨ z = y.retargeted := by
  unfold Grid.retarget at h
  dsimp only at h
  split at h
  · obtain ⟨y, hy, rfl⟩ := List.mem_map.mp h
    exact ⟨y, hy, .inr rfl⟩
  · exact ⟨z, h, .inl rfl⟩

/-- A record of a restarted grid is a record as it was, or one restarted (R16). -/
theorem Grid.mem_restarted {g : Grid} {scope : RestartScope} {records : List NodeRec} {x : NodeRec}
    (h : records ∈ (g.restarted scope).colour) (hx : x ∈ records) : ∃ old ∈ g.colour, ∃ y ∈ old, x = y ∨ x = y.restarted := by
  unfold Grid.restarted at h
  dsimp only at h
  obtain ⟨i, hi, rfl⟩ := List.getElem_of_mem h
  simp only [List.length_zipWith] at hi
  rw [List.getElem_zipWith] at hx
  split at hx
  · obtain ⟨y, hy, rfl⟩ := List.mem_map.mp hx
    exact ⟨_, List.getElem_mem (by omega), y, hy, .inr rfl⟩
  · exact ⟨_, List.getElem_mem (by omega), x, hx, .inl rfl⟩

/-! ### Rounding and limits -/

/-- A value brought into limits lies within them. -/
theorem clampNat_within {lo hi : Nat} (x : Nat) (h : lo ≤ hi) : lo ≤ clampNat lo hi x ∧ clampNat lo hi x ≤ hi := by
  unfold clampNat
  (repeat' split) <;> omega

/-- A value within limits stays. -/
theorem clampNat_of_within {lo hi x : Nat} (h1 : lo ≤ x) (h2 : x ≤ hi) : clampNat lo hi x = x := by
  unfold clampNat
  (repeat' split) <;> omega

/-- A value brought into limits lies within them. -/
theorem clampInt_within {lo hi : Int} (x : Int) (h : lo ≤ hi) : lo ≤ clampInt lo hi x ∧ clampInt lo hi x ≤ hi := by
  unfold clampInt
  (repeat' split) <;> omega

/-- A rounded quotient has the sign of its numerator, and its product with the divisor misses the numerator by half the divisor at
most (00 "Rounding"). -/
theorem roundDiv_spec (n : Int) {d : Nat} (h : 0 < d) :
    (0 ≤ n → 0 ≤ roundDiv n d) ∧ (n ≤ 0 → roundDiv n d ≤ 0) ∧ 2 * (roundDiv n d * d - n).natAbs ≤ d := by
  have low := Nat.div_mul_le_self (2 * n.natAbs + d) (2 * d)
  have high := Nat.lt_div_mul_add (a := 2 * n.natAbs + d) (b := 2 * d) (by omega)
  generalize hq : (2 * n.natAbs + d) / (2 * d) = q at *
  have e : q * (2 * d) = 2 * (q * d) := by ring
  rw [e] at low high
  unfold roundDiv
  simp only [hq]
  have cast : ((q * d : Nat) : Int) = (q : Int) * d := by push_cast; rfl
  split
  · refine ⟨by omega, by omega, ?_⟩
    have : -(q : Int) * d - n = -((q * d : Nat) : Int) - n := by rw [cast]; ring
    rw [this]
    omega
  · refine ⟨by omega, ?_, ?_⟩
    · intro hn
      have : q = 0 := by
        by_contra hne
        have : 1 * d ≤ q * d := Nat.mul_le_mul_right d (by omega)
        omega
      omega
    · rw [← cast]
      omega

/-- The error of a count lies within -4096 to +4096 (R29). -/
theorem errorOf_bounded (aim m : Nat) : (errorOf aim m).natAbs ≤ 4096 := by
  have := clampInt_within (lo := -4096) (hi := 4096) (roundDiv (((aim : Int) - m) * 4096) aim) (by omega)
  unfold errorOf
  omega

end Sys2Proof.Machine
end

