-- ==== Sys2Proof/Laws/Cells.lean ====
section
/-! SUPPORT. The key area's memory: reading after writing, that a write leaves every other byte alone, that no write makes a written byte
blank, and that every operation on it keeps the canonical form. -/

namespace Sys2Proof.Machine

/-! ### Reading after writing -/

/-- Reading the byte just entered. -/
@[simp] theorem Cells.read_put_self (cells : List Host.Cell) (x : Nat) (b : Byte) : Cells.read (Cells.put cells x b) x = b := by
  induction cells with
  | nil => simp [Cells.put, Cells.read]
  | cons c rest ih =>
    obtain ⟨a, v⟩ := c
    unfold Cells.put
    split
    · simp [Cells.read]
    · split
      · simp [Cells.read]
      · have : a ≠ x := by omega
        simp [Cells.read, this, ih]

/-- Entering a byte leaves every other byte alone. -/
theorem Cells.read_put_ne (cells : List Host.Cell) {x y : Nat} (b : Byte) (h : x ≠ y) :
    Cells.read (Cells.put cells x b) y = Cells.read cells y := by
  induction cells with
  | nil => simp [Cells.put, Cells.read, h]
  | cons c rest ih =>
    obtain ⟨a, v⟩ := c
    unfold Cells.put
    split
    · simp [Cells.read, h]
    · split
      · rename_i e
        subst e
        simp [Cells.read, h]
      · simp [Cells.read, ih]

/-- A byte of the area that is written and not made blank reads as written (R133). -/
theorem Cells.read_write_self (cells : List Host.Cell) {x : Nat} {b : Byte} (h : x < areaSize) (hb : b ≠ blank) :
    Cells.read (Cells.write cells x b) x = b := by
  unfold Cells.write
  rw [if_neg (by rintro (e | e); exact hb e; omega)]
  simp

/-- A write leaves every other byte alone. -/
theorem Cells.read_write_ne (cells : List Host.Cell) {x y : Nat} (b : Byte) (h : x ≠ y) :
    Cells.read (Cells.write cells x b) y = Cells.read cells y := by
  unfold Cells.write
  split
  · rfl
  · exact Cells.read_put_ne cells b h

/-- A run of writes leaves every byte outside it alone. -/
theorem Cells.read_writeAll_outside (bytes : List Byte) (cells : List Host.Cell) {x y : Nat} (h : y < x ∨ x + bytes.length ≤ y) :
    Cells.read (Cells.writeAll cells x bytes) y = Cells.read cells y := by
  induction bytes generalizing cells x with
  | nil => rfl
  | cons b rest ih =>
    simp only [List.length_cons] at h
    rw [Cells.writeAll, ih _ (by omega), Cells.read_write_ne _ _ (by omega)]

/-! ### Written bytes stay written (R133) -/

/-- A write never makes a byte blank. -/
theorem Cells.written_write (cells : List Host.Cell) (x y : Nat) (b : Byte) (h : Cells.read cells y ≠ blank) :
    Cells.read (Cells.write cells x b) y ≠ blank := by
  unfold Cells.write
  split
  · exact h
  · rename_i ok
    by_cases e : x = y
    · subst e
      rw [Cells.read_put_self]
      exact fun hb => ok (.inl hb)
    · rwa [Cells.read_put_ne _ _ e]

/-- A run of writes never makes a byte blank. -/
theorem Cells.written_writeAll (bytes : List Byte) (cells : List Host.Cell) (x y : Nat) (h : Cells.read cells y ≠ blank) :
    Cells.read (Cells.writeAll cells x bytes) y ≠ blank := by
  induction bytes generalizing cells x with
  | nil => exact h
  | cons b rest ih => exact ih _ _ (Cells.written_write cells x y b h)

/-! ### The canonical form -/

/-- Entering a byte of the area that is not blank keeps the canonical form, with no offset below the least of the two. -/
theorem Cells.wf_put (cells : List Host.Cell) {x : Nat} {b : Byte} (hx : x < areaSize) (hb : b ≠ blank) (h : Cells.wf cells = true) :
    Cells.wf (Cells.put cells x b) = true := by
  induction cells with
  | nil => simp [Cells.put, Cells.wf, hx, hb]
  | cons c rest ih =>
    obtain ⟨a, v⟩ := c
    have hw := h
    simp only [Cells.wf, Bool.and_eq_true, decide_eq_true_eq] at hw
    obtain ⟨⟨⟨ha, hv⟩, hnext⟩, hrest⟩ := hw
    unfold Cells.put
    split
    · rename_i lt
      simp [Cells.wf, hx, hb, lt, ha, hv, hnext, hrest]
    · split
      · rename_i eq
        subst eq
        simp [Cells.wf, hx, hb, hnext, hrest]
      · have gt : a < x := by omega
        have := ih hrest
        simp only [Cells.wf, Bool.and_eq_true, decide_eq_true_eq]
        refine ⟨⟨⟨ha, hv⟩, ?_⟩, this⟩
        cases rest with
        | nil => simpa [Cells.put] using gt
        | cons d tail =>
          obtain ⟨e, w⟩ := d
          have step : a < e := by simpa using hnext
          unfold Cells.put
          by_cases lt : x < e
          · simpa [lt] using gt
          · by_cases eq : x = e
            · simpa [eq] using step
            · simpa [lt, eq] using step

/-- One write keeps the canonical form. -/
theorem Cells.wf_write (cells : List Host.Cell) (x : Nat) (b : Byte) (h : Cells.wf cells = true) :
    Cells.wf (Cells.write cells x b) = true := by
  unfold Cells.write
  split
  · exact h
  · rename_i ok
    exact Cells.wf_put cells (by omega) (fun e => ok (.inl e)) h

/-- A run of writes keeps the canonical form. -/
theorem Cells.wf_writeAll (bytes : List Byte) (cells : List Host.Cell) (x : Nat) (h : Cells.wf cells = true) :
    Cells.wf (Cells.writeAll cells x bytes) = true := by
  induction bytes generalizing cells x with
  | nil => exact h
  | cons b rest ih => exact ih _ _ (Cells.wf_write cells x b h)

/-- The end of a write, whole or torn, keeps the key area's canonical form. -/
theorem NvStore.endWrite_wf (nv : NvStore) (outcome : WriteOutcome) (h : Cells.wf nv.keyArea = true) :
    Cells.wf (nv.endWrite outcome).keyArea = true := by
  unfold NvStore.endWrite
  split
  · exact h
  · dsimp only
    split <;> first | exact h | exact Cells.wf_writeAll _ _ _ h

/-- The end of a write makes no byte of the key area blank. -/
theorem NvStore.endWrite_written (nv : NvStore) (outcome : WriteOutcome) (x : Nat) (h : Cells.read nv.keyArea x ≠ blank) :
    Cells.read (nv.endWrite outcome).keyArea x ≠ blank := by
  unfold NvStore.endWrite
  split
  · exact h
  · dsimp only
    split <;> first | exact h | exact Cells.written_writeAll _ _ _ _ h

/-- The key area of a new part is canonical: nothing is written (log 18). -/
theorem reset_keyArea_wf : Cells.wf State.reset.nv.keyArea = true := rfl

end Sys2Proof.Machine
end

