-- ==== Sys2Proof/Laws/Ports.lean ====
section
/-! SUPPORT. What a request command and an event command come to: the one place that runs through OVERRUN, the six checks of screening and
the arbiters, so that a proof about a request starts at its owner. -/

namespace Sys2Proof.Machine

/-- Every request has one of the kinds of R187. -/
theorem Request.kind_known (r : Request) : r.kind ∈ requestKinds := by
  cases r <;> simp [Request.kind, requestKinds]

/-- No request has the kind 0 or a kind with its top bit set, so a refused one's reply has its kind plus 0x80. -/
theorem State.refuseKind_request (s : State) (p : Port) (r : Request) (tag : Byte) (status : Status) :
    s.refuseKind p r.kind tag status = s.refuse p r.kind tag status := by
  cases r <;> simp [State.refuseKind, State.refuse, State.reply, replyFrame, Request.kind]

/-- A request command is the request it carries. -/
theorem exec_request {c : Instr} {p : Port} {tag : Byte} {r : Request} (h : c.request? = some (p, tag, r)) (s : State) :
    exec c s = s.request p tag r := by
  cases c <;> simp [Instr.request?] at h <;> obtain ⟨rfl, rfl, rfl⟩ := h <;> rfl

/-- An event of the running part happens, and then the arbiters act. -/
theorem State.event_running {s : State} (h : s.power = .running) (f : State → State) : s.event f = (f s).arbitrate := by
  simp [State.event, State.live, h]

/-- An event while a reset is held changes nothing (log 2). -/
theorem State.event_held {s : State} (h : s.power ≠ .running) (f : State → State) : s.event f = s := by
  simp [State.event, State.live, h]

/-- A request at a running part is the arrival of its frame. -/
theorem State.request_running {p : Port} {tag : Byte} {r : Request} {s : State} (wf : r.wellFormed = true)
    (h : s.power = .running) :
    s.request p tag r =
      .next (s.arrive p r.kind tag (if r.lengthSuits then some r else none) r.payloadLength).arbitrate := by
  simp [State.request, wf, State.event_running h]

/-- Below the threshold and with no reset pending, a frame is screened (R178, R179 check 1). -/
theorem State.arrive_screened {s : State} {p : Port} (room : (s.port p).replies.length < overrunThreshold p)
    (noReset : s.unit.resetPending = false) (kind tag : Byte) (request : Option Request) (length : Nat) :
    s.arrive p kind tag request length = s.screen p kind tag request := by
  unfold State.arrive
  rw [if_neg (by omega), if_neg (by simp [noReset])]

/-- A request that passes checks 2 to 6 reaches its owner (R179). -/
theorem State.screen_passed {p : Port} {tag : Byte} {r : Request} {s : State} (tagged : tag ≠ 0)
    (onSystem : p = .system → r.kind ∈ systemKinds) (onStation : p = .station → r.kind ≠ 0x03)
    (whileClosed : p = .station → s.unit.phase = .closed → r.kind ∈ closedKinds) :
    s.screen p r.kind tag (some r) = s.takeRequest p tag r := by
  have known := Request.kind_known r
  unfold State.screen
  rw [if_neg, if_neg, if_neg, if_neg]
  · dsimp only
    rw [if_neg]
    rintro ⟨a, b, c⟩
    exact c (whileClosed a b)
  · exact tagged
  · rintro ⟨a, b⟩
    exact onStation a b
  · simpa using known
  · rintro ⟨a, b⟩
    exact b (onSystem a)

/-- A request that its port takes does what its owner does with it, and then the arbiters act. -/
theorem State.request_taken {p : Port} {tag : Byte} {r : Request} {s : State} (wf : r.wellFormed = true)
    (suits : r.lengthSuits = true) (h : s.Admits p tag) (onSystem : p = .system → r.kind ∈ systemKinds)
    (onStation : p = .station → r.kind ≠ 0x03)
    (whileClosed : p = .station → s.unit.phase = .closed → r.kind ∈ closedKinds) :
    s.request p tag r = .next (s.takeRequest p tag r).arbitrate := by
  rw [State.request_running wf h.running, if_pos suits, State.arrive_screened h.room h.noReset,
    State.screen_passed h.tagged onSystem onStation whileClosed]

/-- The same on the station port of a unit that is not CLOSED. -/
theorem State.request_unclosed {tag : Byte} {r : Request} {s : State} (wf : r.wellFormed = true) (suits : r.lengthSuits = true)
    (h : s.AdmitsUnclosed tag) (onStation : r.kind ≠ 0x03) :
    s.request .station tag r = .next (s.takeRequest .station tag r).arbitrate :=
  State.request_taken wf suits h.admits (by simp) (fun _ => onStation) (fun _ c => absurd c h.unclosed)

/-- The same on the station port of a unit that is OPEN. -/
theorem State.request_open {tag : Byte} {r : Request} {s : State} (wf : r.wellFormed = true) (suits : r.lengthSuits = true)
    (h : s.AdmitsOpen tag) (onStation : r.kind ≠ 0x03) :
    s.request .station tag r = .next (s.takeRequest .station tag r).arbitrate :=
  State.request_taken wf suits h.admits (by simp) (fun _ => onStation) (fun _ c => by simp [h.opened] at c)

end Sys2Proof.Machine
end

