-- ==== Sys2Proof/Laws/PerInstr.lean ====
section
/-! SUPPORT. The family `Carried`, one lemma per constructor of `Instr`: a command that carries a request can be sent as one port frame. -/

namespace Sys2Proof.Laws.Carried
open Sys2Proof Sys2Proof.Machine

/-- A well-formed command that carries a request carries one of a kind of R187, whose frame has a length field of at most 1026
(R175) and seven bytes more than its payload. -/
def Statement (i : Instr) : Prop :=
  ∀ p tag r, i.request? = some (p, tag, r) → i.wellFormed = true →
    r.kind ∈ requestKinds ∧ r.payloadLength + 2 ≤ 1026 ∧
      (Frame.wire { kind := r.kind, tag := tag, payload := r.payload }).length = r.payload.length + 7

/-- Every command that carries a request meets the statement: its well-formedness bounds the payload. -/
theorem of_any (i : Instr) : Statement i := by
  intro p tag r h wf
  have bound : r.payloadLength ≤ 1024 := by
    have known : r.wellFormed = true := by simpa [Instr.wellFormed, h] using wf
    simp only [Request.wellFormed, Bool.and_eq_true, decide_eq_true_eq] at known
    exact known.1
  exact ⟨Sys2Proof.Machine.Request.kind_known r, by omega, by simp [Frame.wire, u16, Half.bytes]⟩

theorem status (p : Port) (tag : Byte) : Statement (.status p tag) := of_any _
theorem readRegion (p : Port) (tag : Byte) : Statement (.readRegion p tag) := of_any _
theorem keyFetch (p : Port) (tag : Byte) (id offset count : Half) : Statement (.keyFetch p tag id offset count) := of_any _
theorem openUnit (p : Port) (tag : Byte) (given : Half) (serial : List Byte) : Statement (.openUnit p tag given serial) := of_any _
theorem close (p : Port) (tag : Byte) : Statement (.close p tag) := of_any _
theorem reopen (p : Port) (tag : Byte) : Statement (.reopen p tag) := of_any _
theorem partReset (p : Port) (tag : Byte) : Statement (.partReset p tag) := of_any _
theorem setTuning (p : Port) (tag : Byte) (fields : TuningFields) : Statement (.setTuning p tag fields) := of_any _
theorem setLevels (p : Port) (tag : Byte) (codes : List Half) : Statement (.setLevels p tag codes) := of_any _
theorem setAims (p : Port) (tag : Byte) (aims : List Half) : Statement (.setAims p tag aims) := of_any _
theorem setPin (p : Port) (tag : Byte) (slice : Byte) (node : Half) (value : Byte) : Statement (.setPin p tag slice node value) := of_any _
theorem gridRestart (p : Port) (tag : Byte) (slice : Byte) : Statement (.gridRestart p tag slice) := of_any _
theorem readNodes (p : Port) (tag : Byte) (slice : Byte) (first : Half) (count : Byte) : Statement (.readNodes p tag slice first count) :=
  of_any _
theorem readZones (p : Port) (tag : Byte) (first count : Byte) : Statement (.readZones p tag first count) := of_any _
theorem measure (p : Port) (tag : Byte) (patchTag row : Byte) (counts : List Half) : Statement (.measure p tag patchTag row counts) :=
  of_any _
theorem arm (p : Port) (tag : Byte) : Statement (.arm p tag) := of_any _
theorem disarm (p : Port) (tag : Byte) : Statement (.disarm p tag) := of_any _
theorem start (p : Port) (tag : Byte) : Statement (.start p tag) := of_any _
theorem stop (p : Port) (tag : Byte) : Statement (.stop p tag) := of_any _
theorem halt (p : Port) (tag : Byte) : Statement (.halt p tag) := of_any _
theorem advance (p : Port) (tag : Byte) : Statement (.advance p tag) := of_any _
theorem patchAppend (p : Port) (tag : Byte) (patchTag slice settle : Byte) (hold : Half) (autoAdvance : Byte) :
    Statement (.patchAppend p tag patchTag slice settle hold autoAdvance) :=
  of_any _
theorem patchClear (p : Port) (tag : Byte) : Statement (.patchClear p tag) := of_any _
theorem loadProfile (p : Port) (tag : Byte) (slot : Byte) (profile : ProfileFields) : Statement (.loadProfile p tag slot profile) :=
  of_any _
theorem setRegion (p : Port) (tag : Byte) (code : Half) : Statement (.setRegion p tag code) := of_any _
theorem keyBegin (p : Port) (tag : Byte) (id : Half) (cls : Byte) (length : Half) (check : Quad) (regions : List Half) :
    Statement (.keyBegin p tag id cls length check regions) :=
  of_any _
theorem keyChunk (p : Port) (tag : Byte) (id offset : Half) (body : List Byte) : Statement (.keyChunk p tag id offset body) := of_any _
theorem keyDiscard (p : Port) (tag : Byte) (id : Half) : Statement (.keyDiscard p tag id) := of_any _
theorem keyFix (p : Port) (tag : Byte) : Statement (.keyFix p tag) := of_any _
theorem keyWithdraw (p : Port) (tag : Byte) (id : Half) : Statement (.keyWithdraw p tag id) := of_any _
theorem keyList (p : Port) (tag : Byte) : Statement (.keyList p tag) := of_any _
theorem setCheck (p : Port) (tag : Byte) (slot : Byte) (check : CheckFields) : Statement (.setCheck p tag slot check) := of_any _
theorem evaluate (p : Port) (tag : Byte) : Statement (.evaluate p tag) := of_any _
theorem byteReceived (p : Port) (b : Byte) (stopBit : Bool) : Statement (.byteReceived p b stopBit) := of_any _
theorem portGapTimerExpiry (p : Port) : Statement (.portGapTimerExpiry p) := of_any _
theorem transmissionComplete (p : Port) : Statement (.transmissionComplete p) := of_any _
theorem reset (source : ResetSource) (cut : WriteOutcome) : Statement (.reset source cut) := of_any _
theorem startupLoading : Statement .startupLoading := of_any _
theorem inputFrameStart (lines pixels : Half) : Statement (.inputFrameStart lines pixels) := of_any _
theorem inputGapExpiry : Statement .inputGapExpiry := of_any _
theorem internalGeneratorTick : Statement .internalGeneratorTick := of_any _
theorem trimFrameComplete : Statement .trimFrameComplete := of_any _
theorem progressTimerExpiry : Statement .progressTimerExpiry := of_any _
theorem markerRead (line : LineRead) : Statement (.markerRead line) := of_any _
theorem rowCount : Statement .rowCount := of_any _
theorem openWriteComplete (outcome : WriteOutcome) : Statement (.openWriteComplete outcome) := of_any _
theorem commitWriteComplete (outcome : WriteOutcome) : Statement (.commitWriteComplete outcome) := of_any _
theorem reopenWriteComplete (outcome : WriteOutcome) : Statement (.reopenWriteComplete outcome) := of_any _
theorem keyFixWriteComplete (outcome : WriteOutcome) : Statement (.keyFixWriteComplete outcome) := of_any _
theorem keyWithdrawWriteComplete (outcome : WriteOutcome) : Statement (.keyWithdrawWriteComplete outcome) := of_any _

end Sys2Proof.Laws.Carried
end

