-- ==== Sys2Proof/Laws/Sequencer.lean ====
section
/-! SUPPORT. What a frame boundary and a change of input lock do to the sequencer, as cases. -/

namespace Sys2Proof.Machine

/-- The sequencer once a patch has ended (R82, R83): the run over, or the next patch begun. -/
theorem State.endPatch_seq (s : State) (p : Patch) (reason : EndReason) :
    (s.endPatch p reason).seq =
      if s.seq.haltRequested = true ∨ s.seq.state = .stopping ∨ s.seq.list = [] ∨ maxShow ≤ s.seq.showNumber then
        { s.seq.retire { p with endReason := some reason } with
          state := .armed, current := none, haltRequested := false, advanceRequested := false }
      else (s.seq.retire { p with endReason := some reason }).beginDisplay := by
  unfold State.endPatch
  dsimp only
  by_cases h1 : s.seq.haltRequested = true
  · simp [Sequencer.retire, State.endRun, h1]
  · by_cases h2 : s.seq.state = .stopping
    · simp [Sequencer.retire, State.endRun, h1, h2]
    · by_cases h3 : s.seq.list = []
      · simp [Sequencer.retire, State.endRun, h1, h2, h3]
      · by_cases h4 : maxShow ≤ s.seq.showNumber
        · simp [Sequencer.retire, State.endRun, h1, h2, h3, h4]
        · simp [Sequencer.retire, h1, h2, h3, h4]

/-- The progress timer once a patch has ended: stopped with the run, else running on (R64). -/
theorem State.endPatch_progress (s : State) (p : Patch) (reason : EndReason) :
    (s.endPatch p reason).intake =
      if s.seq.haltRequested = true ∨ s.seq.state = .stopping ∨ s.seq.list = [] ∨ maxShow ≤ s.seq.showNumber then
        { s.intake with progress := none }
      else s.intake := by
  unfold State.endPatch
  dsimp only
  by_cases h1 : s.seq.haltRequested = true
  · simp [Sequencer.retire, State.endRun, h1]
  · by_cases h2 : s.seq.state = .stopping
    · simp [Sequencer.retire, State.endRun, h1, h2]
    · by_cases h3 : s.seq.list = []
      · simp [Sequencer.retire, State.endRun, h1, h2, h3]
      · by_cases h4 : maxShow ≤ s.seq.showNumber
        · simp [Sequencer.retire, State.endRun, h1, h2, h3, h4]
        · simp [Sequencer.retire, h1, h2, h3, h4]

/-- All that the sequencer can do at a frame boundary (R79 to R83). -/
inductive State.BoundaryDoes (s : State) : State → Prop
  | nothing : s.BoundaryDoes s
  | listEmpty (armed : s.seq.state = .armed) (start : s.seq.startPending = true) (empty : s.seq.list = []) :
      s.BoundaryDoes ((s.setSeq { s.seq with startPending := false }).reportStopped .listEmpty)
  | begins (armed : s.seq.state = .armed) (start : s.seq.startPending = true) (list : s.seq.list ≠ []) :
      s.BoundaryDoes
        ((s.setSeq ({ s.seq with startPending := false, state := .running } : Sequencer).beginDisplay).setIntake
          { s.intake with progress := some (progressPeriod s.grid.tuning) })
  | ends (p q : Patch) (reason : EndReason) (run : s.seq.state = .running ∨ s.seq.state = .stopping)
      (current : s.seq.current = some p) (same : q = { p with holdCount := q.holdCount }) : s.BoundaryDoes (s.endPatch q reason)
  | counts (p q : Patch) (run : s.seq.state = .running ∨ s.seq.state = .stopping) (current : s.seq.current = some p)
      (same : q.tag = p.tag ∧ q.slice = p.slice ∧ q.showNumber = p.showNumber ∧ q.received = p.received) :
      s.BoundaryDoes (s.setSeq { s.seq with current := some q })
  | ready (p q : Patch) (payload : List Byte) (run : s.seq.state = .running ∨ s.seq.state = .stopping)
      (current : s.seq.current = some p)
      (same : q.tag = p.tag ∧ q.slice = p.slice ∧ q.showNumber = p.showNumber ∧ q.received = p.received) :
      s.BoundaryDoes ((s.setSeq { s.seq with current := some q }).report 0x70 payload)

/-- A frame boundary does one of these at the sequencer. -/
theorem State.sequencerBoundary_cases (s : State) : s.BoundaryDoes s.sequencerBoundary := by
  have run : ∀ p, s.seq.state = .running ∨ s.seq.state = .stopping → s.seq.current = some p → s.BoundaryDoes (s.advancePatch p) := by
    intro p run current
    unfold State.advancePatch
    dsimp only
    split
    · exact .ends p p .halted run current rfl
    · split
      · exact .ends p p .advanced run current rfl
      · split
        · split
          · exact .ready p _ _ run current ⟨rfl, rfl, rfl, rfl⟩
          · exact .counts p _ run current ⟨rfl, rfl, rfl, rfl⟩
        · split
          · exact .ends p _ .complete run current rfl
          · split
            · exact .ends p _ .timeout run current rfl
            · exact .counts p _ run current ⟨rfl, rfl, rfl, rfl⟩
  unfold State.sequencerBoundary
  split
  · exact .nothing
  · rename_i armed
    split
    · rename_i start
      unfold State.takePendingStart
      dsimp only
      split
      · rename_i empty
        exact .listEmpty armed start empty
      · rename_i list
        exact .begins armed start list
    · exact .nothing
  · rename_i state
    split
    · rename_i p current
      exact run p (.inl state) current
    · exact .nothing
  · rename_i state
    split
    · rename_i p current
      exact run p (.inr state) current
    · exact .nothing

/-- The loss of input lock (R90, R91): the sequencer keeps its state, but for a patch that is settled anew. -/
theorem State.loseLock_seq (s : State) :
    s.loseLock.seq = s.seq ∨ s.loseLock.seq = { s.seq with current := s.seq.current.map Patch.resettled } := by
  by_cases source : s.timing.source = .input <;> by_cases run : s.seq.inRun = true <;>
    by_cases present : s.region.markerPresent = true <;> by_cases first : Config.eitherFirst s.choices = true <;>
      simp [State.loseLock, State.choose, State.switchToInternal, source, run, present, first]

/-- What the loss of input lock does to the region unit: presence, the miss count, the line armed, and nothing else (R90, R122). -/
theorem State.loseLock_region (s : State) :
    ∃ present missed, s.loseLock.region =
      { s.region with lineArmed := false, markerPresent := present, missCount := missed } := by
  by_cases present : s.region.markerPresent = true
  · refine ⟨false, 0, ?_⟩
    by_cases source : s.timing.source = .input <;> by_cases first : Config.eitherFirst s.choices = true <;>
      simp [State.loseLock, State.choose, State.markerLost, State.switchToInternal, source, present, first]
  · refine ⟨s.region.markerPresent, s.region.missCount, ?_⟩
    by_cases source : s.timing.source = .input <;> simp [State.loseLock, State.switchToInternal, source, present]

/-- A region unit that differs from another in presence, the miss count and the line armed alone. -/
def Region.LikePresence (r r' : Region) : Prop :=
  ∃ present missed armed, r' = { r with lineArmed := armed, markerPresent := present, missCount := missed }

/-- INPUT_FRAME_START: a change of the input's state, then perhaps a boundary. The input's state touches the timing unit, marker presence,
a patch being settled, and reports. -/
theorem State.takeFrameStart_cases (s : State) (totals : Nat × Nat) :
    ∃ u : State, (s.takeFrameStart totals = u ∨ s.takeFrameStart totals = u.frameBoundary) ∧
      (u.seq = s.seq ∨ u.seq = { s.seq with current := s.seq.current.map Patch.resettled }) ∧ s.region.LikePresence u.region ∧
      u.power = s.power ∧ u.grid = s.grid ∧ u.intake = s.intake ∧ u.applier = s.applier ∧ u.trim = s.trim ∧ u.keys = s.keys ∧
      u.checks = s.checks ∧ u.unit = s.unit ∧ u.nv = s.nv ∧ u.system = s.system ∧ u.pending = s.pending := by
  have totalsDo : ∀ v : State, ((v.takeTotals totals).seq = v.seq ∨
      (v.takeTotals totals).seq = { v.seq with current := v.seq.current.map Patch.resettled }) ∧
      v.region.LikePresence (v.takeTotals totals).region := by
    intro v
    obtain ⟨present, missed, e⟩ := v.loseLock_region
    unfold State.takeTotals
    by_cases lock : v.timing.lock = true
    · rw [if_pos lock]
      by_cases same : v.timing.reference = some totals
      · rw [if_pos same]
        exact ⟨.inl rfl, _, _, _, rfl⟩
      · rw [if_neg same]
        exact ⟨by simpa using v.loseLock_seq, present, missed, false, by simpa using e⟩
    · rw [if_neg lock]
      exact ⟨.inl (by simp), _, _, _, by simp; rfl⟩
  have before : ∃ v : State, ((if s.timing.gapRunning = true then
        (s.setTiming { s.timing with gapRunning := true }).takeTotals totals else s.setTiming { s.timing with gapRunning := true }) = v) ∧
      (v.seq = s.seq ∨ v.seq = { s.seq with current := s.seq.current.map Patch.resettled }) ∧ s.region.LikePresence v.region ∧
      v.power = s.power ∧ v.grid = s.grid ∧ v.intake = s.intake ∧ v.applier = s.applier ∧ v.trim = s.trim ∧ v.keys = s.keys ∧
      v.checks = s.checks ∧ v.unit = s.unit ∧ v.nv = s.nv ∧ v.system = s.system ∧ v.pending = s.pending := by
    obtain ⟨seq, region⟩ := totalsDo (s.setTiming { s.timing with gapRunning := true })
    refine ⟨_, rfl, ?_⟩
    split
    · exact ⟨by simpa using seq, by simpa using region, by simp⟩
    · exact ⟨.inl rfl, ⟨_, _, _, rfl⟩, by simp⟩
  obtain ⟨v, e, seq, ⟨present, missed, armed, region⟩, rest⟩ := before
  have after : s.takeFrameStart totals =
      (let t := v.setRegion { v.region with lineArmed := v.timing.lock }
       if t.returnDue s.timing.lock then t.returnToInput.frameBoundary
       else if t.timing.source = .input then t.frameBoundary else t) := by
    rw [← e]
    rfl
  rw [after]
  dsimp only
  (repeat' split)
  · refine ⟨_, .inr rfl, by simpa using seq, ⟨present, missed, v.timing.lock, by simp [region]⟩, by simpa using rest⟩
  · refine ⟨_, .inr rfl, by simpa using seq, ⟨present, missed, v.timing.lock, by simp [region]⟩, by simpa using rest⟩
  · refine ⟨_, .inl rfl, by simpa using seq, ⟨present, missed, v.timing.lock, by simp [region]⟩, by simpa using rest⟩

end Sys2Proof.Machine
end

