-- ==== Sys2Proof/Laws/Step.lean ====
section
/-! SUPPORT. What a command can do to the whole state, said once (`exec_cases`): a proof that an invariant is kept goes through its cases, and
through the requests of `State.takeRequest`, without unfolding `exec`. -/

namespace Sys2Proof.Machine

/-! ### Requests that bytes spell (R186, R187) -/

/-- A run of halves read from bytes has half their number. -/
theorem halves_length (bytes : List Byte) (hs : List Half) (h : halves bytes = some hs) : bytes.length = 2 * hs.length := by
  induction bytes using halves.induct generalizing hs with
  | case1 => simp [halves] at h; simp [← h]
  | case2 => simp [halves] at h
  | case3 lo hi rest ih =>
    simp only [halves, Option.map_eq_some_iff] at h
    obtain ⟨rest', h, rfl⟩ := h
    have := ih _ h
    simp only [List.length_cons]
    omega

/-- A run of exactly `n` halves has `n` of them. -/
theorem halvesOf_length {n : Nat} {bytes : List Byte} {hs : List Half} (h : halvesOf n bytes = some hs) : hs.length = n := by
  unfold halvesOf at h
  split at h
  · have := halves_length _ _ h
    omega
  · simp at h

/-- A request read from bytes has the kind it was read under, and a length that suits it. -/
theorem parseRequest_sound {kind : Byte} {payload : List Byte} {r : Request} (h : parseRequest kind payload = some r) :
    r.kind = kind ∧ r.lengthSuits = true := by
  have of_toNat : ∀ n : Nat, kind.toNat = n → kind = BitVec.ofNat 8 n := by
    rintro _ rfl
    simp
  unfold parseRequest at h
  split at h
  all_goals first
    | contradiction
    | (rename_i e
       rw [of_toNat _ e]
       first
         | (simp only [Option.map_eq_some_iff] at h
            obtain ⟨hs, h, rfl⟩ := h
            simp [Request.kind, Request.lengthSuits, halvesOf_length h])
         | (split at h
            all_goals first
              | contradiction
              | (simp only [Option.some.injEq] at h
                 subst h
                 simp [Request.kind, Request.lengthSuits])
              | (simp only [Option.map_eq_some_iff] at h
                 obtain ⟨hs, h, rfl⟩ := h
                 simp [Request.kind, Request.lengthSuits, halvesOf_length h])
              | (split at h
                 all_goals first
                   | contradiction
                   | (simp only [Option.some.injEq] at h
                      subst h
                      simp_all [Request.kind, Request.lengthSuits] <;> omega))))

/-! ### States alike but for what a receiver assembles -/

/-- Two states alike but for the frames being assembled. -/
structure State.SameButAssembly (s t : State) : Prop where
  blocks : s.SameBlocks t
  choices : t.choices = s.choices
  replies : ∀ p, (t.port p).replies = (s.port p).replies
  reports : ∀ p, (t.port p).reports = (s.port p).reports
  dropped : ∀ p, (t.port p).dropped = (s.port p).dropped
  sending : ∀ p, (t.port p).sending = (s.port p).sending

/-- A state is like itself. -/
theorem State.SameBlocks.refl (s : State) : s.SameBlocks s := by constructor <;> rfl

/-- A state is like itself. -/
theorem State.SameButAssembly.refl (s : State) : s.SameButAssembly s := by
  constructor <;> first | exact .refl s | exact fun _ => rfl | rfl

/-- A change of what one receiver has assembled. -/
theorem State.SameButAssembly.assembling (s : State) (p : Port) (stage : RxStage) (buffer : List Byte) (gap : Bool) :
    s.SameButAssembly (s.setPort p { s.port p with stage := stage, buffer := buffer, gapRunning := gap }) := by
  constructor
  · constructor <;> simp
  · simp
  all_goals
    intro q
    by_cases h : p = q
    · subst h
      simp
    · rw [State.setPort_port_of_ne _ _ h]

/-! ### What an event brings a port -/

/-- What a character or a request's arrival comes to: nothing but ports changes, or a request is taken. -/
structure State.Taken (s t : State) (p : Port) (tag : Byte) (r : Request) : Prop where
  same : s.SameButAssembly t
  noReset : s.unit.resetPending = false
  room : (s.port p).replies.length < overrunThreshold p
  tagged : tag ≠ 0
  suits : r.lengthSuits = true
  onSystem : p = .system → r.kind ∈ systemKinds
  onStation : p = .station → r.kind ≠ 0x03
  whileClosed : p = .station → s.unit.phase = .closed → r.kind ∈ closedKinds

/-- Only ports change, and each reply queue stays as it is, or a reply joins one below its threshold. -/
structure State.PortsOnly (s t : State) : Prop where
  blocks : s.SameBlocks t
  replies :
    ∀ q, (t.port q).replies.length ≤ (s.port q).replies.length ∨
      ((s.port q).replies.length < overrunThreshold q ∧ (t.port q).replies.length = (s.port q).replies.length + 1)
  reports : s.station.reports.length ≤ 16 → t.station.reports.length ≤ 16

/-- Nothing changed. -/
theorem State.PortsOnly.refl (s : State) : s.PortsOnly s := ⟨.refl s, fun _ => .inl le_rfl, id⟩

/-- A discarded frame leaves a report at most (R178). -/
theorem State.discardFrame_ports (s t : State) (same : s.SameButAssembly t) (p : Port) (reason : FrameFault) (received : Nat)
    (length : Option Nat) : s.PortsOnly (t.discardFrame p reason received length) := by
  have station := same.reports .station
  have replies := same.replies
  unfold State.discardFrame
  split
  · refine ⟨?_, ?_, ?_⟩
    · constructor <;> simp [same.blocks.power, same.blocks.grid, same.blocks.intake, same.blocks.seq, same.blocks.timing,
        same.blocks.region, same.blocks.applier, same.blocks.trim, same.blocks.keys, same.blocks.checks, same.blocks.unit,
        same.blocks.nv, same.blocks.pending]
    · intro q
      have := replies q
      left
      cases q <;> simp_all
    · intro h
      simp only [State.port_station] at station
      exact State.report_capacity _ _ _ (by rwa [station])
  · exact ⟨same.blocks, fun q => .inl (by rw [replies q]), fun h => by simp only [State.port_station] at station; rwa [station]⟩

/-- A refused frame leaves one reply on its port, and nothing else. -/
theorem State.passReply_ports (s t : State) (same : s.SameButAssembly t) {p : Port}
    (room : (s.port p).replies.length < overrunThreshold p) (f : Frame) : s.PortsOnly (t.passReply p f) := by
  refine ⟨?_, ?_, ?_⟩
  · constructor <;> simp [same.blocks.power, same.blocks.grid, same.blocks.intake, same.blocks.seq, same.blocks.timing,
      same.blocks.region, same.blocks.applier, same.blocks.trim, same.blocks.keys, same.blocks.checks, same.blocks.unit,
      same.blocks.nv, same.blocks.pending]
  · intro q
    have mine := same.replies p
    by_cases h : p = q
    · subst h
      refine .inr ⟨room, ?_⟩
      simp [State.passReply, mine]
    · left
      rw [State.passReply, State.setPort_port_of_ne _ _ h, same.replies q]
  · have station := same.reports .station
    simp only [State.port_station] at station
    intro h
    cases p <;> simp [State.passReply, station, h]

/-- The arrival of a frame (R178, R179): only ports change, or its request is taken. -/
theorem State.arrive_cases (s t : State) (same : s.SameButAssembly t) (p : Port) (kind tag : Byte) (request : Option Request)
    (read : ∀ r, request = some r → r.kind = kind ∧ r.lengthSuits = true) (length : Nat) :
    s.PortsOnly (t.arrive p kind tag request length) ∨
      ∃ r, s.Taken t p tag r ∧ t.arrive p kind tag request length = t.takeRequest p tag r := by
  have replies := same.replies p
  have unit := same.blocks.unit
  unfold State.arrive
  split
  · exact .inl (State.discardFrame_ports s t same ..)
  · rename_i room
    split
    · exact .inl ⟨same.blocks, fun q => .inl (by rw [same.replies q]),
        fun h => by have := same.reports .station; simp only [State.port_station] at this; rwa [this]⟩
    · rename_i noReset
      have room' : (s.port p).replies.length < overrunThreshold p := by rw [replies] at room; omega
      unfold State.screen State.refuseKind State.refuse State.reply
      split
      · rename_i h
        obtain ⟨rfl, -⟩ := h
        exact .inl (State.passReply_ports s t same room' _)
      · rename_i onSystem
        split
        · exact .inl (State.passReply_ports s t same room' _)
        · split
          · rename_i h
            obtain ⟨rfl, -⟩ := h
            exact .inl (State.passReply_ports s t same room' _)
          · rename_i onStation
            split
            · exact .inl (State.passReply_ports s t same room' _)
            · rename_i tagged
              cases request with
              | none => exact .inl (State.passReply_ports s t same room' _)
              | some r =>
                obtain ⟨rfl, suits⟩ := read r rfl
                dsimp only
                split
                · rename_i h
                  obtain ⟨rfl, -⟩ := h
                  exact .inl (State.passReply_ports s t same room' _)
                · rename_i whileClosed
                  refine .inr ⟨r, ⟨same, ?_, room', tagged, suits, ?_, ?_, ?_⟩, rfl⟩
                  · simpa [unit] using noReset
                  · exact fun e => Classical.not_not.mp (fun h => onSystem ⟨e, h⟩)
                  · exact fun e h => onStation ⟨e, h⟩
                  · exact fun e c => Classical.not_not.mp (fun h => whileClosed ⟨e, by rw [unit]; exact c, h⟩)

/-- A character (R176, R177): only ports change, or a request is taken. -/
theorem State.takeCharacter_cases (s : State) (p : Port) (b : Byte) (stopBit : Bool) :
    s.PortsOnly (s.takeCharacter p b stopBit) ∨ ∃ t r tag, s.Taken t p tag r ∧ s.takeCharacter p b stopBit = t.takeRequest p tag r := by
  have keep : ∀ buffer stage, s.PortsOnly (s.keepByte p buffer stage) := by
    intro buffer stage
    have same := State.SameButAssembly.assembling s p stage buffer true
    exact ⟨same.blocks, fun q => .inl (by rw [State.keepByte, same.replies q]),
      fun h => by have := same.reports .station; simp only [State.port_station] at this; rw [State.keepByte, this]; exact h⟩
  have drop : ∀ reason received length, s.PortsOnly (s.abandon p reason received length) := by
    intro reason received length
    exact State.discardFrame_ports s _ (State.SameButAssembly.assembling s p _ _ _) ..
  unfold State.takeCharacter State.receiveByte State.frameComplete
  dsimp only
  (repeat' split) <;> first
    | exact .inl (.refl s)
    | exact .inl (keep ..)
    | exact .inl (drop ..)
    | skip
  rcases State.arrive_cases s _ (State.SameButAssembly.assembling s p _ _ _) p _ _ _ (fun r h => parseRequest_sound h) _ with h | ⟨r, h, e⟩
  · exact .inl h
  · exact .inr ⟨_, r, _, h, e⟩

/-- The end of a transmission: only ports change, or the requested reset falls (R181, R183). -/
theorem State.takeTransmitted_cases (s : State) (p : Port) :
    s.PortsOnly (s.takeTransmitted p) ∨ (s.unit.resetPending = true ∧ s.takeTransmitted p = s.requestedReset) := by
  unfold State.takeTransmitted
  split
  · exact .inl (.refl s)
  · split
    · rename_i h
      exact .inr ⟨h.2.1, rfl⟩
    · left
      refine ⟨by constructor <;> simp, ?_, ?_⟩
      · intro q
        left
        cases p <;> cases q <;> simp only [State.serveNext, State.beginReport, State.beginReply] <;> (repeat' split) <;> simp_all
      · intro h
        cases p <;> simp only [State.serveNext, State.beginReport, State.beginReply] <;> (repeat' split) <;> simp_all
        omega

/-! ### What a command can do -/

/-- The commands that reach a block behind the ports, and the state change of each. -/
inductive State.Event (s : State) : Instr → State → Prop
  | frameStart (lines pixels : Half) : s.Event (.inputFrameStart lines pixels) (s.takeFrameStart (lines.toNat, pixels.toNat))
  | gapExpiry : s.Event .inputGapExpiry s.takeGapExpiry
  | tick : s.Event .internalGeneratorTick s.takeTick
  | trimSent : s.Event .trimFrameComplete s.completeTrim
  | progress : s.Event .progressTimerExpiry s.progressExpiry
  | marker (line : LineRead) : s.Event (.markerRead line) ((s.takeMarkerRead line.pixels).beginDue line.meets)
  | count : s.Event .rowCount s.stepRow
  | openWrite (outcome : WriteOutcome) : s.Event (.openWriteComplete outcome) (s.takeOpenWrite outcome)
  | commitWrite (outcome : WriteOutcome) : s.Event (.commitWriteComplete outcome) (s.takeCommitWrite outcome)
  | reopenWrite (outcome : WriteOutcome) : s.Event (.reopenWriteComplete outcome) (s.takeReopenWrite outcome)
  | fixWrite (outcome : WriteOutcome) : s.Event (.keyFixWriteComplete outcome) (s.takeFixWrite outcome)
  | withdrawWrite (outcome : WriteOutcome) : s.Event (.keyWithdrawWriteComplete outcome) (s.takeWithdrawWrite outcome)

/-- All that a command can do. -/
inductive State.Does (c : Instr) (s : State) : State → Prop
  | nothing : s.Does c s
  | reset (source : ResetSource) (cut : WriteOutcome) (command : c = .reset source cut) : s.Does c (s.takeReset (causeOf source) cut)
  | startup (cause : ResetCause) (held : s.power = .held cause) (command : c = .startupLoading) : s.Does c (s.startedUp cause)
  | requestedReset (p : Port) (running : s.power = .running) (due : s.unit.resetPending = true)
      (command : c = .transmissionComplete p) : s.Does c s.requestedReset.arbitrate
  | ports (t : State) (running : s.power = .running) (only : s.PortsOnly t) : s.Does c t.arbitrate
  | request (t : State) (p : Port) (tag : Byte) (r : Request) (running : s.power = .running) (taken : s.Taken t p tag r) :
      s.Does c (t.takeRequest p tag r).arbitrate
  | event (t : State) (running : s.power = .running) (event : s.Event c t) : s.Does c t.arbitrate

/-- A command that gives a next state does one of these. -/
theorem exec_cases {c : Instr} {s t : State} (h : exec c s = .next t) : s.Does c t := by
  have events : ∀ (f : State → State), s.Event c (f s) → s.Does c (s.event f) := by
    intro f hf
    by_cases running : s.power = .running
    · rw [State.event_running running]
      exact .event _ running hf
    · rw [State.event_held running]
      exact .nothing
  cases hr : c.request? with
  | some x =>
    obtain ⟨p, tag, r⟩ := x
    rw [exec_request hr, State.request] at h
    split at h
    · simp only [Host.Outcome.next.injEq] at h
      subst h
      by_cases running : s.power = .running
      · rw [State.event_running running]
        have read : ∀ r', (if r.lengthSuits = true then some r else none) = some r' → r'.kind = r.kind ∧ r'.lengthSuits = true := by
          intro r' e
          split at e <;> simp_all
        rcases State.arrive_cases s s (.refl s) p r.kind tag _ read r.payloadLength with only | ⟨r', taken, e⟩
        · exact .ports _ running only
        · rw [e]
          exact .request s p tag r' running taken
      · rw [State.event_held running]
        exact .nothing
    · simp at h
  | none =>
    cases c <;> simp only [Instr.request?, reduceCtorEq] at hr
    case byteReceived p b stopBit =>
      simp only [exec, execByteReceived, Host.Outcome.next.injEq] at h
      subst h
      by_cases running : s.power = .running
      · rw [State.event_running running]
        rcases State.takeCharacter_cases s p b stopBit with only | ⟨t, r, tag, taken, e⟩
        · exact .ports _ running only
        · rw [e]
          exact .request t p tag r running taken
      · rw [State.event_held running]
        exact .nothing
    case portGapTimerExpiry p =>
      simp only [exec, execPortGapTimerExpiry, Host.Outcome.next.injEq] at h
      subst h
      by_cases running : s.power = .running
      · rw [State.event_running running]
        dsimp only [State.takePortGap]
        split
        · exact .ports _ running (State.discardFrame_ports s _ (State.SameButAssembly.assembling s p _ _ _) ..)
        · exact .ports _ running (.refl s)
      · rw [State.event_held running]
        exact .nothing
    case transmissionComplete p =>
      simp only [exec, execTransmissionComplete, Host.Outcome.next.injEq] at h
      subst h
      by_cases running : s.power = .running
      · rw [State.event_running running]
        rcases State.takeTransmitted_cases s p with only | ⟨due, e⟩
        · exact .ports _ running only
        · rw [e]
          exact .requestedReset p running due rfl
      · rw [State.event_held running]
        exact .nothing
    case reset source cut =>
      simp only [exec, execReset, Host.Outcome.next.injEq] at h
      subst h
      exact .reset source cut rfl
    case startupLoading =>
      simp only [exec, execStartupLoading, Host.Outcome.next.injEq] at h
      subst h
      unfold State.takeStartup
      split
      · rename_i cause held
        exact .startup cause held rfl
      · exact .nothing
    case markerRead line =>
      simp only [exec, execMarkerRead] at h
      split at h
      · simp only [Host.Outcome.next.injEq] at h
        subst h
        exact events _ (.marker line)
      · simp at h
    all_goals
      simp only [exec, execInputFrameStart, execInputGapExpiry, execInternalGeneratorTick, execTrimFrameComplete,
        execProgressTimerExpiry, execRowCount, execOpenWriteComplete, execCommitWriteComplete, execReopenWriteComplete,
        execKeyFixWriteComplete, execKeyWithdrawWriteComplete, Host.Outcome.next.injEq] at h
      subst h
      exact events _ (by constructor)

/-- A step that gives a next state runs the front command, or there is none and nothing changes. -/
theorem step_cases {s t : State} (h : step s = .next t) :
    (s.pending = [] ∧ t = s) ∨ ∃ c rest, s.pending = c :: rest ∧ exec c (s.setPending rest) = .next t := by
  unfold step at h
  split at h
  · rename_i e
    simp only [Host.Outcome.next.injEq] at h
    exact .inl ⟨e, h.symm⟩
  · rename_i c rest e
    exact .inr ⟨c, rest, e, h⟩

end Sys2Proof.Machine
end

