-- ==== Sys2Proof/Tests/Slice0.lean ====
section
/-! SUPPORT. Tests: ill-formed commands are refused, bytes written out from R187 are read as their requests, the check codes and the loop give
the spec's worked numbers, and small commands do what their rules say. Then, for each obligation with hypotheses, a concrete state and
operands that meet them, clause by clause. -/

namespace Sys2Proof.Tests
open Sys2Proof Sys2Proof.Machine
set_option Elab.async false

/-! ### Small states -/

/-- A running part in phase OPEN, fresh otherwise. -/
def opened : State := State.sample .opened

/-- What a command's next state shows. -/
def seen {α : Type} (o : Host.Outcome State Fault Refusal) (f : State → α) : Option α :=
  match o with
  | .next t => some (f t)
  | _ => none

/-- The command gives a next state. -/
def completes (c : Instr) (s : State) : Prop := ∃ t, exec c s = .next t

/-- The payload of the frame in transmission on the station port. -/
def sent (t : State) : Option (List Byte) := t.station.sending.map (·.payload)

/-- The reports that wait, with the one in transmission first, by kind. -/
def heard (t : State) : List Byte := (t.station.sending.toList ++ t.station.reports).map (·.kind)

/-- The profile of chapter 12: code 276, 50 Hz, white ceiling 1300, classes 1 and 2 required, class 1 released. -/
def german : ProfileFields := ⟨276, 50, 1300, 3, 1, 12, 0x44, 0x45, 0x55⟩

/-- A patch of tag 2 in slice 6, as R69 enters it. -/
def patch : Patch := patchGiven 2 6 2 60 0

/-- The patch in HOLD under show number 2. -/
def held : Patch := { patch with showNumber := some 2, subPhase := some .hold, ready := true }

/-- A sequencer that runs the given patch. -/
def running (q : Patch) : Sequencer := { Sequencer.fresh with current := some q, showNumber := 2, state := .running }

/-- The state with the given sequencer, in phase OPEN. -/
def withSeq (q : Sequencer) : State := opened.setSeq q

/-- A key entry of id 257 with a body of 16 zero bytes. -/
def key (state : KeyState) (offset : Option Nat) : KeyEntry :=
  { id := 257, cls := .content, length := 16, check := 0, regions := none, state := state, received := 16,
    body := List.replicate 16 0, offset := offset, fixPending := false }

/-- The state whose key table holds one entry, in phase OPEN. -/
def withKey (e : KeyEntry) : State := opened.setKeys { KeyTable.fresh with entries := some e :: List.replicate 23 none }

/-- A white pixel for a light cell, a black one for a dark cell. -/
def cellPixels (cells : List Bool) : List Pixel :=
  cells.flatMap (fun c => List.replicate 16 (if c then ⟨1023, 1023, 1023⟩ else ⟨0, 0, 0⟩))

/-- The marker of 6.4's worked case: index 0, line 3, region 276, station byte 0x1A, check code 0xD4. -/
def workedMarker : List Pixel :=
  cellPixels
    ([0x6C, 0x35, 0x0D, 0x14, 0x1A, 0xD4].flatMap (fun b : Byte => bitsMsbFirst b))

/-! ### Well-formedness (R175, R186, R119) -/

theorem test_payload_too_long : (Instr.setAims .station 1 (List.replicate 513 0)).wellFormed = false := by decide +kernel
theorem test_serial_count_too_long : (Instr.openUnit .station 1 0 (List.replicate 256 0x41)).wellFormed = false := by decide +kernel
theorem test_region_count_too_long :
    (Instr.keyBegin .station 1 1 1 16 0 (List.replicate 256 0)).wellFormed = false := by decide +kernel
theorem test_marker_short : (Instr.markerRead ⟨List.replicate 767 ⟨0, 0, 0⟩, false⟩).wellFormed = false := by decide +kernel
theorem test_ill_formed_refused : exec (.markerRead ⟨[], false⟩) opened = .refused .illFormed := rfl
theorem test_length_suits :
    (Request.setLevels [1, 2, 3, 4]).lengthSuits = false ∧ (Request.measure 1 0 [0]).lengthSuits = false ∧
      (Request.setAims []).lengthSuits = false ∧ (Request.keyChunk 1 0 []).lengthSuits = false ∧
      (Request.keyChunk 1 0 (List.replicate 513 0)).lengthSuits = false := by decide +kernel

/-! ### Bytes from the table of R187 -/

theorem test_read_status : parseRequest 0x01 [] = some .status ∧ parseRequest 0x01 [0] = none := by decide
theorem test_read_key_fetch : parseRequest 0x03 [0x01, 0x01, 0x10, 0x00, 0x00, 0x02] = some (.keyFetch 257 16 512) := by decide
theorem test_read_open : parseRequest 0x10 [0x14, 0x01, 0x02, 0x4C, 0x33] = some (.openUnit 276 [0x4C, 0x33]) := by decide
theorem test_read_tuning :
    parseRequest 0x20 [40, 32, 16, 0xA4, 0x00, 0x29, 0x00, 2, 1, 12, 4, 0x00, 0x06, 0x00, 0x0A, 96, 160] =
      some (.setTuning ⟨40, 32, 16, 164, 41, 2, 1, 12, 4, 1536, 2560, 96, 160⟩) := by decide
theorem test_read_measure_short : parseRequest 0x30 [2, 0, 0xFF, 0xFF] = none := by decide
theorem test_read_patch_append : parseRequest 0x37 [2, 6, 2, 0x3C, 0x00, 1] = some (.patchAppend 2 6 2 60 1) := by decide
theorem test_read_profile :
    parseRequest 0x40 [0, 0x14, 0x01, 50, 0x14, 0x05, 3, 1, 12, 0x44, 0x45, 0x55] = some (.loadProfile 0 german) := by decide
theorem test_read_key_begin :
    parseRequest 0x50 [0x01, 0x01, 1, 0x2C, 0x01, 0x26, 0x39, 0xF4, 0xCB, 1, 0x14, 0x01] =
      some (.keyBegin 257 1 300 0xCBF43926 [276]) := by decide
theorem test_read_chunk_count : parseRequest 0x51 [1, 1, 0, 0, 2, 0, 0xAA] = none := by decide
theorem test_read_check :
    parseRequest 0x60 [0, 0, 6, 0x1C, 0x25, 0x00, 0x00, 1, 1] = some (.setCheck 0 ⟨0, 6, 9500, 1, 1⟩) := by decide
theorem test_no_table_word : decodeTableWord 0 0 = none := rfl

/-! ### Check codes (R176, R132, R120) -/

/-- The nine digits give 0xCBF43926 (R132). -/
theorem test_crc32_digits : crc32 [0x31, 0x32, 0x33, 0x34, 0x35, 0x36, 0x37, 0x38, 0x39] = 0xCBF43926 := by decide +kernel
/-- The nine digits give 0x29B1, the check value of the CRC-16 of R176's parameters (hand calculation). -/
theorem test_crc16_digits : crc16 [0x31, 0x32, 0x33, 0x34, 0x35, 0x36, 0x37, 0x38, 0x39] = 0x29B1 := by decide +kernel
/-- The marker of the worked case of chapter 6 is read. -/
theorem test_marker_worked :
    decodeMarker (cellValues workedMarker) = some { frameIndex := 0, line := 3, code := 276, stationByte := 0x1A } := by
  decide +kernel
/-- One dark cell of the region code read light fails the check code (chapter 6). -/
theorem test_marker_spoiled :
    decodeMarker (cellValues (cellPixels
      ([0x6C, 0x35, 0x0D, 0x15, 0x1A, 0xD4].flatMap (fun b : Byte => bitsMsbFirst b)))) = none := by decide +kernel

/-! ### The loop's worked numbers (chapters 2 and 12) -/

theorem test_shaped_gain_between : shapedGain Tuning.default.fineLoop 246 = 32 := by decide
theorem test_shaped_gain_ends :
    shapedGain Tuning.default.fineLoop 328 = 40 ∧ shapedGain Tuning.default.fineLoop 164 = 24 := by decide
/-- Patch 2 of node 69: error -102, step -19, gain 2029 (chapter 12). -/
theorem test_node_first_count :
    errorOf 1600 1640 = -102 ∧ (loopUpdate Tuning.default.fineLoop 3 (-102) (.fresh 2048)).value = 2029 := by decide
/-- Patch 6 of node 69: error -26 locks it and the step is -2 (chapter 12). -/
theorem test_node_locks :
    loopUpdate Tuning.default.fineLoop 6 (-26)
        { value := 2010, state := .seeking, streak := 1, iterations := 3, appliedAt := 5, saturated := false } =
      { value := 2008, state := .locked, streak := 2, iterations := 3, appliedAt := 6, saturated := false } := by decide
/-- Patch 3 of node 44: 2368 + 196 is clamped to 2560 (chapter 12). -/
theorem test_node_clamped :
    (loopUpdate Tuning.default.fineLoop 3 543 { Cell.fresh 2368 with iterations := 1, appliedAt := 2 }) =
      { value := 2560, state := .seeking, streak := 0, iterations := 2, appliedAt := 3, saturated := true } := by decide +kernel
/-- Zone 0 of the white patch: -499 over 4 is -125 and the trim falls to 127 (chapter 12). -/
theorem test_zone_set :
    roundDiv (-499) 4 = -125 ∧ (loopUpdate Tuning.default.zoneLoop 1 (-125) (.fresh 128)).value = 127 := by decide +kernel
/-- Above the highest level the product is limited to 1023 (5.3). -/
theorem test_output_limited : corrected 1000 2200 = 1023 := by decide +kernel

/-! ### Small commands -/

/-- The first step from reset ends the reset: no copy is valid, so the part is BLANK and its generator runs at 60 Hz (R161, R93). -/
theorem test_startup_blank :
    seen (exec .startupLoading State.reset) (fun t => (t.power, t.unit.phase, t.timing.generator)) =
      some (.running, .blank, some 60) := by decide +kernel
theorem test_step_arm :
    seen (step (opened.setPending [.arm .station 7])) (fun t => (t.seq.state, sent t, t.pending)) =
      some (.armed, some [0, 1, 0], []) := by decide +kernel
theorem test_arm_twice :
    seen (exec (.arm .station 7) (withSeq { Sequencer.fresh with state := .armed })) sent = some (some [0x04]) := by
  decide +kernel
theorem test_start_pends :
    seen (exec (.start .station 9) (withSeq { Sequencer.fresh with list := [patch], state := .armed }))
      (fun t => (t.seq.startPending, sent t)) = some (true, some [0, 1, 1]) := by decide +kernel
theorem test_tick_begins_patch :
    seen (exec .internalGeneratorTick
        ((withSeq { Sequencer.fresh with list := [patch], state := .armed, startPending := true }).setTiming
          { Timing.fresh with generator := some 60 }))
      (fun t => (t.seq.state, t.seq.showNumber, t.seq.current.map (·.settleCounter), t.intake.progress)) =
      some (.running, 1, some 2, some 200) := by decide +kernel
theorem test_settle_ends :
    seen (exec .internalGeneratorTick
        ((withSeq (running { patch with showNumber := some 2, subPhase := some .settle, settleCounter := 1 })).setTiming
          { Timing.fresh with generator := some 60 }))
      (fun t => (t.seq.current.map (·.ready), heard t)) = some (some true, [0x70]) := by decide +kernel
theorem test_patch_append_clamps :
    seen (exec (.patchAppend .station 5 2 6 0 0xFFFF 1) opened) sent = some (some [0, 1, 1, 0xB0, 0x04, 1]) := by decide +kernel
theorem test_patch_append_tag_held :
    seen (exec (.patchAppend .station 5 2 6 0 0xFFFF 1) (withSeq (running held))) sent = some (some [0x07]) := by decide +kernel
theorem test_measure_unknown :
    seen (exec (.measure .station 3 9 0 (List.replicate 32 0)) opened) sent =
      some (some [0x08, 9, 0, 0, 0, 0, 0, 0, 0, 0, 0, 0, 0, 0]) := by decide +kernel
theorem test_no_aim :
    seen (exec (.measure .station 3 2 0 (List.replicate 32 0)) (withSeq (running held))) sent =
      some (some [0x0B, 2, 0, 0, 0, 0, 0, 0, 0, 0, 0, 0, 0, 0]) := by decide +kernel
theorem test_set_pin :
    seen (exec (.setPin .station 4 6 44 170) opened) (fun t => ((t.grid.node 6 44).cell.value, sent t)) =
      some (2720, some [0, 3, 0xA0, 0x0A]) := by decide +kernel
theorem test_set_aims_ceiling :
    seen (exec (.setAims .station 4 (List.replicate 15 1600 ++ [0xFFFF])) opened) (fun t => (t.grid.aims.getD 15 0, (sent t).map (·.take 2))) =
      some (65534, some [0, 1]) := by decide +kernel
theorem test_levels_not_rising :
    seen (exec (.setLevels .station 4 [1, 2, 2, 3, 4]) opened) sent = some (some [0x03]) := by decide +kernel
theorem test_restart_slice_range :
    seen (exec (.gridRestart .station 4 16) opened) sent = some (some [0x03]) := by decide +kernel
theorem test_profile_makes_current :
    seen (exec (.loadProfile .station 4 0 german) (opened.setRegion { Region.fresh with given := 276 }))
      (fun t => (t.region.currentCode, t.timing.rate, t.grid.ceiling, sent t)) =
      some (276, 50, some 1300, some [0, 0, 0x14, 0x01, 1]) := by decide +kernel
theorem test_set_region_no_profile :
    seen (exec (.setRegion .station 4 276) opened) sent = some (some [0x0D]) := by decide +kernel
theorem test_key_begin :
    seen (exec (.keyBegin .station 4 257 1 300 0 [276]) opened)
      (fun t => ((t.keys.entries.head?.join).map (fun e => (e.id, e.regions)), sent t)) =
      some (some (257, some [276]), some [0, 0, 1, 1]) := by decide +kernel
theorem test_key_fix_empty :
    seen (exec (.keyFix .station 4) opened) sent = some (some [0, 0, 0, 0, 0, 0x40]) := by decide +kernel
theorem test_key_fix_begins :
    seen (exec (.keyFix .station 4) (withKey (key .staged none))) (fun t => (t.nv.write, t.unit.op, sent t)) =
      some (some { place := .keyArea 0, data := [0x30, 0x00, 0xCF, 0xFF] }, some .keyFix, none) := by decide +kernel
theorem test_fetch_before_closed :
    seen (exec (.keyFetch .system 4 257 0 16) opened) (fun t => t.system.sending.map (·.payload)) = some (some [0x1D]) := by
  decide +kernel
theorem test_arm_on_system :
    seen (exec (.arm .system 4) opened) (fun t => t.system.sending) = some (some { kind := 0xB1, tag := 4, payload := [0x1E] }) := by
  decide +kernel
theorem test_tag_zero :
    seen (exec (.status .station 0) opened) sent = some (some [0x03]) := by decide +kernel
theorem test_check_argument :
    seen (exec (.setCheck .station 4 3 ⟨7, 0, 1, 1, 1⟩) opened) sent = some (some [0x03]) := by decide +kernel
theorem test_close_no_region :
    seen (exec (.close .station 4) opened) sent = some (some [0x15, 0, 0, 0, 0, 0]) := by decide +kernel
theorem test_open_begins_copy_a :
    seen (exec (.openUnit .station 4 0 [0x4C]) (State.sample .blank))
      (fun t => (t.nv.write.map (fun w => (w.place, w.data.take 8)), sent t)) =
      some (some (.copyA, [1, 0, 0, 0, 1, 0, 1, 0x4C]), none) := by decide +kernel
theorem test_part_reset_pends :
    seen (exec (.partReset .station 4) opened) (fun t => (t.unit.resetPending, sent t)) = some (true, some [0]) := by decide +kernel
theorem test_reset_cause :
    seen (exec (.reset .brownOut .whole) opened) (fun t => (t.power, t.unit.phase)) = some (.held .brownOut, .blank) := by
  decide +kernel
theorem test_marker_found :
    seen (exec (.markerRead ⟨workedMarker, false⟩) (opened.setRegion { Region.fresh with lineArmed := true }))
      (fun t => (t.region.markerPresent, t.region.sensedValid, heard t)) = some (true, false, [0x75]) := by decide +kernel
theorem test_third_match_locks :
    seen (exec (.inputFrameStart 4500 8250)
        (opened.setTiming { Timing.fresh with gapRunning := true, matchCount := 2, reference := some (4500, 8250) }))
      (fun t => (t.timing.lock, t.timing.source, sent t)) =
      some (true, .internal, some [1, 1, 0, 0x94, 0x11, 0x3A, 0x20]) := by decide +kernel
theorem test_trim_sent :
    seen (exec .internalGeneratorTick (opened.setTiming { Timing.fresh with generator := some 60 }))
      (fun t => (t.trim.dirty, t.trim.inFlight.map (·.sequence), t.trim.sequence)) = some (false, some 0, 1) := by decide +kernel
/-- The line carries 149 bytes, each most significant bit first: the start byte 0x5C is 01011100 (R191). -/
theorem test_trim_line :
    (TrimFrame.line { sequence := 0, image := opened.trimImage }).take 8 = [false, true, false, true, true, true, false, false] ∧
      (TrimFrame.line { sequence := 0, image := opened.trimImage }).length = 149 * 8 := by decide +kernel
theorem test_start_byte :
    seen (exec (.byteReceived .system 0xA5 true) opened) (fun t => (t.system.stage, t.system.buffer, t.system.gapRunning)) =
      some (.length, [0xA5], true) := by decide +kernel
theorem test_length_refused :
    seen (exec (.byteReceived .station 0x00 true) 
        (opened.setStation { PortCtl.fresh with stage := .length, buffer := [0xA5, 1], gapRunning := true }))
      (fun t => (t.station.stage, sent t)) = some (.hunt, some [1, 0, 3, 0, 1, 0]) := by decide +kernel

/-! ### Witnesses: the hypotheses of the obligations, clause by clause -/

/-- A state that runs, in the given phase, with nothing in the port's reply queue, takes a tagged request. -/
theorem admits {s : State} {p : Port} {tag : Byte} (running : s.power = .running) (noReset : s.unit.resetPending = false)
    (empty : (s.port p).replies = []) (tagged : tag ≠ 0) : s.Admits p tag :=
  ⟨running, noReset, by rw [empty]; cases p <;> decide, tagged⟩

theorem witness_StepRunsTheFrontCommand :
    (opened.setPending [.rowCount]).pending = .rowCount :: [] ∧ opened.pending = [] := ⟨rfl, rfl⟩

theorem witness_EveryWellFormedCommandCompletes :
    (Instr.keyBegin .station 1 257 1 16 0 [276]).wellFormed = true ∧ (Instr.markerRead ⟨[], false⟩).wellFormed = false := by decide

theorem witness_RequestSurvivesItsPayload :
    (Request.keyBegin 257 1 16 0 [276, 999]).wellFormed = true ∧ (Request.keyBegin 257 1 16 0 [276, 999]).lengthSuits = true ∧
      (Request.setAims [1]).wellFormed = true ∧ (Request.setAims [1]).lengthSuits = false := by decide

theorem witness_FrameBytesDeliverTheRequest :
    (Instr.setRegion .station 1 276).request? = some (.station, 1, .setRegion 276) ∧ (Request.setRegion 276).wellFormed = true ∧
      opened.power = .running ∧ (opened.port .station).Hunting ∧ opened.Quiet :=
  ⟨rfl, rfl, rfl, ⟨rfl, rfl, rfl⟩, fun _ => ⟨rfl, rfl⟩, fun _ => rfl⟩

/-- The part with both transmitters free and the given frames waiting on each port. -/
def ready (station reports system : List Frame) : State :=
  (opened.setStation { PortCtl.fresh with replies := station, reports := reports }).setSystem { PortCtl.fresh with replies := system }

/-- A STATUS reply of status OK, and a refused one. -/
def statusReply (status : Byte) : Frame := ⟨0x81, 1, [status, 0]⟩

theorem witness_RepliesAndArbitersTouchThePortsAlone :
    (opened.station.reports.length < 16 ∧
        16 ≤ (opened.setStation { PortCtl.fresh with reports := List.replicate 16 ⟨0x79, 0, []⟩ }).station.reports.length) ∧
      ((opened.setStation { PortCtl.fresh with sending := some (statusReply 0) }).station.sending.isSome = true ∧
        ((ready [statusReply 0] [⟨0x79, 0, []⟩] []).station.sending = none ∧
          (ready [statusReply 0] [⟨0x79, 0, []⟩] []).station.replies = statusReply 0 :: []) ∧
        ((ready [] [⟨0x79, 0, []⟩] []).station.replies = [] ∧ (ready [] [⟨0x79, 0, []⟩] []).station.reports = ⟨0x79, 0, []⟩ :: []) ∧
        ((ready [] [] []).station.replies = [] ∧ (ready [] [] []).station.reports = []) ∧
        (opened.setSystem { PortCtl.fresh with sending := some (statusReply 0) }).system.sending.isSome = true ∧
        ((ready [] [] [statusReply 0]).system.sending = none ∧ (ready [] [] [statusReply 0]).system.replies = statusReply 0 :: []) ∧
        opened.Quiet) ∧
      ((statusReply 0).kind = 0x81 ∧ (statusReply 0).payload.head? = some 0x00 ∧ (statusReply 2).payload.head? ≠ some 0x00) ∧
      (∀ replies, ((opened.setSystem { PortCtl.fresh with replies := replies, sending := some (statusReply 0) }).Quiet ∧
        (opened.setSystem { PortCtl.fresh with replies := replies, sending := some (statusReply 0) }).system.sending =
          some (statusReply 0))) :=
  ⟨by decide, ⟨rfl, ⟨rfl, rfl⟩, ⟨rfl, rfl⟩, ⟨rfl, rfl⟩, rfl, ⟨rfl, rfl⟩, fun _ => ⟨rfl, rfl⟩, fun _ => rfl⟩, by decide,
    fun _ => ⟨⟨fun _ => ⟨rfl, rfl⟩, nofun⟩, rfl⟩⟩

/-- A port whose reply queue holds the given number of frames, one more being in transmission. -/
def busyPort (n : Nat) : PortCtl :=
  { PortCtl.fresh with replies := List.replicate n ⟨0xB1, 1, [0]⟩, sending := some ⟨0xB1, 1, [0]⟩ }

theorem witness_SomeFramesAreNotDelivered :
    (Request.setRegion 276).wellFormed = true ∧ (opened.setStation (busyPort 16)).power = .running ∧
      (opened.setStation (busyPort 16)).unit.resetPending = false ∧ 16 ≤ (opened.setStation (busyPort 16)).station.replies.length ∧
      (Instr.setRegion .station 1 276).request? = some (.station, 1, .setRegion 276) ∧
      (Instr.status .system 1).request? = some (.system, 1, .status) ∧ 2 ≤ (opened.setSystem (busyPort 2)).system.replies.length ∧
      (opened.setUnit { opened.unit with resetPending := true }).power = .running ∧
      (opened.setUnit { opened.unit with resetPending := true }).unit.resetPending = true :=
  ⟨rfl, rfl, rfl, by decide, rfl, rfl, by decide, rfl, rfl⟩

theorem witness_ScreeningRefusesInOrder :
    (Request.arm.wellFormed = true ∧ opened.power = .running ∧ opened.unit.resetPending = false ∧
        (Instr.arm .system 1).request? = some (.system, 1, .arm) ∧ opened.system.replies.length < 2 ∧
        Request.arm.kind ∉ systemKinds) ∧
      ((Instr.keyFetch .station 1 257 0 1).request? = some (.station, 1, .keyFetch 257 0 1) ∧ opened.station.replies.length < 16 ∧
        (Request.keyFetch 257 0 1).kind = 0x03) ∧
      ((Instr.arm .station 0).request? = some (.station, 0, .arm) ∧ (opened.port .station).replies.length < overrunThreshold .station ∧
        Request.arm.kind ≠ 0x03 ∧ (Request.setAims []).wellFormed = true ∧ (Request.setAims []).lengthSuits = false ∧
        (Request.setAims []).kind ≠ 0x03) ∧
      (Request.arm.lengthSuits = true ∧ (State.sample .closed).Admits .station 1 ∧ (State.sample .closed).unit.phase = .closed) :=
  ⟨by decide, by decide, by decide, rfl, admits rfl rfl rfl (by decide), rfl⟩

theorem witness_SystemPortReadsAlone :
    (Instr.status .system 1).request? = some (.system, 1, .status) ∧ completes (.status .system 1) opened ∧ opened.Quiet :=
  ⟨rfl, ⟨_, rfl⟩, fun _ => ⟨rfl, rfl⟩, fun _ => rfl⟩

/-- The station port in the given stage of assembly, its gap timer running. -/
def assembling (stage : RxStage) (buffer : List Byte) : State :=
  opened.setStation { PortCtl.fresh with stage := stage, buffer := buffer, gapRunning := true }

theorem witness_ReceiverAssemblesAndAbandonsFrames :
    (opened.power = .running ∧ (opened.port .station).stage = .hunt ∧ (opened.port .station).gapRunning = false ∧
        (opened.port .station).lengthField = none) ∧
      (((assembling .length [0xA5]).port .station).stage = .length ∧ ((assembling .length [0xA5]).port .station).buffer = [0xA5] ∧
        ((assembling .length [0xA5]).port .station).gapRunning = true ∧
        ((assembling .length [0xA5]).port .station).lengthField = none) ∧
      (((assembling .length [0xA5, 0x02]).port .station).stage = .length ∧
        ((assembling .length [0xA5, 0x02]).port .station).buffer = [0xA5, 0x02] ∧ (half 0x02 0x00).toNat = 2 ∧
        (half 0x02 0x04).toNat = 1026 ∧ (half 0x01 0x00).toNat < 2 ∧ 1026 < (half 0x03 0x04).toNat) ∧
      (((assembling .body [0xA5, 2, 0]).port .station).lengthField = some 2 ∧
        ((assembling .body [0xA5, 2, 0]).port .station).buffer.length + 1 < 2 + 3 ∧
        ((assembling .body [0xA5, 2, 0, 1]).port .station).buffer.length + 1 = 2 + 3 ∧
        ((assembling .crc [0xA5, 2, 0, 1, 1]).port .station).buffer.length = 2 + 3 ∧
        ((assembling .crc [0xA5, 2, 0, 1, 1, 0]).port .station).lengthField = some 2 ∧
        ((assembling .crc [0xA5, 2, 0, 1, 1, 0]).port .station).buffer.length = 2 + 4 ∧
        crc16 (coveredBytes [0xA5, 2, 0, 1, 1, 0, 0] 2) ≠ receivedCrc [0xA5, 2, 0, 1, 1, 0, 0] 2) ∧
      ((assembling .crc [0xA5, 2, 0, 0x0F, 1, 0xE4]).unit.resetPending = false ∧
        ((assembling .crc (Frame.wire ⟨0x0F, 1, []⟩).dropLast).port .station).buffer ++ [(Frame.wire ⟨0x0F, 1, []⟩).getLast!] =
          Frame.wire ⟨0x0F, 1, []⟩ ∧
        (0x0F : Byte) ∉ requestKinds ∧ (0x80 : Byte) ∉ requestKinds) ∧
      ((opened.setSystem { PortCtl.fresh with stage := .length, buffer := [0xA5], gapRunning := true }).port .system).gapRunning =
        true := by
  decide +kernel

/-- The part with both transmitters busy and the given frames waiting on the station port. -/
def waiting (replies reports : List Frame) : State :=
  (opened.setStation { PortCtl.fresh with replies := replies, reports := reports, sending := some ⟨0xB1, 1, [0]⟩ }).setSystem (busyPort 0)

theorem witness_TransmitterServesRepliesFirst :
    ((waiting [⟨0xB2, 2, [0, 0, 0]⟩] []).power = .running ∧ (waiting [⟨0xB2, 2, [0, 0, 0]⟩] []).unit.resetPending = false ∧
        (waiting [⟨0xB2, 2, [0, 0, 0]⟩] []).system.sending.isSome = true ∧
        (waiting [⟨0xB2, 2, [0, 0, 0]⟩] []).station.sending = some ⟨0xB1, 1, [0]⟩ ∧
        (waiting [⟨0xB2, 2, [0, 0, 0]⟩] []).station.replies = ⟨0xB2, 2, [0, 0, 0]⟩ :: [] ∧
        Frame.isStatusReply ⟨0xB2, 2, [0, 0, 0]⟩ = false) ∧
      ((waiting [⟨0x81, 3, [0, 0]⟩] []).station.replies = ⟨0x81, 3, [0, 0]⟩ :: [] ∧ Frame.isStatusReply ⟨0x81, 3, [0, 0]⟩ = true) ∧
      ((waiting [] [⟨0x79, 0, [1]⟩]).station.replies = [] ∧ (waiting [] [⟨0x79, 0, [1]⟩]).station.reports = ⟨0x79, 0, [1]⟩ :: []) ∧
      ((waiting [] []).station.replies = [] ∧ (waiting [] []).station.reports = []) ∧
      ((waiting [] []).setSystem .fresh).system.sending = none ∧ ((waiting [] []).setSystem .fresh).system.replies = [] := by
  decide +kernel

/-- A key area filled to its end by fifteen spaces of 1,056 bytes and one of 544, none with a key. -/
def fullArea : List Host.Cell :=
  (List.range 15).flatMap (fun i => [(1056 * i, 0x20), (1056 * i + 1, 0x04), (1056 * i + 2, 0xDF), (1056 * i + 3, 0xFB)]) ++
    [(15840, 0x20), (15841, 0x02), (15842, 0xDF), (15843, 0xFD)]

theorem witness_ResetLosesVolatileState :
    opened.nv.write = none ∧
      SpacesLaid fullArea 0 (List.replicate 15 ⟨1056, none⟩ ++ [⟨544, none⟩]) 16384 ∧
      (SpacesLaid [] 0 [] 0 ∧ readSpaceWord 0 (Cells.readAll [] 0 4) = .blankWord) ∧
      (SpacesLaid [(0, 0x30)] 0 [] 0 ∧ readSpaceWord 0 (Cells.readAll [(0, 0x30)] 0 4) = .torn) := by
  simp only [SpacesLaid, List.replicate, List.cons_append, List.nil_append]
  decide +kernel

/-- A part held in reset whose copy A holds a valid record of the given mark, with the chapter 12 profile as its region record. -/
def stored (mark : Mark) : State :=
  State.volatileReset .powerOn
    { NvStore.unwritten with
      copyA := some (UnitRecord.bytes { generation := 3, mark := mark, rework := 1, serial := [0x4C], identity := none })
      regionRecord := some (profileGiven german).bytes }
    [] 0

theorem witness_StartupFollowsTheStoredMark :
    (State.reset.power = .held .powerOn ∧ State.reset.nv.newest = none) ∧
      ((stored .closing).power = .held .powerOn ∧
        (stored .closing).nv.newest =
          some (.a, { generation := 3, mark := .closing, rework := 1, serial := [0x4C], identity := none })) ∧
      ((stored .closed).nv.newest =
          some (.a, { generation := 3, mark := .closed, rework := 1, serial := [0x4C], identity := none }) ∧
        (stored .closed).nv.loadedProfile = some (profileGiven german)) ∧
      (Tuning.default.gmin ≤ 2008 ∧ 2008 ≤ Tuning.default.gmax ∧ Tuning.default.gmax < 2720 ∧
        Tuning.default.gmin ≤ Tuning.default.gmax ∧ 1000 < Tuning.default.gmin) := by
  decide +kernel

/-- Records whose values fit their bytes, at the ends of their ranges. -/
theorem witness_storable :
    ({ generation := 4294967295, mark := .closed, rework := 3, serial := List.replicate 24 0x7E,
       identity := some { line := 15, station := 65535 } } : UnitRecord).Storable ∧
      GridImage.unity.Storable ∧ (profileGiven german).Storable :=
  ⟨⟨by decide, by decide, by decide, fun i h => by cases Option.some.inj h; decide⟩,
    ⟨⟨List.length_replicate, fun slice h => by
        rw [List.eq_of_mem_replicate h]
        exact ⟨List.length_replicate, fun g hg => by rw [List.eq_of_mem_replicate hg]; decide⟩⟩,
      ⟨List.length_replicate, fun t h => by rw [List.eq_of_mem_replicate h]; decide⟩, by decide⟩,
    ⟨by decide, by decide, by decide, by decide⟩⟩

/-- The 11 bytes of a region record, by the layout of 11.4: code, mains, ceiling, class sets, band plan, language. -/
theorem test_stored_records_are_read_back :
    Profile.ofBytes [0x14, 0x01, 0x32, 0x30, 0x75, 0x05, 0x07, 0x02, 0x44, 0x45, 0x55] =
      some { code := 276, mains := 50, ceiling := 30000, required := ⟨true, false, true, false⟩, release := ⟨true, true, true, false⟩,
             bandPlan := 2, language := [0x44, 0x45, 0x55] } := by
  decide +kernel

theorem witness_ReadingRequestsReplyTheStateAsItStands :
    opened.Admits .system 1 ∧ opened.Admits .station 1 ∧
      ((15 : Byte).toNat ≤ 15 ∧ 1 ≤ (32 : Byte).toNat ∧ (32 : Byte).toNat ≤ 32 ∧ (544 : Half).toNat + (32 : Byte).toNat ≤ 576) ∧
      (15 < (16 : Byte).toNat ∧ 576 < (545 : Half).toNat + (32 : Byte).toNat) ∧
      (1 ≤ (48 : Byte).toNat ∧ (48 : Byte).toNat ≤ 48 ∧ (96 : Byte).toNat + (48 : Byte).toNat ≤ 144 ∧
        144 < (97 : Byte).toNat + (48 : Byte).toNat) :=
  ⟨admits rfl rfl rfl (by decide), admits rfl rfl rfl (by decide), by decide, by decide, by decide⟩

/-- CURRENT as chapter 12 leaves it. -/
def germany : CurrentRegion := { code := 276, place := .slot 0, profile := profileGiven german }

/-- A CLOSED part in the region of chapter 12, whose key table holds the given entry. -/
def closedWith (e : KeyEntry) : State :=
  ((State.sample .closed).setKeys { KeyTable.fresh with entries := some e :: List.replicate 23 none }).setRegion
    { Region.fresh with current := some germany }

theorem witness_KeyFetchIsServedUnderItsChecks :
    (opened.Admits .station 1 ∧ opened.Admits .system 1 ∧ opened.unit.phase ≠ .closed) ∧
      ((State.sample .closed).Admits .system 1 ∧ (State.sample .closed).unit.phase = .closed ∧
        (State.sample .closed).keys.find 257 = none) ∧
      ((closedWith (key .fixed (some 0))).Admits .system 1 ∧ (closedWith (key .fixed (some 0))).unit.phase = .closed ∧
        (closedWith (key .fixed (some 0))).keys.find 257 = some (0, key .fixed (some 0)) ∧
        (key .fixed (some 0)).released (closedWith (key .fixed (some 0))).region.current = true ∧
        16 < (1 : Half).toNat + (16 : Half).toNat ∧ (0 : Half).toNat + (16 : Half).toNat ≤ (key .fixed (some 0)).length) ∧
      ({ key .fixed (some 0) with cls := .identity } : KeyEntry).released (some germany) = false :=
  ⟨⟨admits rfl rfl rfl (by decide), admits rfl rfl rfl (by decide), by decide⟩, ⟨admits rfl rfl rfl (by decide), rfl, by decide⟩,
    ⟨admits rfl rfl rfl (by decide), rfl, by decide, by decide, by decide, by decide⟩, by decide⟩

/-- In phase OPEN, with nothing in the reply queue, a tagged request is taken. -/
theorem opens {s : State} {tag : Byte} (running : s.power = .running) (noReset : s.unit.resetPending = false)
    (phase : s.unit.phase = .opened) (empty : s.station.replies = []) (tagged : tag ≠ 0) : s.AdmitsOpen tag :=
  ⟨admits running noReset empty tagged, phase⟩

/-- A row of slice 6 whose counts are all 1640, shown under show number 2. -/
def row : Row := { frameTag := 9, patchTag := 2, showNumber := 2, slice := 6, row := 2, counts := List.replicate 32 1640 }

/-- That row in process, at the given column. -/
def rowAt (column : Nat) : RowInProcess := { row := row, aim := 1600, tuning := .default, column := column, tally := .zero }

/-- The state with that row in process. -/
def busyRow (column : Nat) : State := opened.setIntake { Intake.fresh with inProcess := some (rowAt column) }

/-- The state with that row in process and four aim tables held. -/
def busyHeld : State :=
  (busyRow 5).setGrid { Grid.fresh with held := List.replicate 4 (.setAims 1 (List.replicate 16 0) false) }

/-- A fresh part has every table at its size. -/
theorem witness_shaped (s : State) (grid : s.grid = .fresh) (slots : s.region.slots = List.replicate 8 none)
    (checks : s.checks = List.replicate 16 .fresh) : s.Shaped where
  colour := by
    rw [grid]
    exact ⟨List.length_replicate, fun slice h => by rw [List.eq_of_mem_replicate h]; exact List.length_replicate⟩
  white := by rw [grid]; exact List.length_replicate
  zones := by rw [grid]; exact List.length_replicate
  levels := by rw [grid]; rfl
  aims := by rw [grid]; rfl
  sticky := by rw [grid]; rfl
  held := by rw [grid]; nofun
  slots := by rw [slots]; rfl
  checks := by rw [checks]; rfl

/-- A LOCKED cell and a cell at the lower limit of the default record. -/
def lockedCell : Cell := { Cell.fresh 2048 with state := .locked, streak := 2 }

theorem witness_SetTuningInstallsAndReclamps :
    (opened.AdmitsOpen 1 ∧ opened.intake.queue = [] ∧ opened.intake.inProcess = none) ∧
      ((busyRow 5).AdmitsOpen 1 ∧ (busyRow 5).intake.inProcess.isSome = true) ∧
      (opened.Shaped ∧ Tuning.default.gmin ≤ Tuning.default.gmax ∧ Tuning.default.zmin ≤ Tuning.default.zmax ∧
        (NodeRec.fresh.cell.state ≠ .pinned ∧ Tuning.default.gmin ≤ NodeRec.fresh.cell.value) ∧
        Tuning.default.gmax < ({ NodeRec.fresh with cell := .fresh 2561 } : NodeRec).cell.value ∧
        Tuning.default.zmin ≤ ZoneRec.fresh.cell.value ∧
        ({ ZoneRec.fresh with cell := .fresh 95 } : ZoneRec).cell.value < Tuning.default.zmin) ∧
      (Tuning.default.fineLoop.low ≤ Tuning.default.fineLoop.high ∧ (Cell.fresh 2048).state = .seeking ∧ lockedCell.state = .locked ∧
        (41 : Int).natAbs ≤ Tuning.default.fineLoop.lockWindow ∧ Tuning.default.fineLoop.lockWindow < (42 : Int).natAbs ∧
        (loopUpdate Tuning.default.fineLoop 2 41 { Cell.fresh 2048 with streak := 1 }).streak = Tuning.default.fineLoop.lockCount ∧
        (loopUpdate Tuning.default.fineLoop 2 41 (Cell.fresh 2048)).streak < Tuning.default.fineLoop.lockCount ∧
        (-82 : Int).natAbs ≤ 2 * Tuning.default.fineLoop.lockWindow ∧ 2 * Tuning.default.fineLoop.lockWindow < (83 : Int).natAbs ∧
        (loopUpdate Tuning.default.fineLoop 2 (-4096) (Cell.fresh 1536)).saturated = true ∧
        (loopUpdate Tuning.default.fineLoop 2 4096 (Cell.fresh 2560)).saturated = true ∧
        (loopUpdate Tuning.default.fineLoop 2 164 (Cell.fresh 2048)).saturated = false) :=
  ⟨⟨opens rfl rfl rfl rfl (by decide), rfl, rfl⟩, ⟨opens rfl rfl rfl rfl (by decide), rfl⟩,
    ⟨witness_shaped _ rfl rfl rfl, by decide⟩, by decide⟩

theorem witness_SetAimsTakesForceOrIsHeld :
    (opened.AdmitsOpen 1 ∧ (List.replicate 16 (1600 : Half)).length = 16 ∧ opened.intake.inProcess = none) ∧
      ((busyRow 0).AdmitsOpen 1 ∧ (busyRow 0).intake.inProcess.isSome = true ∧ (busyRow 0).grid.heldRequests < 4) ∧
      (busyHeld.AdmitsOpen 1 ∧ busyHeld.intake.inProcess.isSome = true ∧ 4 ≤ busyHeld.grid.heldRequests) ∧
      (Grid.fresh.colour.length = 15 ∧ effectiveAim (List.replicate 16 0) none 6 = Grid.fresh.effectiveAim 6 ∧
        effectiveAim (List.replicate 16 1600) none 6 ≠ Grid.fresh.effectiveAim 6 ∧
        effectiveAim (List.replicate 16 0) none 15 = Grid.fresh.effectiveAim 15 ∧
        effectiveAim (List.replicate 16 1600) (some 1300) 15 ≠ Grid.fresh.effectiveAim 15) ∧
      (opened.grid.held = [] ∧ opened.intake.queue = [] ∧
        busyHeld.grid.held = List.replicate 3 (.setAims 1 (List.replicate 16 0) false) ++ [.setAims 1 (List.replicate 16 0) false] ∧
        (opened.setIntake { Intake.fresh with queue := [row] }).intake.queue = row :: []) :=
  ⟨⟨opens rfl rfl rfl rfl (by decide), by decide, rfl⟩, ⟨opens rfl rfl rfl rfl (by decide), rfl, by decide⟩,
    ⟨opens rfl rfl rfl rfl (by decide), rfl, by decide⟩, by decide, rfl, rfl, rfl, rfl⟩

/-- A node pinned at sixteen times the given value. -/
def pinnedAt (value : Nat) : NodeRec := { NodeRec.fresh with cell := { Cell.fresh (16 * value) with state := .pinned }, pin := value }

theorem witness_SetPinTakesTheNode :
    (opened.AdmitsOpen 1 ∧ 14 < (15 : Byte).toNat ∧ 575 < (576 : Half).toNat ∧ (14 : Byte).toNat ≤ 14 ∧ (575 : Half).toNat ≤ 575 ∧
        opened.intake.inProcess = none) ∧
      ((busyRow 0).AdmitsOpen 1 ∧ (busyRow 0).intake.inProcess.isSome = true ∧ (busyRow 0).grid.heldRequests < 4) ∧
      (busyHeld.AdmitsOpen 1 ∧ busyHeld.intake.inProcess.isSome = true ∧ 4 ≤ busyHeld.grid.heldRequests) ∧
      opened.Shaped ∧
      ((pinnedAt 96).cell.state = .pinned ∧ Tuning.default.gmin ≤ (pinnedAt 96).cell.value ∧
        (pinnedAt 160).cell.value ≤ Tuning.default.gmax ∧ (pinnedAt 95).cell.value < Tuning.default.gmin ∧
        Tuning.default.gmax < (pinnedAt 161).cell.value ∧ NodeRec.fresh.cell.state ≠ .pinned) ∧
      (0 < 15 ∧ 15 < 16) :=
  ⟨⟨opens rfl rfl rfl rfl (by decide), by decide⟩, ⟨opens rfl rfl rfl rfl (by decide), rfl, by decide⟩,
    ⟨opens rfl rfl rfl rfl (by decide), rfl, by decide⟩, witness_shaped _ rfl rfl rfl, by decide, by decide⟩

theorem witness_RestartRequestsRestartTheirSlices :
    (opened.AdmitsOpen 1 ∧ opened.seq.inRun = false ∧ restartScope 0xFF = some .all ∧ restartScope 15 = some (.one 15)) ∧
      (opened.seq.state = .idle ∧ ([64, 256, 512, 768, 1023] : List Half).length = 5 ∧
        levelsValid (([64, 256, 512, 768, 1023] : List Half).map (·.toNat)) = true) ∧
      opened.Shaped ∧
      (NodeRec.fresh.cell.state ≠ .pinned ∧ (pinnedAt 170).cell.state = .pinned) :=
  ⟨⟨opens rfl rfl rfl rfl (by decide), rfl, by decide, by decide⟩, ⟨rfl, rfl, by decide⟩, witness_shaped _ rfl rfl rfl, by decide⟩

/-- The default tuning record is within its ranges. -/
theorem witness_default_legal : Tuning.default.Legal := by constructor <;> decide

theorem witness_ErrorAndLoopGainAreBounded :
    (1 ≤ 1600 ∧ 1600 ≤ 65534 ∧ 3200 ≤ 65534 ∧ 3200 ≤ 2 * 1600 ∧ 2 * 1600 < 3201) ∧
      (8191 ≤ 2 * 8192 ∧ 2 * (errorOf 8192 8191 * 8192 - (8192 - 8191) * 4096).natAbs = 8192) ∧
      2 * (roundDiv (-6) 4 * 4 - (-6)).natAbs = 4 ∧ Tuning.default.Legal ∧ 2 * Tuning.default.fineBand ≤ 328 ∧
      164 ≤ Tuning.default.fineBand ∧ Tuning.default.fineBand < 246 ∧ 246 < 2 * Tuning.default.fineBand :=
  ⟨by decide, by decide, by decide, witness_default_legal, by decide, by decide, by decide, by decide⟩

theorem witness_UpdateMovesTowardTheAim :
    Tuning.default.fineLoop.low ≤ Tuning.default.fineLoop.high ∧ Tuning.default.fineLoop.low ≤ (Cell.fresh 2048).value ∧
      (Cell.fresh 2048).value ≤ Tuning.default.fineLoop.high ∧ 1 ≤ (Cell.fresh 2048).value ∧
      Tuning.default.fineLoop.lockWindow < (42 : Int).natAbs ∧ (Cell.fresh 2048).value < Tuning.default.fineLoop.high ∧
      Tuning.default.fineLoop.lockWindow < (-42 : Int).natAbs ∧ Tuning.default.fineLoop.low < (Cell.fresh 2048).value := by
  decide

/-- A zone that gathers show number 1, with the given count and short flag. -/
def gathering (count : Nat) (short : Bool) : ZoneRec :=
  { ZoneRec.fresh with pendingShow := some 1, pendingCount := count, pendingShort := short }

/-- The part whose nodes all measured 1600 with error -42. -/
def measured : State :=
  opened.setGrid
    { Grid.fresh with
      colour := List.replicate 15 (List.replicate 576 { NodeRec.fresh with lastMeasured := some 1600, lastError := some (-42) }) }

theorem witness_CountsHaveTheirOutcomes :
    (1640 < 65535 ∧ NodeRec.fresh.cell.state = .seeking ∧ NodeRec.fresh.cell.appliedAt < 1 ∧ 0 ≤ NodeRec.fresh.cell.appliedAt ∧
        (pinnedAt 170).cell.state = .pinned) ∧
      ((gathering 3 false).cell.state = .seeking ∧ (gathering 3 false).cell.state ≠ .stalled ∧
        ({ ZoneRec.fresh with cell := { Cell.fresh 128 with state := .stalled } } : ZoneRec).cell.state = .stalled ∧
        0 ≤ (gathering 3 false).cell.appliedAt ∧ (gathering 3 false).cell.appliedAt < 1 ∧
        ({ ZoneRec.fresh with pendingShow := some 2 } : ZoneRec).pendingShow = some 2 ∧ 1 < 2 ∧
        (gathering 3 false).pendingShow = some 1 ∧ (gathering 3 false).pendingShort = false ∧ (gathering 2 true).pendingShort = true ∧
        (gathering 2 false).pendingCount ≠ 3 ∧ (gathering 3 false).pendingCount = 3) ∧
      ((opened.setIntake { Intake.fresh with inProcess := some { rowAt 30 with row := { row with slice := 15 } } }).power = .running ∧
        ({ row with slice := 15 } : Row).slice = 15 ∧ (rowAt 30).column < 31) ∧
      (none ∈ (opened.grid.slice 6).map (·.lastMeasured) ∧ (∀ e ∈ (opened.grid.slice 6).map (·.lastError), e = none)) ∧
      ((measured.grid.slice 6).map (·.lastMeasured) = (List.replicate 576 1600).map some ∧ 1600 ∈ List.replicate 576 1600 ∧
        some (-42 : Int) ∈ (measured.grid.slice 6).map (·.lastError)) ∧
      (128 ∈ trimsOf opened.grid.zones ∧ opened.region.sensedValid = false ∧
        (opened.setRegion { Region.fresh with sensedValid := true }).region.sensedValid = true) := by
  decide +kernel

theorem witness_RowCountTakesOneCountAndCompletes :
    ((busyRow 30).power = .running ∧ (busyRow 30).intake.inProcess = some (rowAt 30) ∧ (rowAt 30).row.slice ≠ 15 ∧
        (rowAt 30).column < 31) ∧
      ((busyRow 31).power = .running ∧ (busyRow 31).intake.inProcess = some (rowAt 31) ∧ (rowAt 31).column = 31 ∧
        (∀ pixels rest, (busyRow 31).pending ≠ .markerRead ⟨pixels, true⟩ :: rest) ∧
        ((busyRow 31).setPending [.markerRead ⟨[], true⟩]).pending = .markerRead ⟨[], true⟩ :: []) ∧
      ((List.replicate 768 (⟨0, 0, 0⟩ : Pixel)).length = 768 ∧ opened.power = .running ∧ opened.intake.inProcess = none ∧
        opened.grid.held = []) :=
  ⟨⟨rfl, rfl, by decide, by decide⟩, ⟨rfl, rfl, rfl, nofun, rfl⟩, List.length_replicate, rfl, rfl, rfl⟩

/-- The part at the last count of a row, another row queued, the decoder reading line 0, with the given commands waiting. -/
def completing (waiting : List Instr) : State :=
  (((busyRow 31).setIntake { Intake.fresh with queue := [{ row with row := 3 }], inProcess := some (rowAt 31) }).setRegion
    { Region.fresh with lineArmed := true }).setPending waiting

/-- The column of the row in process and the rows queued. -/
def rowsOf (t : State) : Option (Nat × Nat) × Nat := (t.intake.inProcess.map (fun r => (r.row.row, r.column)), t.intake.queue.length)

/-- The next row begins with the completion (R55), a later marker read waiting or not; only a marker read of the same moment, taken second, comes
before it (R127). -/
theorem test_next_row_begins :
    seen (exec .rowCount (completing [])) rowsOf = some (some (3, 0), 0) ∧
      seen (exec .rowCount (completing [.markerRead ⟨[], false⟩])) rowsOf = some (some (3, 0), 0) ∧
      seen (exec .rowCount (completing [.markerRead ⟨[], true⟩])) rowsOf = some (none, 1) := by
  decide +kernel

/-- The row that a completion left to begin begins at the end of the marker read (R127). -/
theorem test_due_row_begins_after_the_marker :
    seen (exec (.markerRead ⟨List.replicate 768 ⟨0, 0, 0⟩, true⟩) ((completing []).setIntake { Intake.fresh with queue := [row] })) rowsOf =
      some (some (2, 0), 0) := by
  decide +kernel

/-- The running patch of slice 6, with an aim for every slice. -/
def aimed (q : Patch) : State := (withSeq (running q)).setGrid { Grid.fresh with aims := List.replicate 16 1600 }

theorem witness_MeasureChecksAndQueuesTheRow :
    ((aimed held).AdmitsOpen 9 ∧ (List.replicate 32 (1640 : Half)).length = 32 ∧ (17 : Byte).toNat ≤ 17 ∧
        (aimed held).seq.findShown 2 = some held ∧ held.ready = true ∧ 17 ∉ held.received ∧
        (aimed held).grid.aims.getD held.slice 0 ≠ 0 ∧ (aimed held).intake.queue.length < 8) ∧
      ((aimed held).AdmitsUnclosed 9 ∧ (State.sample .parked).AdmitsUnclosed 9 ∧ (State.sample .parked).unit.phase ≠ .opened ∧
        17 < (18 : Byte).toNat ∧ (aimed held).seq.findShown 3 = none ∧ patch.ready = false ∧
        17 ∈ ({ held with received := [17] } : Patch).received ∧ (withSeq (running held)).grid.aims.getD held.slice 0 = 0 ∧
        8 ≤ ((aimed held).setIntake { Intake.fresh with queue := List.replicate 8 row }).intake.queue.length) :=
  ⟨⟨opens rfl rfl rfl rfl (by decide), by decide, by decide, by decide, rfl, by decide, by decide, by decide⟩,
    ⟨admits rfl rfl rfl (by decide), by decide⟩, ⟨admits rfl rfl rfl (by decide), by decide⟩, by decide, by decide, by decide, rfl,
    by decide, by decide, by decide⟩

/-- The running patch with the progress timer running. -/
def progressing (g : Grid) : State := ((withSeq (running held)).setIntake { Intake.fresh with progress := some 200 }).setGrid g

theorem witness_ProgressReportsTheCurrentSlice :
    (progressing .fresh).power = .running ∧ (progressing .fresh).intake.progress = some 200 ∧
      (progressing .fresh).seq.current = some held ∧ (progressing .fresh).grid.countState held.slice .seeking ≠ 0 ∧
      (progressing { Grid.fresh with colour := [] }).grid.countState held.slice .seeking = 0 := by
  decide +kernel

theorem witness_SequencerRequestsMoveTheSequencer :
    (opened.AdmitsOpen 1 ∧ opened.seq.state = .idle) ∧
      ((withSeq { Sequencer.fresh with list := [patch], state := .armed, startPending := true }).AdmitsOpen 1 ∧
        ({ Sequencer.fresh with list := [patch], state := .armed, startPending := true } : Sequencer).list ≠ [] ∧
        ({ Sequencer.fresh with list := [patch], state := .armed, startPending := true } : Sequencer).showNumber < 4294967295) ∧
      (withSeq (running held)).AdmitsOpen 1 ∧ (running held).state = .running ∧ (running held).inRun = true :=
  ⟨⟨opens rfl rfl rfl rfl (by decide), rfl⟩, ⟨opens rfl rfl rfl rfl (by decide), by decide, by decide⟩,
    opens rfl rfl rfl rfl (by decide), rfl, rfl⟩

theorem witness_PatchRequestsChangeTheList :
    (withSeq (running held)).AdmitsOpen 1 ∧ (3 : Byte) ≠ 0 ∧ (15 : Byte).toNat ≤ 15 ∧ (1 : Byte).toNat ≤ 1 ∧
      (∀ q ∈ (withSeq (running held)).seq.records, q.tag ≠ (3 : Byte).toNat) ∧ (withSeq (running held)).seq.list.length < 16 ∧
      (State.sample .parked).Admits .station 1 ∧ (State.sample .parked).unit.phase ≠ .opened :=
  ⟨opens rfl rfl rfl rfl (by decide), by decide, by decide, by decide, by decide, by decide, admits rfl rfl rfl (by decide), by decide⟩

theorem witness_BoundaryStartsAndAdvancesTheRun :
    ((withSeq { Sequencer.fresh with list := [patch], state := .armed, startPending := true }).seq.state = .armed ∧
        (withSeq { Sequencer.fresh with list := [patch], state := .armed, startPending := true }).seq.list = patch :: [] ∧
        (withSeq { Sequencer.fresh with state := .armed, startPending := true }).seq.startPending = true ∧
        (withSeq { Sequencer.fresh with state := .armed, startPending := true }).seq.list = []) ∧
      ((running held).inRun = true ∧ (running held).current = some held ∧ (running held).haltRequested = false ∧
        ({ running held with haltRequested := true } : Sequencer).inRun = true ∧
        ({ running held with advanceRequested := true } : Sequencer).inRun = true) ∧
      (({ held with subPhase := some .settle, settleCounter := 2 } : Patch).subPhase = some .settle ∧
        2 ≤ ({ held with subPhase := some .settle, settleCounter := 2 } : Patch).settleCounter ∧
        ({ held with subPhase := some .settle, settleCounter := 1 } : Patch).settleCounter = 1) ∧
      (held.subPhase = some .hold ∧ held.autoAdvance = false ∧ held.holdCount + 1 < held.holdLimit ∧
        held.holdLimit ≤ ({ held with holdCount := 59 } : Patch).holdCount + 1 ∧
        ({ held with autoAdvance := true, completed := List.range 18 } : Patch).autoAdvance = true ∧
        ∀ row < 18, row ∈ ({ held with autoAdvance := true, completed := List.range 18 } : Patch).completed) := by
  decide +kernel

theorem witness_EndedPatchEntersTheHistory :
    ((withSeq (running held)).seq.history.length ≤ 4 ∧ (running held).inRun = true ∧
        ({ running held with history := List.replicate 4 held } : Sequencer).history.length = 4 ∧
        ({ running held with haltRequested := true } : Sequencer).haltRequested = true ∧
        ({ running held with state := .stopping } : Sequencer).state = .stopping ∧
        ({ running held with state := .stopping } : Sequencer).inRun = true ∧ (running held).haltRequested = false ∧
        (running held).state = .running ∧ (running held).list = [] ∧
        ({ running held with list := [patch] } : Sequencer).list = patch :: [] ∧
        ({ running held with showNumber := 4294967294 } : Sequencer).showNumber < 4294967295 ∧
        4294967295 ≤ ({ running held with showNumber := 4294967295 } : Sequencer).showNumber) ∧
      (opened.seq.state = .idle ∧ (withSeq { Sequencer.fresh with state := .armed }).seq.state = .armed ∧
        (running held).current = some held ∧ held.slice = 5 + 1 ∧ ({ held with slice := 4 } : Patch).slice = 4 ∧
        ({ held with slice := 14 } : Patch).slice = 10 + 4 ∧ ({ held with slice := 15 } : Patch).slice = 15 ∧
        opened.applier.mode = .bypass) := by
  decide +kernel

theorem witness_GeneratorTickIsABoundary :
    (opened.setTiming { Timing.fresh with generator := some 60 }).power = .running ∧
      (opened.setTiming { Timing.fresh with generator := some 60 }).timing.generator = some 60 := ⟨rfl, rfl⟩

/-- The part with its gap timer running and the given lock, source, match count and reference. -/
def timed (lock : Bool) (source : TimingSource) (n : Nat) (reference : Option (Nat × Nat)) : State :=
  opened.setTiming { Timing.fresh with lock := lock, source := source, matchCount := n, reference := reference, gapRunning := true }

/-- Locked to the input, a patch being settled, the marker present. -/
def settling : State :=
  ((timed true .input 3 (some (4500, 8250))).setSeq (running { held with subPhase := some .settle, settleCounter := 1 })).setRegion
    { Region.fresh with markerPresent := true }

theorem witness_FrameStartFollowsLockAndSource :
    ((timed false .internal 0 none).power = .running ∧ (timed false .internal 0 none).timing.gapRunning = true ∧
        (timed false .internal 0 none).timing.lock = false ∧ (timed false .internal 0 none).timing.source = .internal ∧
        (timed false .internal 0 none).timing.reference ≠ some ((4500 : Half).toNat, (8250 : Half).toNat)) ∧
      ((timed false .internal 2 (some (4500, 8250))).timing.reference = some ((4500 : Half).toNat, (8250 : Half).toNat) ∧
        (timed false .internal 2 (some (4500, 8250))).timing.matchCount = 2 ∧
        (timed false .internal 1 (some (4500, 8250))).timing.matchCount = 1) ∧
      ((timed true .input 3 (some (4500, 8250))).timing.lock = true ∧ (timed true .input 3 (some (4500, 8250))).timing.source = .input ∧
        (timed true .input 3 (some (4500, 8250))).timing.reference ≠ some ((4500 : Half).toNat, (8251 : Half).toNat)) ∧
      ((timed true .internal 3 (some (4500, 8250))).timing.source = .internal ∧
        (timed true .internal 3 (some (4500, 8250))).seq.inRun = false ∧
        ((timed true .internal 3 (some (4500, 8250))).setSeq (running held)).seq.inRun = true ∧
        (timed true .internal 3 (some (4500, 8250))).timing.reference ≠ some ((4500 : Half).toNat, (8251 : Half).toNat)) ∧
      (settling.timing.lock = true ∧ settling.timing.source = .input ∧ settling.timing.gapRunning = true ∧
        settling.timing.reference ≠ some ((4500 : Half).toNat, (8251 : Half).toNat) ∧ settling.seq.inRun = true ∧
        settling.seq.current = some { held with subPhase := some .settle, settleCounter := 1 } ∧
        settling.region.markerPresent = true ∧ (timed true .input 3 (some (4500, 8250))).region.markerPresent = false) ∧
      opened.timing.gapRunning = false ∧ opened.timing.lock = false ∧ opened.timing.source = .internal := by
  decide +kernel

theorem witness_GapExpiryLosesTheLock :
    (timed false .internal 2 (some (4500, 8250))).timing.lock = false ∧ (timed true .input 3 (some (4500, 8250))).timing.lock = true ∧
      ((timed true .input 3 (some (4500, 8250))).setSeq
          (running { held with subPhase := some .settle, settleCounter := 1 })).seq.inRun = true ∧
      (settling.seq.inRun = true ∧ settling.seq.current = some { held with subPhase := some .settle, settleCounter := 1 } ∧
        held.subPhase ≠ some .settle ∧ (timed true .input 3 (some (4500, 8250))).seq.inRun = false) ∧
      (timed true .internal 3 (some (4500, 8250))).timing.source = .internal ∧
      (timed true .input 3 (some (4500, 8250))).region.markerPresent = false ∧
      ((timed true .input 3 (some (4500, 8250))).setRegion { Region.fresh with markerPresent := true }).region.markerPresent = true := by
  decide +kernel

theorem witness_OutputFollowsTheFrameView :
    (({ mode := .working, gains := [], levels := defaultLevels } : FrameView).mode ≠ .bypass ∧
        64 ≤ defaultLevels.getD 0 0 ∧ defaultLevels.getD 4 0 ≤ 1023 ∧ defaultLevels.getD 1 0 = 256 ∧
        defaultLevels.getD 0 0 ≤ 200 ∧ 200 < defaultLevels.getD (0 + 1) 0) ∧
      ((30 < 31 ∧ 239 < 240 ∨ 30 = 31 ∧ 239 = 0) ∧ (17 < 17 ∧ 0 < 240 ∨ 17 = 17 ∧ 0 = 0) ∧ 119 ≤ 120 ∧ 7560 ≤ 7679 ∧ 4200 ≤ 4319) ∧
      (1023 ≤ 1023 ∧ (List.replicate 576 2048).length = 576 ∧ 17 < 18 ∧ 31 < 32 ∧
        (∀ g ∈ List.replicate 576 2048, 1536 ≤ g ∧ g ≤ 2560) ∧
        7679 < 7680 ∧ 4319 < 4320 ∧ levelsValid defaultLevels = true) ∧
      (({ mode := .working, gains := List.replicate 15 (List.replicate 576 2048), levels := defaultLevels } : FrameView).gains =
        List.replicate 15 (List.replicate 576 2048)) ∧
      ({ mode := .bypass, gains := [], levels := [] } : FrameView).mode = .bypass :=
  ⟨⟨nofun, by decide⟩, by decide,
    ⟨by decide, List.length_replicate, by decide, by decide, fun g h => by rw [List.eq_of_mem_replicate h]; decide, by decide, by decide,
      by decide⟩, rfl, rfl⟩

theorem witness_TrimFramesFollowTheDirtyFlag :
    opened.trim.dirty = true ∧ opened.trim.inFlight = none ∧ opened.trim.lastSent ≠ some opened.trimImage ∧
      (opened.setTrim { TrimOutput.fresh with lastSent := some opened.trimImage }).trim.lastSent =
        some (opened.setTrim { TrimOutput.fresh with lastSent := some opened.trimImage }).trimImage ∧
      (opened.setTrim { TrimOutput.fresh with dirty := false }).trim.dirty = false ∧ opened.power = .running ∧
      (opened.setTrim { TrimOutput.fresh with inFlight := some { sequence := 0, image := opened.trimImage } }).trim.inFlight =
        some { sequence := 0, image := opened.trimImage } ∧ opened.trimImage.trims.length = 144 :=
  ⟨rfl, rfl, nofun, rfl, rfl, rfl, rfl, rfl⟩

/-- The part with chapter 12's profile in slot 0 and its region CURRENT. -/
def inGermany : State :=
  opened.setRegion
    { Region.fresh with slots := some (profileGiven german) :: List.replicate 7 none, given := 276, current := some germany }

/-- The part whose decoder reads line 0, the last accepted marker and the pending high byte being as given. -/
def expecting (last high : Option Marker) : State :=
  opened.setRegion { Region.fresh with lineArmed := true, markerPresent := true, lastMarker := last, pendingHigh := high }

/-- A marker of line 3 and region 276 with the given frame index. -/
def marker (index : Nat) : Marker := { frameIndex := index, line := 3, code := 276, stationByte := 0x1A }

theorem witness_RegionRequestsRecomputeCurrent :
    (opened.AdmitsOpen 1 ∧ (7 : Byte).toNat ≤ 7 ∧ profileValid german = true ∧ opened.region.heldElsewhere 7 276 = false ∧
        opened.region.currentIn 7 = false) ∧
      (inGermany.AdmitsOpen 1 ∧ inGermany.region.heldElsewhere 7 276 = true ∧ inGermany.region.heldElsewhere 0 276 = false ∧
        inGermany.region.currentIn 0 = true) ∧
      ((999 : Half).toNat ≤ 999 ∧ inGermany.seq.inRun = false ∧ inGermany.region.profileFor 999 = none ∧
        (inGermany.region.profileFor 276).isSome = true ∧ (276 : Half).toNat = inGermany.region.given ∧
        (0 : Half).toNat ≠ inGermany.region.given) ∧
      (opened.unit.phase = .opened ∧
        (opened.region.current.map (fun c => (c.code, c.profile)) = opened.region.computed.map (fun c => (c.code, c.profile))) ∧
        ((opened.setRegion { inGermany.region with current := none }).region.current.map (fun c => (c.code, c.profile)) ≠
          (opened.setRegion { inGermany.region with current := none }).region.computed.map (fun c => (c.code, c.profile))) ∧
        ((withSeq (running held)).seq.inRun = true ∧ (50 : Nat) ≠ Timing.fresh.rate ∧ (60 : Nat) = Timing.fresh.rate) ∧
        (opened.intake.inProcess = none ∧ (busyRow 0).intake.inProcess.isSome = true ∧
          (∀ limit, HeldItem.ceiling limit ∉ busyHeld.grid.held) ∧
          ([.setPin 1 0 0 0, .ceiling none] : List HeldItem) = [.setPin 1 0 0 0] ++ .ceiling none :: [])) ∧
      (workedMarker.length = 768 ∧ (expecting none none).region.lineArmed = true ∧
        decodeMarker (cellValues workedMarker) = some (marker 0) ∧
        (∃ last, (expecting (some (marker 1)) none).region.lastMarker = some last ∧ last.code = (marker 0).code ∧
          1 ≤ (marker 0).code ∧ (marker 0).code ≤ 999) ∧
        (expecting none none).region.lastMarker = none ∧ (expecting none (some (marker 2))).region.pendingHigh = some (marker 2) ∧
        (marker 0).frameIndex ≠ (marker 2).frameIndex + 1 ∧ (marker 1).frameIndex = (marker 0).frameIndex + 1) ∧
      opened.region.identity ≠ some { line := 3, station := 0x2B1A } ∧ (State.sample .parked).unit.phase ≠ .opened :=
  ⟨⟨opens rfl rfl rfl rfl (by decide), by decide, by decide, by decide, by decide⟩,
    ⟨opens rfl rfl rfl rfl (by decide), by decide, by decide, by decide⟩, by decide,
    ⟨rfl, rfl, by decide, by decide, rfl, rfl, fun _ h => HeldItem.noConfusion (List.eq_of_mem_replicate h), rfl⟩,
    ⟨by decide +kernel, rfl, by decide +kernel, ⟨marker 1, rfl, rfl, by decide, by decide⟩, rfl, rfl, by decide, by decide⟩, nofun, nofun⟩

/-- The markers of indices 0 and 1 assemble a station identity (R124). -/
theorem test_identity_assembled :
    seen (exec (.markerRead ⟨cellPixels ([0x6C, 0x35, 0x4D, 0x14, 0x2B, 0xC5].flatMap bitsMsbFirst), false⟩) (expecting none (some (marker 0))))
      (fun t => t.region.identity) = some (some { line := 3, station := 0x1A2B }) := by
  decide +kernel

/-- The pixels of line 0 as the generator draws the marker of chapter 6's worked case. -/
def drawnPixels : List Pixel :=
  (List.range 768).map (fun i =>
    if ((0x6C35#16 ++ (0#2 ++ 3#4 ++ 276#10 ++ 0x1A#8) ++
        crc8 ((List.range 24).map (fun j => (0#2 ++ 3#4 ++ 276#10 ++ 0x1A#8).getMsbD j))) : BitVec 48).getMsbD (i / 16)
    then { r := 1023, g := 1023, b := 1023 } else { r := 0, g := 0, b := 0 })

theorem witness_DrawnMarkerIsDecoded :
    ∀ i < 768, ∃ px, drawnPixels[i]? = some px ∧
      px = (if ((0x6C35#16 ++ (0#2 ++ 3#4 ++ 276#10 ++ 0x1A#8) ++
          crc8 ((List.range 24).map (fun j => (0#2 ++ 3#4 ++ 276#10 ++ 0x1A#8).getMsbD j))) : BitVec 48).getMsbD (i / 16)
        then { r := 1023, g := 1023, b := 1023 } else { r := 0, g := 0, b := 0 }) :=
  fun i h => ⟨_, by rw [drawnPixels, List.getElem?_map, List.getElem?_range h]; rfl, rfl⟩

/-- The part whose decoder reads line 0, with the given presence and misses. -/
def watching (present : Bool) (misses : Nat) : State :=
  opened.setRegion { Region.fresh with lineArmed := true, markerPresent := present, missCount := misses }

theorem witness_MarkerReadsCountPresence :
    (opened.power = .running ∧ (List.replicate 768 (⟨0, 0, 0⟩ : Pixel)).length = 768 ∧ opened.region.lineArmed = false) ∧
      ((watching false 0).power = .running ∧ (watching false 0).region.lineArmed = true ∧
        decodeMarker (cellValues (List.replicate 768 ⟨0, 0, 0⟩)) = none ∧ (watching false 0).region.markerPresent = false) ∧
      ((watching true 98).region.markerPresent = true ∧ (watching true 98).region.missCount < 99 ∧
        (watching true 99).region.missCount = 99) ∧
      (workedMarker.length = 768 ∧ decodeMarker (cellValues workedMarker) = some (marker 0)) ∧
      ((expecting none none).region.lineArmed = true ∧ (expecting (some (marker 1)) none).region.lastMarker = some (marker 1) ∧
        (marker 1).code = (marker 0).code ∧ 1 ≤ (marker 0).code ∧ (marker 0).code ≤ 999 ∧
        (expecting (some (marker 1)) none).region.sensedValid = false ∧
        (expecting none (some (marker 2))).region.pendingHigh = some (marker 2) ∧
        (marker 0).frameIndex ≠ (marker 2).frameIndex + 1 ∧ (marker 1).frameIndex = (marker 0).frameIndex + 1 ∧
        (marker 1).line = (marker 0).line) := by
  decide +kernel

/-- The second of two markers of region 276 makes it SENSED (R123). -/
theorem witness_SensedMovesOnlyOnAConfirmingPair :
    seen (exec (.markerRead ⟨workedMarker, false⟩)
        (opened.setRegion
          { Region.fresh with
            lineArmed := true, markerPresent := true, lastMarker := some { frameIndex := 1, line := 3, code := 276, stationByte := 0x2B } }))
      (fun t => (t.region.sensedValid, t.region.sensed)) = some (true, 276) := by
  decide +kernel

/-- A key that is being loaded, with none of its bytes received. -/
def loading (check : Quad) : KeyEntry := { key .loading none with check := check, received := 0, body := [] }

/-- Of the reply and the KEY_STATE report of one event the reply begins (R181; log 9). -/
theorem test_reply_goes_first :
    seen (exec (.keyChunk .station 1 257 0 (List.replicate 16 0)) (withKey (loading 0)))
      (fun t => (t.station.sending.map (·.kind), t.station.replies.length, t.station.reports.map (·.kind))) =
      some (some 0xD1, 0, [0x78]) := by
  decide +kernel

theorem witness_KeysAreLoadedAndChecked :
    (opened.AdmitsOpen 1 ∧ 1 ≤ (List.replicate 15 (0 : Byte)).length ∧ (List.replicate 15 (0 : Byte)).length ≤ 512 ∧
        KeyClass.ofNat? (4 : Byte).toNat = some .platform ∧ 16 ≤ (16 : Half).toNat ∧ (1024 : Half).toNat ≤ 1024 ∧
        regionListValid [276, 1, 2, 999] = true ∧ opened.keys.find 257 = none ∧ opened.keys.firstEmpty = some 0) ∧
      ((withKey (loading 0)).AdmitsOpen 1 ∧ (withKey (loading 0)).keys.find 257 = some (0, loading 0) ∧ (loading 0).inArea = false ∧
        (0 : Half).toNat = (loading 0).received ∧ (0 : Half).toNat + (List.replicate 15 (0 : Byte)).length < (loading 0).length ∧
        (loading 0).fixPending = false) ∧
      ((0 : Half).toNat + (List.replicate 16 (0 : Byte)).length = (loading 0).length ∧
        crc32 ((loading (crc32 (List.replicate 16 0))).body ++ List.replicate 16 0) = (loading (crc32 (List.replicate 16 0))).check ∧
        crc32 ((loading 0).body ++ List.replicate 16 0) ≠ (loading 0).check) :=
  ⟨⟨opens rfl rfl rfl rfl (by decide), by decide, by decide, rfl, by decide, by decide, by decide, by decide, by decide⟩,
    ⟨opens rfl rfl rfl rfl (by decide), by decide, by decide, by decide, by decide, rfl⟩, by decide, rfl, by decide +kernel⟩

theorem witness_KeyFixBeginsAtTheFillPoint :
    (opened.AdmitsOpen 1 ∧ opened.unit.op = none ∧ opened.keys.countState .staged = 0) ∧
      ((withKey (key .staged none)).AdmitsOpen 1 ∧ (withKey (key .staged none)).unit.op = none ∧
        (withKey (key .staged none)).keys.countState .staged ≠ 0 ∧
        spaceNeeded (withKey (key .staged none)).keys.entries ≤ (withKey (key .staged none)).keys.free ∧
        nextPending (withKey (key .staged none)).keys.fixSet = some 0 ∧
        (withKey (key .staged none)).keys.fixSet.getD 0 none = some { key .staged none with fixPending := true }) ∧
      ({ (withKey (key .staged none)).keys with fill := 16352 } : KeyTable).free < spaceNeeded (withKey (key .staged none)).keys.entries :=
  ⟨⟨opens rfl rfl rfl rfl (by decide), rfl, by decide⟩,
    ⟨opens rfl rfl rfl rfl (by decide), rfl, by decide, by decide +kernel, by decide, by decide⟩, by decide +kernel⟩

/-- The part with the given write of the one key of the fix set in flight. -/
def fixing (step : FixStep) : State :=
  ((opened.setKeys
    { KeyTable.fresh with
      entries := some { key .staged none with fixPending := true } :: List.replicate 23 none
      op := some (.fix 1 0 0 step 0) }).setUnit { opened.unit with op := some .keyFix }).setNv
    { NvStore.unwritten with
      write := some { place := .keyArea (0 + ((key .staged none).fixWrite step).1), data := ((key .staged none).fixWrite step).2 } }

theorem witness_FixWritesFollowTheirOrderOrStop (step : FixStep) :
    ((fixing step).power = .running ∧ (fixing step).keys.op = some (.fix 1 0 0 step 0) ∧
        (fixing step).keys.entries[0]? = some (some { key .staged none with fixPending := true }) ∧
        (fixing step).nv.write =
          some { place := .keyArea (0 + ((key .staged none).fixWrite step).1), data := ((key .staged none).fixWrite step).2 } ∧
        ((fixing step).nv.endWrite .whole).readBack
            { place := .keyArea (0 + ((key .staged none).fixWrite step).1), data := ((key .staged none).fixWrite step).2 } =
          ((key .staged none).fixWrite step).2 ∧
        nextPending ((fixing step).keys.entries.set 0 (some { key .fixed (some 0) with body := [] })) = none) ∧
      ((fixing step).nv.endWrite (.torn [])).readBack
          { place := .keyArea (0 + ((key .staged none).fixWrite step).1), data := ((key .staged none).fixWrite step).2 } ≠
        ((key .staged none).fixWrite step).2 := by
  cases step <;> decide +kernel

/-- The three readings of the space word after a failed first write (R138): whole, blank and torn. -/
theorem witness_FixWrites_readings :
    readSpaceWord 0 [0x30, 0x00, 0xCF, 0xFF] = .length 48 ∧ readSpaceWord 0 [0xFF, 0xFF, 0xFF, 0xFF] = .blankWord ∧
      readSpaceWord 0 [0x30, 0xFF, 0xFF, 0xFF] = .torn := by
  decide +kernel

/-- A second key of the fix set that waits when the first one's mark verifies, and a key whose writes go into a blank area. -/
theorem witness_FixWrites_nextAndReadBack :
    (nextPending [some { key .fixed (some 0) with body := [] }, some { key .staged none with fixPending := true }] = some 1 ∧
        ([some { key .fixed (some 0) with body := [] }, some { key .staged none with fixPending := true }] :
            List (Option KeyEntry))[1]? = some (some { key .staged none with fixPending := true })) ∧
      (16 ≤ (key .staged none).length ∧ (key .staged none).length ≤ 1024 ∧ 0 + footprint (key .staged none).length ≤ 16384 ∧
        0 % 16 = 0 ∧ (key .staged none).id < 65536 ∧ (key .staged none).body.length = (key .staged none).length ∧
        (key .staged none).received = (key .staged none).length) ∧
      (∀ codes, (key .staged none).regions = some codes → 1 ≤ codes.length ∧ codes.length ≤ 4 ∧ ∀ c ∈ codes, c ≤ 999) ∧
      (∀ x, 0 ≤ x → x < 0 + footprint (key .staged none).length → Cells.read [] x = 0xFF) :=
  ⟨⟨rfl, rfl⟩, by decide, nofun, fun _ _ _ => rfl⟩

/-- The part with the withdraw mark of its one key being written. -/
def withdrawing : State :=
  (opened.setKeys
    { KeyTable.fresh with entries := some (key .fixed (some 0)) :: List.replicate 23 none, op := some (.withdraw 1 0) }).setNv
    { NvStore.unwritten with write := some { place := .keyArea (0 + 23), data := [0x00] } }

theorem witness_WithdrawFollowsItsMark :
    ((key .fixed (some 0)).offset = some 0 ∧ (withKey (key .fixed (some 0))).AdmitsOpen 1 ∧
        (withKey (key .fixed (some 0))).keys.find 257 = some (0, key .fixed (some 0)) ∧ (key .fixed (some 0)).state = .fixed ∧
        (withKey (key .fixed (some 0))).unit.op = none) ∧
      withdrawing.power = .running ∧ withdrawing.keys.op = some (.withdraw 1 0) ∧
      withdrawing.keys.entries[0]? = some (some (key .fixed (some 0))) ∧
      withdrawing.nv.write = some { place := .keyArea (0 + 23), data := [0x00] } ∧
      Cells.read (withdrawing.nv.endWrite .whole).keyArea (0 + 23) ≠ 0xFF ∧
      Cells.read (withdrawing.nv.endWrite (.torn [])).keyArea (0 + 23) = 0xFF :=
  ⟨⟨rfl, opens rfl rfl rfl rfl (by decide), by decide, rfl, rfl⟩, rfl, rfl, rfl, rfl, by decide +kernel, by decide +kernel⟩

theorem witness_ChecksAreStoredAndJudged :
    (opened.AdmitsOpen 1 ∧ (15 : Byte).toNat ≤ 15 ∧
        checkGiven ⟨7, 4, 1, 1, 1⟩ =
          some { quantity := .keys, argument := 4, limit := 1, mask := .ofByte 1, absent := .fail }) ∧
      15 < (16 : Byte).toNat ∧ checkGiven ⟨7, 5, 1, 1, 1⟩ = none :=
  ⟨⟨opens rfl rfl rfl rfl (by decide), by decide, by decide⟩, by decide, by decide⟩

/-- A PARKED part with serial "L". -/
def parked : State := (State.sample .parked).setUnit { (State.sample .parked).unit with serial := some [0x4C] }

/-- The part with the given operation and a copy A write in flight, in the given phase. -/
def writing (phase : UnitPhase) (op : NvOp) : State :=
  ((State.sample phase).setUnit { (State.sample phase).unit with op := some op }).setNv
    { NvStore.unwritten with write := some { place := .copyA, data := [] } }

theorem witness_OpenBeginsOrEnters :
    ((State.sample .blank).Admits .station 1 ∧ serialValid [0x4C] = true ∧ serialValid (List.replicate 24 0x7E) = true ∧
        (999 : Half).toNat ≤ 999 ∧ (State.sample .blank).unit.op = none ∧ (State.sample .blank).unit.phase = .blank) ∧
      (parked.Admits .station 1 ∧ parked.unit.op = none ∧ parked.unit.phase = .parked ∧ parked.unit.serial = some [0x4C] ∧
        parked.unit.serial ≠ some [0x4D]) ∧
      ((writing .blank (.openWrite 1 [0x4C] 0)).power = .running ∧
        (writing .blank (.openWrite 1 [0x4C] 0)).unit.op = some (.openWrite 1 [0x4C] 0) ∧
        (writing .blank (.openWrite 1 [0x4C] 0)).nv.write = some { place := .copyA, data := [] }) ∧
      (parked.Shaped ∧ parked.intake.inProcess = none ∧
        currentChanged parked.region.current (parked.enterOpen 276).region.current = false ∧
        currentChanged (parked.setRegion { inGermany.region with current := none }).region.current
          ((parked.setRegion { inGermany.region with current := none }).enterOpen 276).region.current = true) :=
  ⟨⟨admits rfl rfl rfl (by decide), by decide, by decide, by decide, rfl, rfl⟩,
    ⟨admits rfl rfl rfl (by decide), rfl, rfl, rfl, by decide⟩, ⟨rfl, rfl, rfl⟩, witness_shaped _ rfl rfl rfl, rfl, by decide +kernel,
    by decide +kernel⟩

/-- A part in OPEN whose CURRENT region requires no class, so that every precondition of CLOSE holds. -/
def closable : State :=
  opened.setRegion
    { Region.fresh with
      current := some { germany with profile := { germany.profile with required := ⟨false, false, false, false⟩ } } }

theorem witness_CloseBeginsTheCommitOrRefuses :
    (closable.AdmitsUnclosed 1 ∧ closable.closeRefusal = none) ∧
      (opened.AdmitsUnclosed 1 ∧ opened.closeRefusal = some (.noRegion, [0, 0, 0, 0, 0]) ∧ opened.unit.phase = .opened ∧
        opened.unit.op = none ∧ opened.seq.state = .idle ∧ opened.intake.inProcess = none ∧ opened.intake.queue = [] ∧
        opened.region.current = none) ∧
      ((State.sample .parked).AdmitsUnclosed 1 ∧ (State.sample .parked).unit.phase ≠ .opened ∧
        (writing .opened .keyFix).AdmitsUnclosed 1 ∧ (writing .opened .keyFix).unit.op = some .keyFix ∧
        (withSeq (running held)).AdmitsUnclosed 1 ∧ (withSeq (running held)).seq.state ≠ .idle ∧
        (busyRow 5).AdmitsUnclosed 1 ∧ (busyRow 5).intake.inProcess = some (rowAt 5) ∧
        (opened.setIntake { Intake.fresh with queue := [row] }).intake.queue ≠ []) ∧
      (inGermany.AdmitsUnclosed 1 ∧ inGermany.region.current = some germany ∧ inGermany.region.conflict = false ∧
        inGermany.keys.pendingKeys = 0 ∧ inGermany.keys.satisfies inGermany.region.current = false ∧
        ((withKey (key .staged none)).keys.pendingKeys ≠ 0) ∧
        (closable.setChecks
            ({ CheckSlot.fresh with mask := .ofByte 1, absent := .fail } :: List.replicate 15 .fresh)).closeRefusal.isSome = true) :=
  ⟨⟨⟨admits rfl rfl rfl (by decide), by decide⟩, by decide +kernel⟩,
    ⟨⟨admits rfl rfl rfl (by decide), by decide⟩, by decide +kernel, rfl, rfl, rfl, rfl, rfl, rfl⟩,
    ⟨⟨admits rfl rfl rfl (by decide), by decide⟩, by decide, ⟨admits rfl rfl rfl (by decide), by decide⟩, rfl,
      ⟨admits rfl rfl rfl (by decide), by decide⟩, by decide, ⟨admits rfl rfl rfl (by decide), by decide⟩, rfl, by decide⟩,
    ⟨admits rfl rfl rfl (by decide), by decide⟩, rfl, rfl, by decide, by decide +kernel, by decide, by decide +kernel⟩

theorem witness_CommitWritesThenCompletesOrFails (step : CommitStep) :
    (writing .closing (.commit 1 step)).power = .running ∧
      (writing .closing (.commit 1 step)).nv.write = some { place := .copyA, data := [] } ∧
      (writing .closing (.commit 1 step)).unit.op = some (.commit 1 step) ∧
      ((writing .closing (.commit 1 step)).setRegion { Region.fresh with current := some germany }).region.current = some germany ∧
      (writing .closing (.commit 1 step)).grid.colour.length = 15 ∧
      currentChanged (writing .closing (.commit 1 step)).region.current (writing .closing (.commit 1 step)).region.computed = false :=
  ⟨rfl, rfl, rfl, rfl, List.length_replicate, rfl⟩

/-- A unit record copy written into an unwritten store, in the place and with the generation R159 gives. -/
theorem witness_CommitWrites_store :
    ({ NvStore.unwritten with write := some { place := .copyA, data := [] } } : NvStore).target = .copyA ∧
      ({ NvStore.unwritten with write := some { place := .copyA, data := [] } } : NvStore).nextGeneration = 1 ∧
      (1 : Nat) ≤ 4294967295 := by
  decide

/-- A CLOSED part with the given rework count. -/
def reworked (n : Nat) : State := (State.sample .closed).setUnit { (State.sample .closed).unit with rework := n }

theorem witness_ReopenRaisesTheReworkCount :
    (opened.Admits .station 1 ∧ opened.unit.phase ≠ .closed) ∧
      ((reworked 3).Admits .station 1 ∧ (reworked 3).unit.phase = .closed ∧ (reworked 3).unit.op = none ∧ 3 ≤ (reworked 3).unit.rework) ∧
      ((reworked 2).Admits .station 1 ∧ (reworked 2).unit.rework < 3) ∧
      ((writing .closed (.reopenWrite 1)).Admits .station 1 ∧ (writing .closed (.reopenWrite 1)).unit.phase = .closed ∧
        (writing .closed (.reopenWrite 1)).unit.op.isSome = true) ∧
      ((writing .closed (.reopenWrite 1)).power = .running ∧ (writing .closed (.reopenWrite 1)).unit.op = some (.reopenWrite 1) ∧
        (writing .closed (.reopenWrite 1)).nv.write = some { place := .copyA, data := [] }) :=
  ⟨⟨admits rfl rfl rfl (by decide), by decide⟩, ⟨admits rfl rfl rfl (by decide), rfl, rfl, by decide⟩,
    ⟨admits rfl rfl rfl (by decide), by decide⟩, ⟨admits rfl rfl rfl (by decide), rfl, rfl⟩, rfl, rfl, rfl⟩

/-- The part with reset pending, its PART_RESET reply being sent. -/
def resetting : State :=
  (opened.setUnit { opened.unit with resetPending := true }).setStation { PortCtl.fresh with sending := some ⟨0x93, 1, [0]⟩ }

theorem witness_PartResetPendsUntilItsReplyIsSent :
    (opened.Admits .station 1 ∧ opened.unit.op = none) ∧
      ((writing .blank (.openWrite 1 [0x4C] 0)).Admits .station 1 ∧ (writing .blank (.openWrite 1 [0x4C] 0)).unit.op.isSome = true) ∧
      (resetting.power = .running ∧ resetting.unit.resetPending = true ∧ resetting.station.sending = some ⟨0x93, 1, [0]⟩) :=
  ⟨⟨admits rfl rfl rfl (by decide), rfl⟩, ⟨admits rfl rfl rfl (by decide), rfl⟩, rfl, rfl, rfl⟩

/-! ### Witnesses: a state of the running part that meets every invariant and takes a step -/

/-- The OPEN part of the small states with an ARM waiting. -/
def poised : State := opened.setPending [.arm .station 1]

theorem witness_poised_steps : ∃ t, step poised = .next t := ⟨_, rfl⟩

theorem witness_KeyAreaStaysCanonicalAndWritten :
    Cells.wf (poised.setNv { NvStore.unwritten with keyArea := [(0, 0x30)] }).nv.keyArea = true ∧
      Cells.read (poised.setNv { NvStore.unwritten with keyArea := [(0, 0x30)] }).nv.keyArea 0 ≠ blank ∧
      ∃ t, step (poised.setNv { NvStore.unwritten with keyArea := [(0, 0x30)] }) = .next t :=
  ⟨by decide, by decide, _, rfl⟩

theorem witness_CollectionsKeepTheirSizes : poised.WithinCapacities ∧ poised.Shaped :=
  ⟨by constructor <;> decide, witness_shaped _ rfl rfl rfl⟩

theorem witness_PatchTagsStayUnique :
    (poised.setSeq { running held with list := [{ patch with tag := 3 }] }).TagsUnique ∧
      ∃ t, step (poised.setSeq { running held with list := [{ patch with tag := 3 }] }) = .next t :=
  ⟨(by decide : [3, 2].Nodup), _, rfl⟩

theorem witness_KeyEntriesKeepTheirLaws :
    (withKey (key .fixed (some 0))).KeyIdsUnique ∧ completes (.arm .station 1) (withKey (key .fixed (some 0))) ∧
      ¬ resets (.arm .station 1) (withKey (key .fixed (some 0))) ∧
      (withKey (key .fixed (some 0))).keys.entries[0]? = some (some (key .fixed (some 0))) ∧ (key .fixed (some 0)).inArea = true :=
  ⟨(by decide : [257].Nodup), ⟨_, rfl⟩, by simp [resets], rfl, by decide⟩

theorem witness_SequencerStatesAreKept : poised.SeqLegal := by constructor <;> decide

/-- A commit whose last write, of the mark CLOSED, is in flight. -/
def committing : State :=
  ((State.sample .closing).setUnit { (State.sample .closing).unit with op := some (.commit 1 (.closedMark none)) }).setNv
    { NvStore.unwritten with
      gridRecord := some (State.sample .closing).grid.image.bytes
      tuningRecord := some (State.sample .closing).grid.tuning.bytes
      write :=
        some
          { place := .copyA
            data := UnitRecord.bytes { generation := 1, mark := .closed, rework := 0, serial := [0x4C], identity := none } } }

/-- Fresh nodes and zones are within the default limits. -/
theorem witness_GridStaysWithinItsLimits : poised.GridLegal ∧ State.reset.nv.GridStored := by
  refine ⟨⟨witness_default_legal, nofun, fun slice h n hn => ?_, fun z h => ?_, nofun⟩,
    ⟨witness_default_legal, fun slice h g hg => ?_, fun t h => ?_⟩⟩
  · rw [List.eq_of_mem_replicate h] at hn
    rw [List.eq_of_mem_replicate hn]
    constructor <;> decide
  · rw [List.eq_of_mem_replicate h]
    constructor <;> decide
  · rw [List.eq_of_mem_replicate h] at hg
    rw [List.eq_of_mem_replicate hg]
    decide
  · rw [List.eq_of_mem_replicate h]
    decide

/-- The premises on the stored records hold of a commit whose last write is about to end. -/
theorem witness_GridStaysWithinItsLimits_commit :
    (committing.setPending [.commitWriteComplete .whole]).StoreLegal ∧
      (committing.setPending [.commitWriteComplete .whole]).OpsAgree ∧ (committing.setPending [.commitWriteComplete .whole]).RowsBegin ∧
      (committing.setPending [.commitWriteComplete .whole]).GridLegal ∧ (committing.setPending [.commitWriteComplete .whole]).Shaped ∧
      committing.nv.nextGeneration ≤ 4294967295 := by
  obtain ⟨legal, -⟩ := witness_GridStaysWithinItsLimits
  refine ⟨⟨?_, fun _ _ => ?_, ?_⟩, ⟨rfl, rfl, rfl, nofun, nofun⟩, ⟨fun _ => rfl, fun _ h => absurd rfl h, fun _ => ⟨rfl, rfl⟩⟩,
    ⟨legal.tuning, nofun, legal.nodes, legal.zones, nofun⟩, witness_shaped _ rfl rfl rfl, by decide⟩
  · rintro ⟨_, _, h, _⟩
    exact nomatch h
  · rintro ⟨_, _, h, _⟩
    exact nomatch h
  · rintro w op hw hop
    obtain rfl := Option.some.inj hw
    obtain rfl := Option.some.inj hop
    exact ⟨⟨rfl, _, rfl, rfl, rfl⟩, rfl, rfl⟩

theorem witness_ErrorsStayInRange : poised.ErrorsLegal ∧ (-16384 : Int).natAbs ≤ 4096 * 4 := by
  refine ⟨⟨fun slice h n hn => ?_, fun w h => ?_, fun z h => ?_⟩, by decide⟩
  · rw [List.eq_of_mem_replicate h] at hn
    rw [List.eq_of_mem_replicate hn]
    nofun
  · rw [List.eq_of_mem_replicate h]
    nofun
  · rw [List.eq_of_mem_replicate h]
    decide

theorem witness_StampsAndTalliesKeepStep :
    poised.StampsLegal ∧ (busyRow 0).RowLegal ∧ completes .rowCount (busyRow 0) ∧ (completing [.rowCount]).OpsAgree ∧
      (completing [.rowCount]).RowsBegin := by
  refine ⟨⟨fun slice h n hn => ?_, fun z h => ?_, by decide⟩, fun r h => ?_, ⟨_, rfl⟩, ⟨rfl, nofun, rfl, nofun, nofun⟩,
    ⟨nofun, nofun, nofun⟩⟩
  · rw [List.eq_of_mem_replicate h] at hn
    rw [List.eq_of_mem_replicate hn]
    decide
  · rw [List.eq_of_mem_replicate h]
    decide
  · cases Option.some.inj h
    decide

theorem witness_OperationsAgreeAndRepliesFit : poised.OpsAgree ∧ poised.RepliesFit ∧ poised.Quiet :=
  ⟨⟨rfl, nofun, rfl, nofun, nofun⟩, ⟨by decide, by decide, by decide, by decide⟩, fun _ => ⟨rfl, rfl⟩, fun _ => rfl⟩

theorem witness_RegionStaysInAgreement : poised.RegionAgrees := ⟨fun _ => rfl, rfl, by decide⟩

theorem witness_ClosureLawIsKept :
    (closedWith (key .fixed (some 0))).OpsAgree ∧
      ((closable.setUnit { closable.unit with phase := .closed }).ClosureLegal ∧
        completes (.arm .station 1) (closable.setUnit { closable.unit with phase := .closed })) :=
  ⟨⟨rfl, nofun, rfl, nofun, nofun⟩, ⟨by decide, fun _ => by decide⟩, ⟨_, rfl⟩⟩

theorem witness_ReworkNeverExceedsThree : poised.ReworkLegal := ⟨by decide, nofun, nofun, nofun, nofun⟩

end Sys2Proof.Tests
end

/-! SUPPORT. Stored records read back from their bytes (R159, R168, R189, 11.4): each layout's decoder undoes its encoder. -/

namespace Sys2Proof.Machine
open Sys2Proof

/-! ### Fields -/

/-- A 2-byte field is read back from its bytes. -/
@[simp] theorem half_extract (h : Half) : half (h.extractLsb' 0 8) (h.extractLsb' 8 8) = h := by
  unfold half
  ext i hi
  simp only [BitVec.getElem_append, BitVec.getElem_extractLsb']
  split <;> rw [BitVec.getLsbD_eq_getElem (by omega)] <;> congr 1 <;> omega

/-- A 4-byte field is read back from its bytes. -/
@[simp] theorem quad_extract (q : Quad) :
    quad (q.extractLsb' 0 8) (q.extractLsb' 8 8) (q.extractLsb' 16 8) (q.extractLsb' 24 8) = q := by
  unfold quad
  ext i hi
  simp only [BitVec.getElem_append, BitVec.getElem_extractLsb']
  (repeat' split) <;> rw [BitVec.getLsbD_eq_getElem (by omega)] <;> congr 1 <;> omega

/-- `padTo` gives exactly the length asked for. -/
@[simp] theorem padTo_length (n : Nat) (fill : Byte) (bytes : List Byte) : (padTo n fill bytes).length = n := by
  simp [padTo]
  omega

/-- A text that fits is read back from its padded field. -/
theorem take_padTo {n : Nat} {bytes : List Byte} (fill : Byte) (h : bytes.length ≤ n) : (padTo n fill bytes).take bytes.length = bytes := by
  simp [padTo, h]

/-! ### Unit records (R189) -/

/-- What a copy's bytes keep of a record: its rework count and identity as their fields hold them, its serial number at most 24 characters. -/
def UnitRecord.stored (r : UnitRecord) : UnitRecord :=
  { r with
    rework := r.rework % 256
    serial := (padTo 24 0 r.serial).take (r.serial.length % 256)
    identity := r.identity.map (fun i => { line := i.line % 256, station := i.station % 65536 }) }

/-- A record that fits its fields is stored whole. -/
theorem UnitRecord.stored_of_storable {r : UnitRecord} (h : r.Storable) : r.stored = r := by
  have rework : r.rework % 256 = r.rework := Nat.mod_eq_of_lt (by have := h.rework; omega)
  have length : r.serial.length % 256 = r.serial.length := Nat.mod_eq_of_lt (by have := h.serial; omega)
  have identity : r.identity.map (fun i => { line := i.line % 256, station := i.station % 65536 : StationId }) = r.identity := by
    cases e : r.identity with
    | none => rfl
    | some i =>
      obtain ⟨line, station⟩ := h.identity i e
      simp [Nat.mod_eq_of_lt (show i.line < 256 by omega), Nat.mod_eq_of_lt (show i.station < 65536 by omega)]
  simp only [UnitRecord.stored, rework, length, identity, take_padTo 0 h.serial]

/-- A copy's first 35 bytes, field by field (R189). -/
theorem UnitRecord.content_eq {r : UnitRecord} (h : r.generation ≤ 4294967295) :
    r.content =
      [(BitVec.ofNat 32 r.generation).extractLsb' 0 8, (BitVec.ofNat 32 r.generation).extractLsb' 8 8,
        (BitVec.ofNat 32 r.generation).extractLsb' 16 8, (BitVec.ofNat 32 r.generation).extractLsb' 24 8,
        BitVec.ofNat 8 r.mark.code, BitVec.ofNat 8 r.rework, BitVec.ofNat 8 r.serial.length] ++
        (padTo 24 0 r.serial ++
          [if r.identity.isSome then 1 else 0, BitVec.ofNat 8 ((r.identity.map (·.line)).getD 0),
            (BitVec.ofNat 16 ((r.identity.map (·.station)).getD 0)).extractLsb' 0 8,
            (BitVec.ofNat 16 ((r.identity.map (·.station)).getD 0)).extractLsb' 8 8]) := by
  have identity : identityBytes r.identity =
      [BitVec.ofNat 8 ((r.identity.map (·.line)).getD 0), (BitVec.ofNat 16 ((r.identity.map (·.station)).getD 0)).extractLsb' 0 8,
        (BitVec.ofNat 16 ((r.identity.map (·.station)).getD 0)).extractLsb' 8 8] := by
    cases r.identity <;> rfl
  simp [UnitRecord.content, generationBytes, h, u32, Quad.bytes, u8, serialField, flag, identity]

/-- A copy read field by field: with the right check code and a mark 1 to 3 it holds a record (R189). -/
theorem UnitRecord.ofBytes_fields (g0 g1 g2 g3 rework count present line st0 st1 : Byte) (mark : Mark) {text check : List Byte}
    (length : text.length = 24)
    (right : check =
      Quad.bytes (crc32 (g0 :: g1 :: g2 :: g3 :: BitVec.ofNat 8 mark.code :: rework :: count :: (text ++ [present, line, st0, st1])))) :
    UnitRecord.ofBytes
        (g0 :: g1 :: g2 :: g3 :: BitVec.ofNat 8 mark.code :: rework :: count :: (text ++ [present, line, st0, st1] ++ check)) =
      some
        { generation := (quad g0 g1 g2 g3).toNat, mark := mark, rework := rework.toNat, serial := text.take count.toNat,
          identity := if present.getLsbD 0 then some { line := line.toNat, station := (half st0 st1).toNat } else none } := by
  have rest : text ++ [present, line, st0, st1] ++ check = text ++ (present :: line :: st0 :: st1 :: check) := by simp
  have after : ∀ k, (text ++ (present :: line :: st0 :: st1 :: check)).getD (24 + k) 0 =
      (present :: line :: st0 :: st1 :: check).getD k 0 := by
    intro k
    rw [List.getD_append_right _ _ _ _ (by omega), length, Nat.add_sub_cancel_left]
  have front : (text ++ (present :: line :: st0 :: st1 :: check)).take 24 = text := by simp [← length]
  have covered : (text ++ (present :: line :: st0 :: st1 :: check)).take 28 = text ++ [present, line, st0, st1] := by
    simp [List.take_append, length, List.take_of_length_le]
  have last : (text ++ (present :: line :: st0 :: st1 :: check)).drop 28 = check := by
    simp [List.drop_append, length, List.drop_of_length_le]
  have total : check.length = 4 := by simp [right, Quad.bytes]
  rw [rest]
  unfold UnitRecord.ofBytes
  dsimp only
  rw [if_pos, front, after 0, after 1, after 2, after 3]
  · cases mark <;> rfl
  · refine ⟨by simp [length, total], ?_⟩
    simp only [List.drop_succ_cons, List.take_succ_cons, last, covered]
    exact right

/-- A copy's bytes are read back as the record they keep, with the same generation and mark (R159, R189). -/
theorem UnitRecord.ofBytes_bytes {r : UnitRecord} (h : r.generation ≤ 4294967295) : UnitRecord.ofBytes r.bytes = some r.stored := by
  have generation : (BitVec.ofNat 32 r.generation).toNat = r.generation := by simp; omega
  unfold UnitRecord.bytes
  rw [UnitRecord.content_eq h]
  refine (UnitRecord.ofBytes_fields _ _ _ _ _ _ _ _ _ _ r.mark (padTo_length 24 0 r.serial) rfl).trans ?_
  rw [quad_extract, half_extract, generation]
  cases identity : r.identity <;> simp [UnitRecord.stored, identity]

/-- A record that fits its fields is read back whole (R159, R189). -/
theorem UnitRecord.ofBytes_bytes_of_storable {r : UnitRecord} (h : r.Storable) : UnitRecord.ofBytes r.bytes = some r := by
  rw [UnitRecord.ofBytes_bytes h.generation, UnitRecord.stored_of_storable h]

/-! ### Grid records (11.4) -/

/-- Values that fit 2 bytes are read back from the front of a run of bytes. -/
theorem valuesOf_flatMap (values : List Nat) (rest : List Byte) (h : ∀ v ∈ values, v ≤ 65535) :
    valuesOf values.length (values.flatMap u16 ++ rest) = values := by
  induction values with
  | nil => rfl
  | cons v values ih =>
    have fits : v % 65536 = v := Nat.mod_eq_of_lt (by have := h v (by simp); omega)
    have tail := ih (fun x hx => h x (List.mem_cons_of_mem _ hx))
    simp only [List.length_cons, List.flatMap_cons, u16, Half.bytes, List.cons_append, List.nil_append, valuesOf]
    simpa [half_extract, fits] using tail

/-- Blocks of one length each are passed over by dropping that many bytes for each. -/
theorem drop_flatMap_blocks {α : Type} (f : α → List Byte) (size : Nat) (blocks : List α) (h : ∀ b ∈ blocks, (f b).length = size) (i : Nat) :
    (blocks.flatMap f).drop (size * i) = (blocks.drop i).flatMap f := by
  induction i generalizing blocks with
  | zero => simp
  | succ i ih =>
    cases blocks with
    | nil => simp
    | cons b blocks =>
      rw [List.drop_succ_cons, ← ih blocks (fun x hx => h x (List.mem_cons_of_mem _ hx)), List.flatMap_cons, Nat.mul_succ,
        Nat.add_comm, ← List.drop_drop, List.drop_left' (h b (by simp))]

/-- A run of blocks of one length each has that length for each block. -/
theorem length_flatMap_blocks {α : Type} (f : α → List Byte) (size : Nat) (blocks : List α) (h : ∀ b ∈ blocks, (f b).length = size) :
    (blocks.flatMap f).length = size * blocks.length := by
  rw [List.length_flatMap, List.map_congr_left h]
  simp [Nat.mul_comm]

/-- The values of a slice take two bytes each. -/
theorem length_flatMap_u16 (values : List Nat) : (values.flatMap u16).length = 2 * values.length :=
  length_flatMap_blocks u16 2 values (fun _ _ => rfl)

section
variable {g : GridImage} (gainsShape : g.gains.length = 15 ∧ ∀ slice ∈ g.gains, slice.length = 576)
include gainsShape

/-- The gains take the first 17,280 bytes of a grid record (11.4). -/
theorem GridImage.gains_length : (g.gains.flatMap (fun slice => slice.flatMap u16)).length = 17280 := by
  rw [length_flatMap_blocks _ 1152 _ (fun slice h => by rw [length_flatMap_u16, gainsShape.2 slice h]), gainsShape.1]

/-- The gains of a grid record are read back (11.4). -/
theorem GridImage.ofBytes_gains (fits : ∀ slice ∈ g.gains, ∀ gain ∈ slice, gain ≤ 65535) :
    (GridImage.ofBytes g.bytes).gains = g.gains := by
  have blocks : ∀ slice ∈ g.gains, (slice.flatMap u16).length = 1152 := fun slice h => by
    rw [length_flatMap_u16, gainsShape.2 slice h]
  refine List.ext_getElem (by simp [GridImage.ofBytes, gainsShape.1]) (fun i h1 h2 => ?_)
  have sliceFits := fits g.gains[i] (List.getElem_mem h2)
  have length := gainsShape.2 g.gains[i] (List.getElem_mem h2)
  have inside : 1152 * i ≤ (g.gains.flatMap (fun slice => slice.flatMap u16)).length := by
    rw [GridImage.gains_length gainsShape]
    omega
  simp only [GridImage.ofBytes, GridImage.bytes, List.getElem_map, List.getElem_range, List.append_assoc]
  rw [List.drop_append_of_le_length inside, drop_flatMap_blocks _ 1152 _ blocks, List.drop_eq_getElem_cons h2, List.flatMap_cons,
    List.append_assoc, ← length]
  exact valuesOf_flatMap _ _ sliceFits

/-- The trims of a grid record are read back (11.4). -/
theorem GridImage.ofBytes_trims (trimsShape : g.trims.length = 144) (fits : ∀ trim ∈ g.trims, trim ≤ 255) :
    (GridImage.ofBytes g.bytes).trims = g.trims := by
  refine List.ext_getElem (by simp [GridImage.ofBytes, trimsShape]) (fun i h1 h2 => ?_)
  have before := GridImage.gains_length gainsShape
  have trimFits := fits g.trims[i] (List.getElem_mem h2)
  have bytes : g.trims.flatMap u8 = g.trims.map (BitVec.ofNat 8) := List.map_eq_flatMap.symm
  simp only [GridImage.ofBytes, GridImage.bytes, List.getElem_map, List.getElem_range, List.append_assoc]
  rw [List.getD_append_right _ _ _ _ (by omega), before, Nat.add_sub_cancel_left, List.getD_append _ _ _ _ (by simp [bytes, h2]), bytes,
    List.getD_eq_getElem _ _ (by simpa using h2)]
  simp
  omega

/-- The level codes of a grid record are read back (11.4). -/
theorem GridImage.ofBytes_levels (trimsShape : g.trims.length = 144) (levelsShape : g.levels.length = 5)
    (fits : ∀ code ∈ g.levels, code ≤ 65535) : (GridImage.ofBytes g.bytes).levels = g.levels := by
  have before := GridImage.gains_length gainsShape
  have between : (g.trims.flatMap u8).length = 144 := by rw [length_flatMap_blocks u8 1 _ (fun _ _ => rfl), trimsShape]
  have all : (g.gains.flatMap (fun slice => slice.flatMap u16) ++ g.trims.flatMap u8).length = 17424 := by
    rw [List.length_append, before, between]
  simp only [GridImage.ofBytes, GridImage.bytes]
  rw [List.drop_left' all, ← levelsShape]
  simpa using valuesOf_flatMap g.levels [] fits

end

/-- A grid record that fits its fields is read back whole (R168). -/
theorem GridImage.ofBytes_bytes {g : GridImage} (h : g.Storable) : GridImage.ofBytes g.bytes = g := by
  obtain ⟨⟨slices, rows⟩, ⟨trims, trimsFit⟩, ⟨levels, levelsFit⟩⟩ := h
  have shape : g.gains.length = 15 ∧ ∀ slice ∈ g.gains, slice.length = 576 := ⟨slices, fun slice h => (rows slice h).1⟩
  have one := GridImage.ofBytes_gains shape (fun slice h => (rows slice h).2)
  have two := GridImage.ofBytes_trims shape trims trimsFit
  have three := GridImage.ofBytes_levels shape trims levels levelsFit
  generalize GridImage.ofBytes g.bytes = read at *
  cases read
  cases g
  simp_all

/-! ### Tuning and region records (11.4) -/

/-- A legal tuning record is read back whole (R168). -/
theorem Tuning.ofBytes_bytes {t : Tuning} (h : t.Legal) : Tuning.ofBytes t.bytes = some t := by
  have read : Tuning.ofBytes t.bytes =
      some (tuningGiven
        ⟨BitVec.ofNat 8 t.k, BitVec.ofNat 8 t.kz, BitVec.ofNat 8 t.kr, BitVec.ofNat 16 t.fineBand, BitVec.ofNat 16 t.lockWindow,
          BitVec.ofNat 8 t.lockCount, BitVec.ofNat 8 t.lockShift, BitVec.ofNat 8 t.iterationLimit, BitVec.ofNat 8 t.progressIndex,
          BitVec.ofNat 16 t.gmin, BitVec.ofNat 16 t.gmax, BitVec.ofNat 8 t.zmin, BitVec.ofNat 8 t.zmax⟩) := by
    simp [Tuning.ofBytes, Tuning.bytes, u8, u16, Half.bytes, parseRequest, half_extract]
  rw [read]
  obtain ⟨_, _, _, _, _, _, _, _, _, _, _, _, _⟩ := h
  cases t
  simp only [tuningGiven, Option.some.injEq, Tuning.mk.injEq, BitVec.toNat_ofNat] at *
  omega

/-- A class set is read back from its byte (R186). -/
@[simp] theorem ClassSet.ofByte_byte (c : ClassSet) : ClassSet.ofByte c.byte = c := by
  obtain ⟨content, identity, service, platform⟩ := c
  revert content identity service platform
  decide

/-- A region record that fits its fields is read back whole (R168). -/
theorem Profile.ofBytes_bytes {p : Profile} (h : p.Storable) : Profile.ofBytes p.bytes = some p := by
  obtain ⟨code, mains, ceiling, required, release, bandPlan, language⟩ := p
  obtain ⟨hcode, hmains, hceiling, hlanguage⟩ := h
  obtain ⟨a, b, c, rfl⟩ := List.length_eq_three.mp hlanguage
  simp only at hcode hmains hceiling
  simp [Profile.ofBytes, Profile.bytes, u8, u16, Half.bytes, padTo, parseRequest, half_extract, profileGiven,
    Nat.mod_eq_of_lt (show code < 65536 by omega), Nat.mod_eq_of_lt (show mains < 256 by omega),
    Nat.mod_eq_of_lt (show ceiling < 65536 by omega)]

end Sys2Proof.Machine

/-! SUPPORT. The law of R7: what every operation of grid memory, and every command, does to `GridLegal`. -/

namespace Sys2Proof.Machine
open Sys2Proof

/-! ### Nodes and zones -/

section
variable {t : Tuning}

/-- A clamped value lies within its limits as integers do. -/
theorem toNat_clampInt_within {lo hi : Nat} (x : Int) (h : lo ≤ hi) :
    lo ≤ (clampInt lo hi x).toNat ∧ (clampInt lo hi x).toNat ≤ hi := by
  have := clampInt_within (lo := lo) (hi := hi) x (by omega)
  omega

/-- Clamping a tuning record makes it legal (R5, R6). -/
theorem Tuning.clamped_legal (t : Tuning) : t.clamped.Legal := by
  have fineBand := clampNat_within (lo := 1) (hi := 2048) t.fineBand (by omega)
  exact
    { k := clampNat_within _ (by omega), kz := clampNat_within _ (by omega),
      kr := (clampNat_within (lo := 0) (hi := 63) _ (by omega)).2, fineBand := fineBand,
      lockWindow := clampNat_within _ fineBand.1, lockCount := clampNat_within _ (by omega),
      lockShift := (clampNat_within (lo := 0) (hi := 3) _ (by omega)).2, iterationLimit := clampNat_within _ (by omega),
      progressIndex := (clampNat_within (lo := 0) (hi := 15) _ (by omega)).2, gmin := clampNat_within _ (by omega),
      gmax := clampNat_within _ (by omega),
      zmin := clampNat_within _ (by omega), zmax := clampNat_within _ (by omega) }

/-- The default tuning record is legal (R5). -/
theorem Tuning.default_legal : Tuning.default.Legal := by constructor <;> decide

/-- The gain after a restart lies within all limits (R5, R16). -/
theorem NodeRec.fresh_legal (ht : t.Legal) : NodeRec.fresh.Legal t :=
  ⟨fun _ => ⟨ht.gmin.2, ht.gmax.1⟩, nofun, Nat.zero_le _⟩

/-- The trim after a restart lies within all limits (R5, R16). -/
theorem ZoneRec.fresh_legal (ht : t.Legal) : ZoneRec.fresh.Legal t := ⟨⟨ht.zmin.2, ht.zmax.1⟩, Nat.zero_le _, nofun⟩

/-- What retargeting does to a cell (R10): the value stays, a streak is lost or stays, PINNED stays and nothing becomes PINNED. -/
theorem Cell.retargeted_spec (c : Cell) :
    c.retargeted.value = c.value ∧ c.retargeted.streak ≤ c.streak ∧ (c.retargeted.state = .pinned ↔ c.state = .pinned) := by
  unfold Cell.retargeted
  cases state : c.state <;> simp [state]

theorem NodeRec.Legal.retargeted {n : NodeRec} (h : n.Legal t) : n.retargeted.Legal t := by
  obtain ⟨value, streak, state⟩ := n.cell.retargeted_spec
  refine ⟨fun free => ?_, fun pinned => ?_, streak.trans h.streak⟩
  · exact value.symm ▸ h.gain (mt state.mpr free)
  · exact value.symm ▸ h.pin (state.mp pinned)

theorem ZoneRec.Legal.retargeted {z : ZoneRec} (h : z.Legal t) : z.retargeted.Legal t := by
  obtain ⟨value, streak, state⟩ := z.cell.retargeted_spec
  exact ⟨value.symm ▸ h.trim, streak.trans h.streak, mt state.mp h.state⟩

theorem NodeRec.Legal.restarted {n : NodeRec} (ht : t.Legal) (h : n.Legal t) : n.restarted.Legal t := by
  unfold NodeRec.restarted
  split
  · rename_i pinned
    exact ⟨fun free => absurd rfl free, fun _ => h.pin pinned, Nat.zero_le _⟩
  · exact NodeRec.fresh_legal ht

theorem NodeRec.Legal.reopened {n : NodeRec} (h : n.Legal t) : n.reopened.Legal t := by
  refine ⟨fun free => h.gain ?_, fun pinned => h.pin ?_, Nat.zero_le _⟩
  · intro pinned
    simp [NodeRec.reopened, pinned] at free
  · by_contra free
    simp [NodeRec.reopened, free] at pinned

theorem ZoneRec.Legal.reopened {z : ZoneRec} (h : z.Legal t) : z.reopened.Legal t := ⟨h.trim, Nat.zero_le _, nofun⟩

/-- A cell brought into limits: its value lies within them, its state and streak stay (R7, R12). -/
theorem Cell.limited_spec {lo hi : Nat} (showNow : Nat) (c : Cell) (h : lo ≤ hi) :
    (lo ≤ (c.limited lo hi showNow).value ∧ (c.limited lo hi showNow).value ≤ hi) ∧
      (c.limited lo hi showNow).state = c.state ∧ (c.limited lo hi showNow).streak = c.streak := by
  have within := clampNat_within c.value h
  unfold Cell.limited
  dsimp only
  split
  · rename_i same
    exact ⟨by rwa [same] at within, rfl, rfl⟩
  · exact ⟨within, rfl, rfl⟩

/-- The re-clamp makes a node legal that is PINNED as the law says, or not PINNED at all (R7). -/
theorem NodeRec.reclamped_legal (ht : t.Legal) (showNow : Nat) {n : NodeRec}
    (pin : n.cell.state = .pinned → n.cell.value = 16 * n.pin ∧ n.pin ≤ 255) : (n.reclamped t showNow).Legal t := by
  obtain ⟨within, state, -⟩ := Cell.limited_spec showNow n.cell (ht.gmin.2.trans ht.gmax.1)
  by_cases pinned : n.cell.state = .pinned
  · exact ⟨fun free => by simp [NodeRec.reclamped, Cell.cut, pinned] at free,
      fun _ => by simpa [NodeRec.reclamped, Cell.cut, pinned] using pin pinned, Nat.min_le_right ..⟩
  · exact ⟨fun _ => by simpa [NodeRec.reclamped, Cell.cut, pinned] using within,
      fun h => by simp [NodeRec.reclamped, Cell.cut, pinned, state] at h, Nat.min_le_right ..⟩

/-- The re-clamp makes every zone legal (R7). -/
theorem ZoneRec.reclamped_legal (ht : t.Legal) (showNow : Nat) {z : ZoneRec} (free : z.cell.state ≠ .pinned) :
    (z.reclamped t showNow).Legal t := by
  obtain ⟨within, state, -⟩ := Cell.limited_spec showNow z.cell (ht.zmin.2.trans ht.zmax.1)
  exact ⟨within, Nat.min_le_right .., fun h => free (state ▸ h)⟩

/-- A new pin value leaves a legal node legal (R11, R12). -/
theorem NodeRec.Legal.pinned {n : NodeRec} (ht : t.Legal) (h : n.Legal t) (showNow : Nat) {value : Nat} (fits : value ≤ 255) :
    (n.pinned t showNow value).Legal t := by
  unfold NodeRec.pinned
  split
  · exact ⟨fun free => absurd rfl free, fun _ => ⟨rfl, fits⟩, Nat.zero_le _⟩
  · split
    · obtain ⟨within, state, streak⟩ := Cell.limited_spec showNow
        { n.cell with state := .seeking, streak := 0, iterations := 0, saturated := false } (ht.gmin.2.trans ht.gmax.1)
      exact ⟨fun _ => within, fun pinned => by simp [state] at pinned, by simp [streak]⟩
    · exact h

/-- One update of the loop lands within its limits, its streak within C, and never PINNED (R32, R36). -/
theorem loopUpdate_spec {p : LoopParams} (showNow : Nat) (e : Int) (c : Cell) (h : p.low ≤ p.high) :
    (p.low ≤ (loopUpdate p showNow e c).value ∧ (loopUpdate p showNow e c).value ≤ p.high) ∧
      (loopUpdate p showNow e c).streak ≤ p.lockCount ∧ (loopUpdate p showNow e c).state ≠ .pinned := by
  refine ⟨toNat_clampInt_within _ h, ?_, ?_⟩
  · unfold loopUpdate streakAfter
    dsimp only
    (repeat' split) <;> omega
  · unfold loopUpdate
    dsimp only
    (repeat' split) <;> simp

/-- A colour count leaves a legal node legal (section 2.2). -/
theorem NodeRec.Legal.fineCount {n : NodeRec} (ht : t.Legal) (h : n.Legal t) (aim rowShow showNow m : Nat) :
    (fineCount t aim rowShow showNow m n).after.Legal t := by
  unfold Machine.fineCount
  dsimp only
  (repeat' split)
  · exact h
  · exact ⟨h.gain, h.pin, h.streak⟩
  · exact ⟨h.gain, h.pin, h.streak⟩
  · obtain ⟨within, streak, free⟩ := loopUpdate_spec (p := t.fineLoop) showNow (errorOf aim m) n.cell (ht.gmin.2.trans ht.gmax.1)
    exact ⟨fun _ => within, fun pinned => absurd pinned free, streak⟩
  · exact ⟨h.gain, h.pin, h.streak⟩

/-- A zone whose cell is a legal zone's cell, or one update of the loop, is legal. -/
theorem ZoneRec.Legal.of_cell {z z' : ZoneRec} (h : z.Legal t) (same : z'.cell = z.cell) : z'.Legal t :=
  ⟨same ▸ h.trim, same ▸ h.streak, same ▸ h.state⟩

/-- A white count's zone stage moves a zone's cell by one update of the loop, if at all (R44 to R46). -/
theorem zoneCount_cell (phase : GridPhase) (aim rowShow showNow m : Nat) (z : ZoneRec) :
    (zoneCount t phase aim rowShow showNow m z).after.cell = z.cell ∨
      ∃ e, (zoneCount t phase aim rowShow showNow m z).after.cell = loopUpdate t.zoneLoop showNow e z.cell := by
  have settled : (z.settled rowShow).cell = z.cell := by
    unfold ZoneRec.settled
    split <;> rfl
  unfold zoneCount zoneStage
  dsimp only
  (repeat' split) <;> first
    | exact .inl rfl
    | exact .inl settled
    | exact .inr ⟨_, congrArg (loopUpdate t.zoneLoop showNow _) settled⟩

/-- A white count leaves a legal zone legal (section 2.4). -/
theorem ZoneRec.Legal.zoneCount {z : ZoneRec} (ht : t.Legal) (h : z.Legal t) (phase : GridPhase) (aim rowShow showNow m : Nat) :
    (zoneCount t phase aim rowShow showNow m z).after.Legal t := by
  obtain same | ⟨e, moved⟩ := zoneCount_cell (t := t) phase aim rowShow showNow m z
  · exact h.of_cell same
  · obtain ⟨within, streak, free⟩ := loopUpdate_spec (p := t.zoneLoop) showNow e z.cell (ht.zmin.2.trans ht.zmax.1)
    exact ⟨moved ▸ within, moved ▸ streak, moved ▸ free⟩

end

/-! ### Operations of grid memory -/

section
variable {s t : State}

/-- The law speaks of grid memory and the row in process alone. -/
theorem State.GridLegal.congr (h : s.GridLegal) (grid : t.grid = s.grid) (row : t.intake.inProcess = s.intake.inProcess) :
    t.GridLegal := by
  obtain ⟨tuning, rows, nodes, zones, held⟩ := h
  constructor <;> simpa only [grid, row]

/-- The law under the same tuning record: legal nodes and zones, a row in process under that record, and no held pin but those held before. -/
theorem State.GridLegal.under (h : s.GridLegal) (tuning : t.grid.tuning = s.grid.tuning)
    (row : ∀ r, t.intake.inProcess = some r → r.tuning = s.grid.tuning)
    (nodes : ∀ slice ∈ t.grid.colour, ∀ n ∈ slice, n.Legal s.grid.tuning) (zones : ∀ z ∈ t.grid.zones, z.Legal s.grid.tuning)
    (held : ∀ tag slice node value, HeldItem.setPin tag slice node value ∈ t.grid.held →
      HeldItem.setPin tag slice node value ∈ s.grid.held ∨ value ≤ 255) : t.GridLegal :=
  { tuning := tuning ▸ h.tuning
    row := fun r e => by rw [tuning]; exact row r e
    nodes := by rw [tuning]; exact nodes
    zones := by rw [tuning]; exact zones
    held := fun tag slice node value e => (held tag slice node value e).elim (h.held tag slice node value) id }

/-- Every node read from a legal grid is legal. -/
theorem State.GridLegal.node (h : s.GridLegal) (slice n : Nat) : (s.grid.node slice n).Legal s.grid.tuning := by
  obtain fresh | ⟨records, mem, mem'⟩ := s.grid.node_mem slice n
  · exact fresh ▸ NodeRec.fresh_legal h.tuning
  · exact h.nodes records mem _ mem'

/-- Every zone read from a legal grid is legal. -/
theorem State.GridLegal.zone (h : s.GridLegal) (z : Nat) : (s.grid.zone z).Legal s.grid.tuning := by
  unfold Grid.zone
  by_cases inside : z < s.grid.zones.length
  · rw [List.getD_eq_getElem _ _ inside]
    exact h.zones _ (List.getElem_mem inside)
  · rw [List.getD_eq_default _ _ (by omega)]
    exact ZoneRec.fresh_legal h.tuning

/-- The law is kept by a new aim table and ceiling (R9, R10). -/
theorem State.GridLegal.retarget (h : s.GridLegal) (aims : List Nat) (ceiling : Option Nat)
    (grid : t.grid = s.grid.retarget aims ceiling) (row : t.intake.inProcess = s.intake.inProcess) : t.GridLegal := by
  refine h.under (by rw [grid]; rfl) (by rw [row]; exact h.row) ?_ ?_ (by rw [grid]; exact fun _ _ _ _ e => .inl e)
  · rw [grid]
    intro slice hs n hn
    obtain ⟨old, mem, y, hy, rfl | rfl⟩ := Grid.mem_retarget hs hn
    · exact h.nodes old mem n hy
    · exact (h.nodes old mem y hy).retargeted
  · rw [grid]
    intro z hz
    obtain ⟨y, hy, rfl | rfl⟩ := Grid.mem_retarget_zones hz
    · exact h.zones z hy
    · exact (h.zones y hy).retargeted

/-- The law is kept by a pin value of one byte (R11, R12). -/
theorem State.GridLegal.takePin (h : s.GridLegal) (slice node : Nat) {value : Nat} (fits : value ≤ 255) :
    (s.takePin slice node value).GridLegal := by
  refine h.under rfl (by simpa using h.row) ?_ h.zones (fun _ _ _ _ e => .inl e)
  intro records hr n hn
  obtain rfl | ⟨old, mem, hn⟩ := Grid.mem_putNode hr hn
  · exact (h.node slice node).pinned h.tuning _ fits
  · exact h.nodes old mem n hn

/-- A held pin value that fits its byte. -/
def HeldItem.fits : HeldItem → Prop
  | .setPin _ _ _ value => value ≤ 255
  | _ => True

/-- The law is kept when a held item is taken (R13). -/
theorem State.GridLegal.takeHeldItem (h : s.GridLegal) {item : HeldItem} (fits : item.fits) : (s.takeHeldItem item).GridLegal := by
  cases item with
  | setAims tag aims clamped => exact h.retarget aims s.grid.ceiling (by simp [State.takeHeldItem, State.takeAims]) (by simp)
  | setPin tag slice node value =>
    exact (h.takePin slice node fits).congr (by simp [State.takeHeldItem, State.takePinReplying]) (by simp)
  | ceiling limit => exact h.retarget s.grid.aims limit rfl rfl

/-- The law is kept when every held item is taken (R13). -/
theorem State.GridLegal.takeHeld (h : s.GridLegal) : s.takeHeld.GridLegal := by
  have all : ∀ (items : List HeldItem) (u : State), (∀ item ∈ items, item.fits) → u.GridLegal →
      (items.foldl State.takeHeldItem u).GridLegal := by
    intro items
    induction items with
    | nil => exact fun u _ hu => hu
    | cons item rest ih =>
      intro u fits hu
      exact ih _ (fun i hi => fits i (List.mem_cons_of_mem _ hi)) (hu.takeHeldItem (fits item (by simp)))
  refine all _ _ (fun item mem => ?_) (h.under rfl h.row h.nodes h.zones (by simp))
  cases item with
  | setPin tag slice node value => exact h.held tag slice node value mem
  | setAims => trivial
  | ceiling => trivial

/-- The law is kept when a row begins, which takes the tuning record in force (R23). -/
theorem State.GridLegal.beginRow (h : s.GridLegal) : s.beginRow.GridLegal := by
  unfold State.beginRow
  split
  · exact h
  · exact h.under rfl (fun r e => by simp at e; rw [← e]) h.nodes h.zones (fun _ _ _ _ e => .inl e)

theorem State.GridLegal.advanceRows (h : s.GridLegal) : s.advanceRows.GridLegal := by
  unfold State.advanceRows
  split
  · exact h
  · exact h.takeHeld.beginRow

theorem State.GridLegal.beginDue (h : s.GridLegal) (meets : Bool) : (s.beginDue meets).GridLegal := by
  unfold State.beginDue
  split
  · exact h.beginRow
  · exact h

/-- The law is kept by a request of grid memory, taken, held or refused (R13). -/
theorem State.GridLegal.takeOrHold (h : s.GridLegal) (kind tag : Byte) {item : HeldItem} (fits : item.fits) :
    (s.takeOrHold kind tag item).GridLegal := by
  obtain ⟨-, e⟩ | ⟨-, -, e⟩ | ⟨-, -, e⟩ := s.takeOrHold_cases kind tag item <;> rw [e]
  · exact h.takeHeldItem fits
  · refine h.under rfl h.row h.nodes h.zones (fun _ _ _ _ mem => ?_)
    rcases List.mem_append.mp mem with mem | mem
    · exact .inl mem
    · rw [List.mem_singleton] at mem
      subst mem
      exact .inr fits
  · exact h.congr (by simp) (by simp)

/-- The law is kept by a settling of the region unit, whose white ceiling may reach grid memory (R113, R115). -/
theorem State.GridLegal.settleCurrent (h : s.GridLegal) : s.settleCurrent.GridLegal := by
  obtain e | ⟨limit, ⟨-, e⟩ | ⟨-, e⟩⟩ := s.settleCurrent_grid
  · exact h.congr e (by simp)
  · exact h.retarget _ _ e (by simp)
  · refine h.under (by rw [e]) (by simpa using h.row) (by rw [e]; exact h.nodes) (by rw [e]; exact h.zones) (fun _ _ _ _ mem => ?_)
    rw [e] at mem
    obtain held | held := mem_holdCeiling mem
    · nomatch held
    · exact .inl held

theorem State.GridLegal.settleRegion (h : s.GridLegal) : s.settleRegion.GridLegal :=
  h.settleCurrent.congr (by simp [State.settleRegion]) (by simp)

theorem State.GridLegal.writeGiven (h : s.GridLegal) (code : Nat) : (s.writeGiven code).GridLegal :=
  State.GridLegal.settleRegion (s := s.setRegion { s.region with given := code }) (h.congr rfl rfl)

/-- The law is kept by a restart (R16). -/
theorem State.GridLegal.restart (h : s.GridLegal) (scope : RestartScope) : (s.restart scope).GridLegal := by
  obtain ⟨grid, -, intake, -⟩ := s.restart_parts scope
  refine h.under (by rw [grid]; rfl) ?_ ?_ ?_ (by rw [grid]; exact fun _ _ _ _ e => .inl e)
  · intro r e
    rw [intake] at e
    exact h.row r (Option.eq_some_of_filter_eq_some e)
  · rw [grid]
    intro slice hs n hn
    obtain ⟨old, mem, y, hy, rfl | rfl⟩ := Grid.mem_restarted hs hn
    · exact h.nodes old mem n hy
    · exact (h.nodes old mem y hy).restarted h.tuning
  · rw [grid]
    unfold Grid.restarted
    dsimp only
    split
    · intro z hz
      obtain ⟨-, -, rfl⟩ := List.mem_map.mp hz
      exact ZoneRec.fresh_legal h.tuning
    · exact h.zones

theorem State.GridLegal.restartReplying (h : s.GridLegal) (kind tag : Byte) (scope : RestartScope) :
    (s.restartReplying kind tag scope).GridLegal :=
  State.GridLegal.advanceRows ((h.restart scope).congr (by simp) (by simp))

/-- The law is kept by a new legal tuning record with no row in process, whatever the limits were before (R6, R7). -/
theorem State.GridLegal.retune (h : s.GridLegal) {tuning : Tuning} (legal : tuning.Legal) (idle : s.intake.inProcess = none) :
    (s.retune tuning).GridLegal := by
  refine ⟨legal, fun r e => by simp [idle] at e, ?_, ?_, h.held⟩
  · intro slice hs n hn
    obtain ⟨old, mem, rfl⟩ := List.mem_map.mp hs
    obtain ⟨y, hy, rfl⟩ := List.mem_map.mp hn
    exact NodeRec.reclamped_legal legal _ (h.nodes old mem y hy).pin
  · intro z hz
    obtain ⟨y, hy, rfl⟩ := List.mem_map.mp hz
    exact ZoneRec.reclamped_legal legal _ (h.zones y hy).state

/-- The law is kept by REOPEN's clearing of loop state (R18). -/
theorem State.GridLegal.clearLoopState (h : s.GridLegal) : s.clearLoopState.GridLegal := by
  refine h.under rfl (by simpa using h.row) ?_ ?_ (fun _ _ _ _ e => .inl e)
  · intro slice hs n hn
    obtain ⟨old, mem, rfl⟩ := List.mem_map.mp hs
    obtain ⟨y, hy, rfl⟩ := List.mem_map.mp hn
    exact (h.nodes old mem y hy).reopened
  · intro z hz
    obtain ⟨y, hy, rfl⟩ := List.mem_map.mp hz
    exact (h.zones y hy).reopened

/-! ### Rows and commands -/

/-- The law is kept by one count, which works under the tuning record in force (R6, R23). -/
theorem State.GridLegal.takeCount (h : s.GridLegal) {r : RowInProcess} (row : s.intake.inProcess = some r) :
    (s.takeCount r).1.GridLegal ∧ (s.takeCount r).2.tuning = s.grid.tuning ∧ (s.takeCount r).1.grid.tuning = s.grid.tuning := by
  have under := h.row r row
  unfold State.takeCount
  dsimp only
  split
  · refine ⟨h.under rfl (by simpa [State.takeWhiteCount] using h.row) h.nodes ?_ (fun _ _ _ _ e => .inl e), under, rfl⟩
    intro z hz
    rcases List.mem_or_eq_of_mem_set hz with hz | rfl
    · exact h.zones z hz
    · rw [under]
      exact (h.zone _).zoneCount h.tuning ..
  · refine ⟨h.under rfl h.row ?_ h.zones (fun _ _ _ _ e => .inl e), under, rfl⟩
    intro records hr n hn
    obtain rfl | ⟨old, mem, hn⟩ := Grid.mem_putNode hr hn
    · rw [under]
      exact (h.node _ _).fineCount h.tuning ..
    · exact h.nodes old mem n hn

/-- The law is kept by the completion of a row: grid memory takes what it held, and perhaps the next row begins (R25, R127). -/
theorem State.GridLegal.completeRow (h : s.GridLegal) (r : RowInProcess) : (s.completeRow r).GridLegal := by
  unfold State.completeRow
  dsimp only
  have free : ∀ u : State, u.GridLegal → (u.setIntake { u.intake with inProcess := none }).GridLegal := fun u hu =>
    hu.under rfl (fun r e => by simp at e) hu.nodes hu.zones (fun _ _ _ _ e => .inl e)
  split
  · exact (free _ (h.congr (by simp) (by simp))).takeHeld
  · exact (free _ (h.congr (by simp) (by simp))).advanceRows

theorem State.GridLegal.stepRow (h : s.GridLegal) : s.stepRow.GridLegal := by
  unfold State.stepRow
  split
  · exact h
  · rename_i r row
    obtain ⟨kept, under, same⟩ := h.takeCount row
    dsimp only
    split
    · exact kept.completeRow _
    · refine kept.under rfl (fun r' e => ?_) kept.nodes kept.zones (fun _ _ _ _ e => .inl e)
      simp only [State.setIntake_intake, Option.some.injEq] at e
      rw [← e, same, under]

/-- The law is kept by the entry to OPEN (R166). -/
theorem State.GridLegal.enterOpen (h : s.GridLegal) (given : Nat) : (s.enterOpen given).GridLegal := by
  have opened : (s.setUnit { s.unit with phase := .opened }).GridLegal := h.congr rfl rfl
  exact ((opened.writeGiven given).restart .all).congr (by simp [State.enterOpen]) (by simp [State.enterOpen])

/-- The requests whose owner can change grid memory's records or the row in process. -/
def movesGrid : Request → Bool
  | .setTuning _ | .setLevels _ | .setAims _ | .setPin _ _ _ | .gridRestart _ | .measure _ _ _ | .openUnit _ _ | .loadProfile _ _
  | .setRegion _ => true
  | _ => false

/-- Every other request leaves grid memory and the intake as they are. -/
theorem State.takeRequest_keepsGrid (s : State) (p : Port) (tag : Byte) {r : Request} (still : movesGrid r = false) :
    (s.takeRequest p tag r).grid = s.grid ∧ (s.takeRequest p tag r).intake = s.intake := by
  cases r <;> simp only [movesGrid, Bool.true_eq_false] at still <;>
    simp only [State.takeRequest, State.takeStatus, State.takeReadRegion, State.takeKeyFetch, State.takeClose, State.beginCommit,
      State.takeReopen, State.takePartReset, State.takeReadNodes, State.takeReadZones, State.takeArm, State.takeDisarm, State.takeStart,
      State.takeStop, State.takeHalt, State.takeAdvance, State.takePatchAppend, State.takePatchClear, State.takeKeyBegin,
      State.takeKeyChunk, State.takeKeyDiscard, State.takeKeyFix, State.takeKeyWithdraw, State.takeKeyList, State.takeSetCheck,
      State.takeEvaluate] <;>
    (repeat' split) <;> simp

/-- The law is kept by any reply on the station port. -/
theorem State.GridLegal.reply (h : s.GridLegal) (p : Port) (kind tag : Byte) (status : Status) (fields : List Byte) :
    (s.reply p kind tag status fields).GridLegal := h.congr (by simp) (by simp)

theorem State.GridLegal.takeOpen (h : s.GridLegal) (tag : Byte) (given : Half) (serial : List Byte) :
    (s.takeOpen tag given serial).GridLegal := by
  unfold State.takeOpen
  split
  · exact h.reply ..
  split
  · exact h.reply ..
  split
  · exact h.reply ..
  split
  · exact h.congr (by simp) (by simp)
  split
  · exact h.reply ..
  · exact (h.enterOpen given.toNat).congr (by simp) (by simp)

theorem State.GridLegal.takeSetTuning (h : s.GridLegal) (tag : Byte) (fields : TuningFields) : (s.takeSetTuning tag fields).GridLegal := by
  unfold State.takeSetTuning
  split
  · exact h.reply ..
  split
  · exact h.reply ..
  · rename_i idle
    have idle : s.intake.inProcess = none := by
      by_contra busy
      exact idle (.inr (by simpa [Option.isSome_iff_ne_none] using busy))
    exact (h.retune (tuningGiven fields).clamped_legal idle).reply ..

theorem State.GridLegal.takeSetLevels (h : s.GridLegal) (tag : Byte) (codes : List Half) : (s.takeSetLevels tag codes).GridLegal := by
  have levelled : (s.setGrid { s.grid with levels := codes.map (·.toNat) }).GridLegal :=
    h.under rfl h.row h.nodes h.zones (fun _ _ _ _ e => .inl e)
  unfold State.takeSetLevels
  split
  · exact h.reply ..
  split
  · exact h.reply ..
  split
  · exact h.reply ..
  · exact levelled.restartReplying ..

theorem State.GridLegal.takeSetAims (h : s.GridLegal) (tag : Byte) (aims : List Half) : (s.takeSetAims tag aims).GridLegal := by
  unfold State.takeSetAims
  split
  · exact h.reply ..
  · exact h.takeOrHold _ _ trivial

theorem State.GridLegal.takeSetPin (h : s.GridLegal) (tag slice : Byte) (node : Half) (value : Byte) :
    (s.takeSetPin tag slice node value).GridLegal := by
  unfold State.takeSetPin
  split
  · exact h.reply ..
  split
  · exact h.reply ..
  · exact h.takeOrHold _ _ (Nat.le_of_lt_succ value.isLt)

theorem State.GridLegal.takeGridRestart (h : s.GridLegal) (tag slice : Byte) : (s.takeGridRestart tag slice).GridLegal := by
  unfold State.takeGridRestart
  split
  · exact h.reply ..
  split
  · exact h.reply ..
  split
  · exact h.reply ..
  · exact h.restartReplying ..

theorem State.GridLegal.takeMeasure (h : s.GridLegal) (tag patchTag row : Byte) (counts : List Half) :
    (s.takeMeasure tag patchTag row counts).GridLegal := by
  have refused : ∀ status, (s.refuseMeasure tag patchTag row status).GridLegal := fun _ => h.congr (by simp) (by simp)
  unfold State.takeMeasure
  split
  · exact refused _
  split
  · exact refused _
  split
  · exact refused _
  (repeat' split) <;> first
    | exact refused _
    | exact State.GridLegal.advanceRows (h.congr rfl rfl)

theorem State.GridLegal.takeLoadProfile (h : s.GridLegal) (tag slot : Byte) (f : ProfileFields) :
    (s.takeLoadProfile tag slot f).GridLegal := by
  have loaded : (s.setRegion { s.region with slots := s.region.slots.set slot.toNat (some (profileGiven f)) }).settleCurrent.GridLegal :=
    State.GridLegal.settleCurrent (h.congr rfl rfl)
  unfold State.takeLoadProfile
  split
  · exact h.reply ..
  split
  · exact h.reply ..
  split
  · exact h.reply ..
  split
  · exact h.reply ..
  · exact loaded.reply ..

theorem State.GridLegal.takeSetRegion (h : s.GridLegal) (tag : Byte) (code : Half) : (s.takeSetRegion tag code).GridLegal := by
  unfold State.takeSetRegion
  (repeat' split) <;> first
    | exact h.reply ..
    | exact (h.writeGiven code.toNat).reply ..

/-- The law is kept by every request that an owner takes. -/
theorem State.GridLegal.takeRequest (h : s.GridLegal) (p : Port) (tag : Byte) (r : Request) : (s.takeRequest p tag r).GridLegal := by
  by_cases still : movesGrid r = false
  · obtain ⟨grid, intake⟩ := s.takeRequest_keepsGrid p tag still
    exact h.congr grid (by rw [intake])
  cases r <;> simp only [movesGrid, not_true_eq_false] at still
  case openUnit => exact h.takeOpen ..
  case setTuning => exact h.takeSetTuning ..
  case setLevels => exact h.takeSetLevels ..
  case setAims => exact h.takeSetAims ..
  case setPin => exact h.takeSetPin ..
  case gridRestart => exact h.takeGridRestart ..
  case measure => exact h.takeMeasure ..
  case loadProfile => exact h.takeLoadProfile ..
  case setRegion => exact h.takeSetRegion ..

/-- The row in process is not touched by a frame boundary. -/
theorem State.frameBoundary_inProcess (s : State) : s.frameBoundary.intake.inProcess = s.intake.inProcess := by
  have ended : ∀ (p : Patch) (reason : EndReason), (s.endPatch p reason).intake.inProcess = s.intake.inProcess := fun p reason => by
    rw [State.endPatch_progress]
    split <;> rfl
  unfold State.frameBoundary State.sequencerBoundary State.advancePatch State.takePendingStart
  simp only [State.examineTrim_frame, State.takeFrameView_frame]
  (repeat' split) <;> simp [ended]

theorem State.GridLegal.markerRegion (h : s.GridLegal) (m : Marker) : (s.markerRegion m).GridLegal := by
  have sensed : (s.senseCode m).GridLegal := State.GridLegal.settleRegion (h.congr (by simp) (by simp))
  unfold State.markerRegion
  dsimp only
  split
  · exact sensed.congr (State.setRegion_grid ..) (congrArg Intake.inProcess (State.setRegion_intake ..))
  · exact h.congr rfl rfl

/-- All that a marker read can do: nothing on a line not read, else an accepted or a missed marker (R119, R120). -/
theorem State.takeMarkerRead_cases (s : State) (pixels : List Pixel) :
    s.takeMarkerRead pixels = s ∨
      (∃ m, s.takeMarkerRead pixels = (s.setRegion { s.region with lineArmed := false }).markerAccepted m) ∨
      s.takeMarkerRead pixels = (s.setRegion { s.region with lineArmed := false }).markerMissed := by
  unfold State.takeMarkerRead
  generalize decodeMarker (cellValues pixels) = decoded
  cases armed : s.region.lineArmed with
  | false => exact .inl rfl
  | true =>
    cases decoded with
    | some m => exact .inr (.inl ⟨m, rfl⟩)
    | none => exact .inr (.inr rfl)

/-- The law is kept by a marker read (R119 to R125). -/
theorem State.GridLegal.takeMarkerRead (h : s.GridLegal) (pixels : List Pixel) : (s.takeMarkerRead pixels).GridLegal := by
  have passed : (s.setRegion { s.region with lineArmed := false }).GridLegal := h.congr rfl rfl
  obtain e | ⟨m, e⟩ | e := s.takeMarkerRead_cases pixels <;> rw [e]
  · exact h
  · generalize s.setRegion { s.region with lineArmed := false } = u at passed
    have presence : (u.markerPresence m).GridLegal := passed.congr (by simp) (by simp)
    exact (presence.markerRegion m).congr (by simp [State.markerAccepted]) (by simp [State.markerAccepted])
  · exact passed.congr (by simp) (by simp)

end

end Sys2Proof.Machine

/-! SUPPORT. The law of R7 through every command, resets and start-ups among them (R20). -/

namespace Sys2Proof.Machine
open Sys2Proof

section
variable {s t : State}

/-! ### The unit's life -/

theorem State.GridLegal.takeOpenWrite (h : s.GridLegal) (outcome : WriteOutcome) : (s.takeOpenWrite outcome).GridLegal := by
  unfold State.takeOpenWrite
  split
  · rename_i tag serial given w _ _
    dsimp only
    split
    · have held : ((s.setNv (s.nv.endWrite outcome)).setUnit { s.unit with serial := some serial, op := none }).GridLegal := h.congr rfl rfl
      exact (held.enterOpen given).congr (by simp) (by simp)
    · exact h.congr (by simp) (by simp)
  · exact h

theorem State.GridLegal.failCommit (h : s.GridLegal) (tag : Byte) (step : CommitStep) : (s.failCommit tag step).GridLegal := by
  have opened : (s.setUnit { s.unit with phase := .opened, op := none }).GridLegal := h.congr rfl rfl
  exact opened.settleCurrent.reply ..

theorem State.GridLegal.takeCommitWrite (h : s.GridLegal) (outcome : WriteOutcome) : (s.takeCommitWrite outcome).GridLegal := by
  have ended : (s.setNv (s.nv.endWrite outcome)).GridLegal := h.congr rfl rfl
  unfold State.takeCommitWrite
  split
  · dsimp only
    split
    · split
      · exact ended.congr (by simp) (by simp)
      · exact ended.congr (by simp) (by simp)
    · exact ended.failCommit ..
  · exact h

theorem State.GridLegal.completeReopen (h : s.GridLegal) : s.completeReopen.GridLegal := by
  have opened : (s.setUnit { s.unit with phase := .opened, rework := s.unit.rework + 1, op := none }).GridLegal := h.congr rfl rfl
  exact (opened.clearLoopState.writeGiven s.region.committedCode).congr (by simp [State.completeReopen]) (by simp [State.completeReopen])

theorem State.GridLegal.takeReopenWrite (h : s.GridLegal) (outcome : WriteOutcome) : (s.takeReopenWrite outcome).GridLegal := by
  have ended : (s.setNv (s.nv.endWrite outcome)).GridLegal := h.congr rfl rfl
  unfold State.takeReopenWrite
  split
  · dsimp only
    split
    · exact ended.completeReopen.reply ..
    · exact ended.congr (by simp) (by simp)
  · exact h

/-! ### Resets and start-up (R20, R162) -/

/-- A reset leaves a grid that meets the law. -/
theorem State.volatileReset_gridLegal (cause : ResetCause) (nv : NvStore) (pending : List Instr) (choices : Nat) :
    (State.volatileReset cause nv pending choices).GridLegal := by
  refine ⟨Tuning.default_legal, nofun, ?_, ?_, nofun⟩
  · intro slice hs n hn
    rw [List.eq_of_mem_replicate hs] at hn
    rw [List.eq_of_mem_replicate hn]
    exact NodeRec.fresh_legal Tuning.default_legal
  · intro z hz
    rw [List.eq_of_mem_replicate hz]
    exact ZoneRec.fresh_legal Tuning.default_legal

/-- A node loaded from a legal store is legal: a gain outside the limits comes back PINNED at a pin that gives it (R20). -/
theorem loadedNode_legal {t : Tuning} {gain : Nat} (stored : (t.gmin ≤ gain ∧ gain ≤ t.gmax) ∨ (gain % 16 = 0 ∧ gain ≤ 4080)) :
    (loadedNode t gain).Legal t := by
  unfold loadedNode
  split
  · rename_i inside
    refine ⟨fun _ => ?_, nofun, Nat.zero_le _⟩
    unfold clampNat at inside
    show t.gmin ≤ gain ∧ gain ≤ t.gmax
    split at inside
    · omega
    · split at inside <;> omega
  · rename_i outside
    have pin : gain = 16 * (gain / 16) ∧ gain / 16 ≤ 255 := by
      obtain ⟨low, high⟩ | stored := stored
      · exact absurd (clampNat_of_within low high) outside
      · omega
    exact ⟨fun free => absurd rfl free, fun _ => pin, Nat.zero_le _⟩

/-- The grid loaded under mark CLOSED meets the law when the store holds legal records (R20). -/
theorem NvStore.GridStored.loaded {nv : NvStore} (stored : nv.GridStored) (ceiling : Option Nat)
    (grid : t.grid = Grid.loaded nv.loadedTuning nv.loadedImage ceiling) (idle : t.intake.inProcess = none) : t.GridLegal := by
  refine ⟨by rw [grid]; exact stored.tuning, by simp [idle], ?_, ?_, by rw [grid]; nofun⟩
  · rw [grid]
    intro slice hs n hn
    obtain ⟨old, mem, rfl⟩ := List.mem_map.mp hs
    obtain ⟨gain, hg, rfl⟩ := List.mem_map.mp hn
    exact loadedNode_legal (stored.gains old mem gain hg)
  · rw [grid]
    intro z hz
    obtain ⟨trim, mem, rfl⟩ := List.mem_map.mp hz
    exact ⟨stored.trims trim mem, Nat.zero_le _, nofun⟩

/-- What the newest copy's mark fills (R161): under mark CLOSED grid memory is loaded, else it is as it was. -/
theorem State.loadMark_grid (s : State) (cause : ResetCause) :
    (s.loadMark cause).intake = s.intake ∧
      ((¬ s.nv.MarkedClosed ∧ (s.loadMark cause).grid = s.grid) ∨
        (s.nv.MarkedClosed ∧ ∃ ceiling, (s.loadMark cause).grid = Grid.loaded s.nv.loadedTuning s.nv.loadedImage ceiling)) := by
  unfold State.loadMark NvStore.MarkedClosed
  split
  · rename_i none
    exact ⟨rfl, .inl ⟨by simp [none], rfl⟩⟩
  · rename_i copy r newest
    split <;> rename_i mark
    · exact ⟨rfl, .inl ⟨by simp [newest, mark], rfl⟩⟩
    · exact ⟨rfl, .inl ⟨by simp [newest, mark], rfl⟩⟩
    · exact ⟨rfl, .inr ⟨⟨copy, r, newest, mark⟩, _, rfl⟩⟩

theorem State.startedUp_gridLegal (s : State) (cause : ResetCause) (stored : s.nv.MarkedClosed → s.nv.GridStored) :
    (s.startedUp cause).GridLegal := by
  have fresh := State.volatileReset_gridLegal cause s.nv s.pending s.choices
  obtain ⟨intake, ⟨-, grid⟩ | ⟨marked, ceiling, grid⟩⟩ :=
    ((State.volatileReset cause s.nv s.pending s.choices).setKeys (.rebuilt s.nv.keyArea)).loadMark_grid cause
  · exact fresh.congr grid (congrArg Intake.inProcess intake)
  · exact (stored marked).loaded ceiling grid (congrArg Intake.inProcess intake)

/-! ### Every command -/

theorem State.GridLegal.event (h : s.GridLegal) {c : Instr} (event : s.Event c t) : t.GridLegal := by
  cases event with
  | frameStart lines pixels =>
    obtain ⟨u, e, -, -, -, grid, intake, -⟩ := s.takeFrameStart_cases (lines.toNat, pixels.toNat)
    refine h.congr (by simp) ?_
    rw [← intake]
    rcases e with e | e <;> rw [e]
    exact u.frameBoundary_inProcess
  | gapExpiry => exact h.congr (by simp) (by simp)
  | tick =>
    refine h.congr (by simp) ?_
    unfold State.takeTick
    split
    · rfl
    · exact s.frameBoundary_inProcess
  | trimSent => exact h.congr (by simp) (by simp)
  | progress =>
    refine h.congr (by simp) ?_
    unfold State.progressExpiry
    dsimp only
    (repeat' split) <;> simp
  | marker line => exact (h.takeMarkerRead line.pixels).beginDue line.meets
  | count => exact h.stepRow
  | openWrite outcome => exact h.takeOpenWrite outcome
  | commitWrite outcome => exact h.takeCommitWrite outcome
  | reopenWrite outcome => exact h.takeReopenWrite outcome
  | fixWrite outcome => exact h.congr (by simp) (by simp)
  | withdrawWrite outcome => exact h.congr (by simp) (by simp)

/-- The law is kept by every command; at a start-up it rests on what the store holds (R7, R20). -/
theorem exec_keeps_gridLegal {c : Instr} (run : exec c s = .next t)
    (stored : c = .startupLoading → s.nv.MarkedClosed → s.nv.GridStored) (h : s.GridLegal) : t.GridLegal := by
  cases exec_cases run with
  | nothing => exact h
  | reset source cut command => exact State.volatileReset_gridLegal ..
  | startup cause held command => exact s.startedUp_gridLegal cause (stored command)
  | requestedReset p running due command => exact (State.volatileReset_gridLegal ..).congr (by simp; rfl) (by simp; rfl)
  | ports u running only => exact h.congr (by simp [only.blocks.grid]) (by simp [only.blocks.intake])
  | request u p tag r running taken =>
    have arrived : u.GridLegal := h.congr taken.same.blocks.grid (by rw [taken.same.blocks.intake])
    exact (arrived.takeRequest p tag r).congr (by simp) (by simp)
  | event u running event => exact (h.event event).congr (by simp) (by simp)

end

end Sys2Proof.Machine

/-! SUPPORT. What the end of a write leaves in the store: which copy of the unit record is the newest, and what the records hold (R159, R168). -/

namespace Sys2Proof.Machine
open Sys2Proof

/-! ### The newest copy (R159) -/

section
variable {nv nv' : NvStore} {w : NvWrite} {mark : Mark} {outcome : WriteOutcome}

/-- The newest copy is read from the two copies alone. -/
theorem NvStore.newest_congr (a : nv'.copyA = nv.copyA) (b : nv'.copyB = nv.copyB) : nv'.newest = nv.newest := by
  simp [NvStore.newest, NvStore.record, a, b]

/-- The mark in force is read from the two copies alone. -/
theorem NvStore.markedClosed_congr (newest : nv'.newest = nv.newest) : nv'.MarkedClosed ↔ nv.MarkedClosed := by
  unfold NvStore.MarkedClosed
  rw [newest]

/-- What start-up loads is read from the grid record and the tuning record. -/
theorem NvStore.GridStored.congr (h : nv.GridStored) (grid : nv'.gridRecord = nv.gridRecord) (tuning : nv'.tuningRecord = nv.tuningRecord) :
    nv'.GridStored := by
  have image : nv'.loadedImage = nv.loadedImage := by simp [NvStore.loadedImage, grid]
  have record : nv'.loadedTuning = nv.loadedTuning := by simp [NvStore.loadedTuning, tuning]
  exact ⟨record ▸ h.tuning, by rw [image, record]; exact h.gains, by rw [image, record]; exact h.trims⟩

/-- The next unit record goes into copy B beside a newest copy A, and else into copy A (R159). -/
theorem NvStore.target_cases (nv : NvStore) :
    (nv.target = .copyB ∧ ∃ r, nv.newest = some (.a, r) ∧ nv.record .a = some r) ∨
      (nv.target = .copyA ∧ nv.newest = none ∧ nv.record .b = none) ∨
      (nv.target = .copyA ∧ ∃ r, nv.newest = some (.b, r) ∧ nv.record .b = some r) := by
  unfold NvStore.target NvStore.newest
  cases a : nv.record .a with
  | none => cases b : nv.record .b <;> simp
  | some ra =>
    cases b : nv.record .b with
    | none => simp
    | some rb => by_cases older : ra.generation < rb.generation <;> simp [older]

/-- A write into the copy that is not the newest leaves the records as they are. -/
theorem NvStore.endWrite_target_records (write : nv.write = some w) (place : w.place = nv.target) (outcome : WriteOutcome) :
    (nv.endWrite outcome).gridRecord = nv.gridRecord ∧ (nv.endWrite outcome).tuningRecord = nv.tuningRecord := by
  unfold NvStore.endWrite
  rw [write]
  dsimp only
  obtain ⟨target, -⟩ | ⟨target, -⟩ | ⟨target, -⟩ := nv.target_cases <;> rw [place, target] <;> exact ⟨rfl, rfl⟩

/-- With one copy invalid the other, if it is valid, is the newest. -/
theorem NvStore.newest_of_one (nv : NvStore) :
    (nv.record .b = none → nv.newest = (nv.record .a).map (.a, ·)) ∧ (nv.record .a = none → nv.newest = (nv.record .b).map (.b, ·)) := by
  unfold NvStore.newest
  cases a : nv.record .a <;> cases b : nv.record .b <;> simp

/-- Of two valid copies the one with the higher generation is the newest, copy A at equal ones (R159, log 16). -/
theorem NvStore.newest_of_two {ra rb : UnitRecord} (a : nv.record .a = some ra) (b : nv.record .b = some rb) :
    nv.newest = if ra.generation < rb.generation then some (.b, rb) else some (.a, ra) := by
  simp only [NvStore.newest, a, b]

/-- What the end of a write into copy A leaves the copies. -/
theorem NvStore.endWrite_copyA (write : nv.write = some w) (place : w.place = .copyA) (outcome : WriteOutcome) :
    (nv.endWrite outcome).record .a = (if outcome = .whole then some w.data else none).bind UnitRecord.ofBytes ∧
      (nv.endWrite outcome).record .b = nv.record .b := by
  unfold NvStore.endWrite
  simp only [write, place]
  exact ⟨rfl, rfl⟩

/-- What the end of a write into copy B leaves the copies. -/
theorem NvStore.endWrite_copyB (write : nv.write = some w) (place : w.place = .copyB) (outcome : WriteOutcome) :
    (nv.endWrite outcome).record .a = nv.record .a ∧
      (nv.endWrite outcome).record .b = (if outcome = .whole then some w.data else none).bind UnitRecord.ofBytes := by
  unfold NvStore.endWrite
  simp only [write, place]
  exact ⟨rfl, rfl⟩

/-- A torn write into the copy that is not the newest leaves the newest as it is (R159). -/
theorem NvStore.endWrite_target_torn (write : nv.write = some w) (place : w.place = nv.target) (torn : outcome ≠ .whole) :
    (nv.endWrite outcome).newest = nv.newest := by
  obtain ⟨target, r, newest, valid⟩ | ⟨target, newest, valid⟩ | ⟨target, r, newest, valid⟩ := nv.target_cases
  · obtain ⟨a, b⟩ := NvStore.endWrite_copyB write (place.trans target) outcome
    rw [newest, (NvStore.newest_of_one _).1 (by simp [b, torn]), a, valid]
    rfl
  · obtain ⟨a, b⟩ := NvStore.endWrite_copyA write (place.trans target) outcome
    rw [newest, (NvStore.newest_of_one _).2 (by simp [a, torn]), b, valid]
    rfl
  · obtain ⟨a, b⟩ := NvStore.endWrite_copyA write (place.trans target) outcome
    rw [newest, (NvStore.newest_of_one _).2 (by simp [a, torn]), b, valid]
    rfl

/-- A whole write of a copy with the next generation makes it the newest, as long as its generation fits the field (R159, log 16). -/
theorem NvStore.endWrite_target_whole {r : UnitRecord} (write : nv.write = some w) (place : w.place = nv.target) (data : w.data = r.bytes)
    (next : r.generation = nv.nextGeneration) (fits : nv.nextGeneration ≤ 4294967295) :
    ∃ copy, (nv.endWrite .whole).newest = some (copy, r.stored) := by
  have read := UnitRecord.ofBytes_bytes (r := r) (by omega)
  have same : r.stored.generation = nv.nextGeneration := next
  unfold NvStore.nextGeneration at same
  obtain ⟨target, old, newest, valid⟩ | ⟨target, newest, valid⟩ | ⟨target, old, newest, valid⟩ := nv.target_cases <;> rw [newest] at same
  · obtain ⟨a, b⟩ := NvStore.endWrite_copyB write (place.trans target) .whole
    refine ⟨.b, ?_⟩
    rw [NvStore.newest_of_two (a.trans valid) (b.trans (by simpa [data] using read)), if_pos (by simp [same])]
  · obtain ⟨a, b⟩ := NvStore.endWrite_copyA write (place.trans target) .whole
    refine ⟨.a, ?_⟩
    rw [(NvStore.newest_of_one _).1 (b.trans valid), a.trans (by simpa [data] using read)]
    rfl
  · obtain ⟨a, b⟩ := NvStore.endWrite_copyA write (place.trans target) .whole
    refine ⟨.a, ?_⟩
    rw [NvStore.newest_of_two (a.trans (by simpa [data] using read)) (b.trans valid), if_neg (by simp [same])]

/-- A write elsewhere than into a copy leaves the newest copy as it is. -/
theorem NvStore.endWrite_newest (write : nv.write = some w) (a : w.place ≠ .copyA) (b : w.place ≠ .copyB) (outcome : WriteOutcome) :
    (nv.endWrite outcome).newest = nv.newest := by
  refine NvStore.newest_congr ?_ ?_ <;>
  · unfold NvStore.endWrite
    rw [write]
    dsimp only
    split <;> first | rfl | contradiction

/-- A whole write of a mark puts that mark in force (R161, R168). -/
theorem NvStore.WritesMark.whole (h : nv.WritesMark mark w) (write : nv.write = some w) (fits : nv.nextGeneration ≤ 4294967295) :
    (nv.endWrite .whole).MarkedClosed ↔ mark = .closed := by
  obtain ⟨place, r, data, next, rfl⟩ := h
  obtain ⟨copy, newest⟩ := NvStore.endWrite_target_whole write place data next fits
  simp [NvStore.MarkedClosed, newest, UnitRecord.stored]

/-- A torn write of a mark leaves the mark in force as it is (R159). -/
theorem NvStore.WritesMark.torn (h : nv.WritesMark mark w) (write : nv.write = some w) (torn : outcome ≠ .whole) :
    (nv.endWrite outcome).MarkedClosed ↔ nv.MarkedClosed :=
  NvStore.markedClosed_congr (NvStore.endWrite_target_torn write h.1 torn)

/-- The mark write that has not been ended begins in a store, for the copy that is not the newest (R159). -/
theorem NvStore.beginWrite_writesMark (nv : NvStore) {r : UnitRecord} (next : r.generation = nv.nextGeneration) :
    (nv.beginWrite nv.target r.bytes).WritesMark r.mark { place := nv.target, data := r.bytes } :=
  ⟨rfl, r, rfl, next, rfl⟩

end

/-! ### What a commit has put into the records (R20, R168) -/

/-- The grid and tuning records written from a legal grid are what start-up may load. -/
theorem State.gridStored_of_records {s : State} {nv : NvStore} (legal : s.GridLegal) (shaped : s.Shaped)
    (grid : nv.gridRecord = some s.grid.image.bytes) (tuning : nv.tuningRecord = some s.grid.tuning.bytes) : nv.GridStored := by
  have record : nv.loadedTuning = s.grid.tuning := by simp [NvStore.loadedTuning, tuning, Tuning.ofBytes_bytes legal.tuning]
  have gainOf : ∀ slice ∈ s.grid.image.gains, ∀ g ∈ slice,
      (s.grid.tuning.gmin ≤ g ∧ g ≤ s.grid.tuning.gmax) ∨ (g % 16 = 0 ∧ g ≤ 4080) := by
    intro slice hs g hg
    obtain ⟨nodes, mem, rfl⟩ := List.mem_map.mp hs
    obtain ⟨n, hn, rfl⟩ := List.mem_map.mp hg
    have node := legal.nodes nodes mem n hn
    by_cases pinned : n.cell.state = .pinned
    · obtain ⟨value, fits⟩ := node.pin pinned
      right
      omega
    · exact .inl (node.gain pinned)
  have trimOf : ∀ t ∈ s.grid.image.trims, s.grid.tuning.zmin ≤ t ∧ t ≤ s.grid.tuning.zmax := by
    intro t ht
    obtain ⟨z, hz, rfl⟩ := List.mem_map.mp ht
    exact (legal.zones z hz).trim
  have shape : s.grid.image.gains.length = 15 ∧ ∀ slice ∈ s.grid.image.gains, slice.length = 576 := by
    refine ⟨by simp [Grid.image, Grid.gains, shaped.colour.1], fun slice hs => ?_⟩
    obtain ⟨nodes, mem, rfl⟩ := List.mem_map.mp hs
    simp [shaped.colour.2 nodes mem]
  have high := legal.tuning.gmax.2
  have trimHigh := legal.tuning.zmax.2
  have image : nv.loadedImage = .ofBytes s.grid.image.bytes := by simp [NvStore.loadedImage, grid]
  have gains := GridImage.ofBytes_gains shape (fun slice hs g hg => by have := gainOf slice hs g hg; omega)
  have trims := GridImage.ofBytes_trims shape (by simp [Grid.image, trimsOf, shaped.zones]) (fun t ht => by have := trimOf t ht; omega)
  exact ⟨record ▸ legal.tuning, by rw [image, gains, record]; exact gainOf, by rw [image, trims, record]; exact trimOf⟩

end Sys2Proof.Machine

/-! SUPPORT. The store under the law of R7: a commit alone writes the records, and the mark follows them (R20, R168, R172). -/

namespace Sys2Proof.Machine
open Sys2Proof

/-! ### Operations, phases and writes in flight -/

section
variable {s t : State}

/-- A commit in flight stands in a running part in phase CLOSING (R168). -/
theorem State.OpsAgree.commit (ops : s.OpsAgree) {tag : Byte} {step : CommitStep} (op : s.unit.op = some (.commit tag step)) :
    s.unit.phase = .closing ∧ s.power = .running := by
  refine ⟨by simpa [UnitPhase.suits, op] using ops.phase, ?_⟩
  by_contra held
  simp [ops.held held] at op

/-- A write in flight belongs to an operation (R160). -/
theorem State.OpsAgree.op_of_write (ops : s.OpsAgree) {w : NvWrite} (write : s.nv.write = some w) : ∃ op, s.unit.op = some op := by
  have := ops.write
  rw [write] at this
  exact Option.isSome_iff_exists.mp this.symm

/-- With no operation registered nothing is being written (R160). -/
theorem State.OpsAgree.no_write (ops : s.OpsAgree) (op : s.unit.op = none) : s.nv.write = none := by
  have := ops.write
  rw [op] at this
  simpa using this

/-- The key table's progress is the unit controller's operation (R128, R160). -/
theorem State.OpsAgree.of_keys (ops : s.OpsAgree) {op : KeyOp} (progress : s.keys.op = some op) : s.unit.op = some op.kind := by
  have agree := ops.keys
  rw [progress, Option.map_some] at agree
  exact (Option.filter_eq_some_iff.mp agree.symm).1

/-- Two states alike in what the store's law speaks of; grid memory may differ where no commit is in flight. -/
structure State.StoreSame (s t : State) : Prop where
  nv : t.nv = s.nv
  power : t.power = s.power
  phase : t.unit.phase = s.unit.phase
  op : t.unit.op = s.unit.op
  grid : s.unit.phase = .closing → t.grid = s.grid

/-- The law speaks of those alone. -/
theorem State.StoreLegal.congr (h : s.StoreLegal) (ops : s.OpsAgree) (same : s.StoreSame t) : t.StoreLegal := by
  obtain ⟨nv, power, phase, op, grid⟩ := same
  refine ⟨by rw [nv]; exact h.stored, by rw [nv, power, phase]; exact h.unclosed, ?_⟩
  intro w o hw ho
  rw [nv] at hw
  rw [op] at ho
  have writes := h.writes w o hw ho
  cases o with
  | commit tag step =>
    have grid := grid (ops.commit ho).1
    cases step <;> simpa only [State.OpWrites, State.CommitWrites, nv, grid] using writes
  | openWrite => simpa only [State.OpWrites, nv] using writes
  | reopenWrite => simpa only [State.OpWrites, nv] using writes
  | keyFix => exact writes
  | keyWithdraw => exact writes

/-- The law with no operation in flight. -/
theorem State.StoreLegal.idle (stored : t.nv.MarkedClosed → t.nv.GridStored)
    (unclosed : t.unit.phase ≠ .closed → ¬ t.nv.MarkedClosed) (op : t.unit.op = none) : t.StoreLegal :=
  ⟨stored, fun _ => unclosed, fun w o _ ho => by simp [op] at ho⟩

/-! ### The end of a write -/

/-- A commit that ends any write but a whole one of the mark CLOSED leaves no mark CLOSED in force (R168, R170). -/
theorem State.StoreLegal.commit_unmarked (h : s.StoreLegal) (ops : s.OpsAgree) (fits : s.nv.nextGeneration ≤ 4294967295) {w : NvWrite}
    (write : s.nv.write = some w) {tag : Byte} {step : CommitStep} (op : s.unit.op = some (.commit tag step)) {outcome : WriteOutcome}
    (unfinished : outcome ≠ .whole ∨ ∀ identity, step ≠ .closedMark identity) : ¬ (s.nv.endWrite outcome).MarkedClosed := by
  obtain ⟨phase, running⟩ := ops.commit op
  have before : ¬ s.nv.MarkedClosed := h.unclosed running (by simp [phase])
  have writes : s.CommitWrites w step := h.writes w _ write op
  have elsewhere : w.place ≠ .copyA → w.place ≠ .copyB → ¬ (s.nv.endWrite outcome).MarkedClosed := fun a b => by
    rwa [NvStore.markedClosed_congr (NvStore.endWrite_newest write a b outcome)]
  cases step with
  | closingMark =>
    by_cases whole : outcome = .whole
    · subst whole
      simp [NvStore.WritesMark.whole writes write fits]
    · rwa [NvStore.WritesMark.torn writes write whole]
  | gridRecord => exact elsewhere (by simp [writes.1]) (by simp [writes.1])
  | regionRecord => exact elsewhere (by simp [writes.1]) (by simp [writes.1])
  | tuningRecord => exact elsewhere (by simp [writes.1]) (by simp [writes.1])
  | closedMark identity =>
    rwa [NvStore.WritesMark.torn writes.1 write (unfinished.resolve_right (fun h => h identity rfl))]

/-- Whatever a mark write leaves, a mark CLOSED in force afterwards was in force before, over the same records, unless the mark written is CLOSED. -/
theorem State.StoreLegal.markWrite_stored (h : s.StoreLegal) (fits : s.nv.nextGeneration ≤ 4294967295) {w : NvWrite}
    (write : s.nv.write = some w) {mark : Mark} (writes : s.nv.WritesMark mark w) (other : mark ≠ .closed) (outcome : WriteOutcome)
    (marked : (s.nv.endWrite outcome).MarkedClosed) : (s.nv.endWrite outcome).GridStored := by
  obtain ⟨grid, tuning⟩ := NvStore.endWrite_target_records write writes.1 outcome
  by_cases whole : outcome = .whole
  · subst whole
    exact absurd ((writes.whole write fits).mp marked) other
  · exact (h.stored ((writes.torn write whole).mp marked)).congr grid tuning

/-- Whatever an operation's write leaves, the records are legal if the mark in force is CLOSED (R20, R168). -/
theorem State.StoreLegal.endWrite_stored (h : s.StoreLegal) (ops : s.OpsAgree) (legal : s.GridLegal) (shaped : s.Shaped)
    (fits : s.nv.nextGeneration ≤ 4294967295) (outcome : WriteOutcome) (marked : (s.nv.endWrite outcome).MarkedClosed) :
    (s.nv.endWrite outcome).GridStored := by
  cases write : s.nv.write with
  | none =>
    have same : s.nv.endWrite outcome = s.nv := by simp [NvStore.endWrite, write]
    rw [same] at marked ⊢
    exact h.stored marked
  | some w =>
    obtain ⟨op, registered⟩ := ops.op_of_write write
    have writes := h.writes w op write registered
    have keyArea : (∃ offset, w.place = .keyArea offset) → (s.nv.endWrite outcome).GridStored := by
      rintro ⟨offset, place⟩
      rw [NvStore.markedClosed_congr (NvStore.endWrite_newest write (by simp [place]) (by simp [place]) outcome)] at marked
      refine (h.stored marked).congr ?_ ?_ <;> simp [NvStore.endWrite, write, place]
    cases op with
    | openWrite => exact h.markWrite_stored fits write writes (by simp) outcome marked
    | reopenWrite => exact h.markWrite_stored fits write writes (by simp) outcome marked
    | keyFix => exact keyArea writes
    | keyWithdraw => exact keyArea writes
    | commit tag step =>
      by_cases finished : outcome = .whole ∧ ∃ identity, step = .closedMark identity
      · obtain ⟨-, identity, rfl⟩ := finished
        obtain ⟨mark, gridWritten, tuningWritten⟩ := writes
        obtain ⟨grid, tuning⟩ := NvStore.endWrite_target_records write mark.1 outcome
        exact State.gridStored_of_records legal shaped (grid.trans gridWritten) (tuning.trans tuningWritten)
      · refine absurd marked (h.commit_unmarked ops fits write registered ?_)
        by_cases whole : outcome = .whole
        · exact .inr (fun identity e => finished ⟨whole, identity, e⟩)
        · exact .inl whole

end

/-! ### Requests -/

section
variable {s t : State}

/-- The requests whose owner can begin an operation or move the unit's phase. -/
def movesUnit : Request → Bool
  | .openUnit _ _ | .close | .reopen | .keyFix | .keyWithdraw _ => true
  | _ => false

/-- Every other request leaves the store, the phase and the operation in flight as they are. -/
theorem State.takeRequest_keepsUnit (s : State) (p : Port) (tag : Byte) {r : Request} (still : movesUnit r = false) :
    (s.takeRequest p tag r).nv = s.nv ∧ (s.takeRequest p tag r).power = s.power ∧
      (s.takeRequest p tag r).unit.phase = s.unit.phase ∧ (s.takeRequest p tag r).unit.op = s.unit.op := by
  cases r <;> simp only [movesUnit, Bool.true_eq_false] at still <;>
    simp only [State.takeRequest, State.takeStatus, State.takeReadRegion, State.takeKeyFetch, State.takePartReset, State.takeSetTuning,
      State.takeSetLevels, State.takeSetAims, State.takeSetPin, State.takeGridRestart, State.takeReadNodes, State.takeReadZones,
      State.takeMeasure, State.takeArm, State.takeDisarm, State.takeStart, State.takeStop, State.takeHalt, State.takeAdvance,
      State.takePatchAppend, State.takePatchClear, State.takeLoadProfile, State.takeSetRegion, State.takeKeyBegin, State.takeKeyChunk,
      State.takeKeyDiscard, State.takeKeyList, State.takeSetCheck, State.takeEvaluate] <;>
    (repeat' split) <;> simp

/-- While a commit is in flight no request touches grid memory (R171). -/
theorem State.takeRequest_keepsGrid_closing (s : State) (p : Port) (tag : Byte) (r : Request) (phase : s.unit.phase = .closing) :
    (s.takeRequest p tag r).grid = s.grid := by
  by_cases still : movesGrid r = false
  · exact (s.takeRequest_keepsGrid p tag still).1
  · cases r <;> simp only [movesGrid, not_true_eq_false] at still <;>
      simp [State.takeRequest, State.takeOpen, State.takeSetTuning, State.takeSetLevels, State.takeSetAims, State.takeSetPin,
        State.takeGridRestart, State.takeMeasure, State.takeLoadProfile, State.takeSetRegion, phase]

/-- Beginning the write of a unit record copy, for an operation that writes that mark, keeps the law where the phase stays outside CLOSED
or stays as it was (R159). -/
theorem State.StoreLegal.beginRecord (h : s.StoreLegal) (nv : t.nv = s.nv) (power : t.power = s.power)
    (phase : t.unit.phase ≠ .closed → s.unit.phase ≠ .closed) {op : NvOp} (registered : t.unit.op = some op) (mark : Mark)
    (rework : Nat) (serial : List Byte) (identity : Option StationId)
    (writes : ∀ (u : State) w, u.nv.WritesMark mark w → u.OpWrites w op) :
    (t.beginRecord mark rework serial identity).StoreLegal := by
  refine ⟨?_, fun running open' => ?_, fun w o hw ho => ?_⟩
  · intro marked
    have : s.nv.MarkedClosed := by rw [← nv]; exact marked
    refine (h.stored this).congr ?_ ?_
    · show t.nv.gridRecord = _
      rw [nv]
    · show t.nv.tuningRecord = _
      rw [nv]
  · intro marked
    refine h.unclosed (by simpa [power] using running) (phase (by simpa using open')) ?_
    rw [← nv]
    exact marked
  · simp only [State.beginRecord_frame, registered, Option.some.injEq] at ho
    subst ho
    refine writes _ w ?_
    have e : w = _ := (Option.some.inj hw).symm
    subst e
    exact NvStore.beginWrite_writesMark t.nv rfl

theorem State.StoreLegal.takeOpen (h : s.StoreLegal) (ops : s.OpsAgree) (running : s.power = .running) (tag : Byte) (given : Half)
    (serial : List Byte) : (s.takeOpen tag given serial).StoreLegal := by
  have refused : ∀ status, (s.refuse .station 0x10 tag status).StoreLegal := fun _ =>
    h.congr ops ⟨by simp, by simp, by simp, by simp, by simp⟩
  unfold State.takeOpen
  split
  · exact refused _
  rename_i phase
  split
  · exact refused _
  split
  · exact refused _
  rename_i free
  split
  · exact h.beginRecord (t := s.setUnit { s.unit with op := some (.openWrite tag serial given.toNat) }) rfl rfl id rfl .opened 0 serial none
      (fun _ _ => id)
  · split
    · exact refused _
    · refine .idle (by simpa using h.stored) (fun _ => ?_) (by simpa [State.enterOpen] using free)
      simpa using h.unclosed running (fun closed => phase (by simp [closed]))

/-- CLOSE begins with the write of mark CLOSING (R168). -/
theorem State.StoreLegal.takeClose (h : s.StoreLegal) (ops : s.OpsAgree) (tag : Byte) : (s.takeClose tag).StoreLegal := by
  unfold State.takeClose
  split
  · exact h.congr ops ⟨by simp, by simp, by simp, by simp, by simp⟩
  · rename_i granted
    have opened : s.unit.phase = .opened := by
      by_contra other
      simp [State.closeRefusal, other] at granted
    exact h.beginRecord (op := .commit tag .closingMark) (by simp) (by simp) (by simp [opened]) rfl .closing _ _ _ (fun _ _ => id)

theorem State.StoreLegal.takeReopen (h : s.StoreLegal) (ops : s.OpsAgree) (tag : Byte) : (s.takeReopen tag).StoreLegal := by
  have refused : ∀ status, (s.refuse .station 0x12 tag status).StoreLegal := fun _ =>
    h.congr ops ⟨by simp, by simp, by simp, by simp, by simp⟩
  unfold State.takeReopen
  split
  · exact refused _
  split
  · exact refused _
  split
  · exact refused _
  · exact h.beginRecord (t := s.setUnit { s.unit with op := some (.reopenWrite tag) }) rfl rfl id rfl .opened _ _ _ (fun _ _ => id)

/-! ### The key table's operations -/

/-- Two stores alike but for the key area, with no write in flight but into it. -/
structure NvStore.KeyAreaOnly (nv nv' : NvStore) : Prop where
  newest : nv'.newest = nv.newest
  grid : nv'.gridRecord = nv.gridRecord
  tuning : nv'.tuningRecord = nv.tuningRecord
  write : ∀ w, nv'.write = some w → ∃ offset, w.place = .keyArea offset

/-- The law is kept by the key table's operations, whose writes go into the key area (R136, R139). -/
theorem State.StoreLegal.keyArea (h : s.StoreLegal) (same : s.nv.KeyAreaOnly t.nv) (power : t.power = s.power)
    (phase : t.unit.phase = s.unit.phase) (op : ∀ op, t.unit.op = some op → op = .keyFix ∨ op = .keyWithdraw) : t.StoreLegal := by
  have marked := NvStore.markedClosed_congr same.newest
  refine ⟨fun m => (h.stored (marked.mp m)).congr same.grid same.tuning, ?_, fun w o hw ho => ?_⟩
  · rw [power, phase, marked]
    exact h.unclosed
  · obtain rfl | rfl := op o ho
    · exact same.write w hw
    · exact same.write w hw

/-- The store from which the next key's first write begins, or the operation ends (R137). -/
theorem State.nextFixKey_keyAreaOnly {nv : NvStore} (same : nv.KeyAreaOnly s.nv) (tag : Byte) (count : Nat) :
    nv.KeyAreaOnly (s.nextFixKey tag count).nv := by
  unfold State.nextFixKey
  split
  · split
    · exact ⟨same.newest, same.grid, same.tuning, fun w hw => ⟨_, (congrArg NvWrite.place (Option.some.inj hw)).symm⟩⟩
    · exact same
  · simpa using same

/-- What the next key leaves registered: the operation, or nothing after the last one (R137). -/
theorem State.nextFixKey_unit (s : State) (tag : Byte) (count : Nat) :
    (s.nextFixKey tag count).unit.phase = s.unit.phase ∧
      ((s.nextFixKey tag count).unit.op = s.unit.op ∨ (s.nextFixKey tag count).unit.op = none) := by
  unfold State.nextFixKey
  (repeat' split) <;> simp

theorem State.StoreLegal.takeKeyFix (h : s.StoreLegal) (ops : s.OpsAgree) (tag : Byte) : (s.takeKeyFix tag).StoreLegal := by
  have refused : ∀ status fields, (s.reply .station 0x53 tag status fields).StoreLegal := fun _ _ =>
    h.congr ops ⟨by simp, by simp, by simp, by simp, by simp⟩
  unfold State.takeKeyFix
  split
  · exact refused ..
  split
  · exact refused ..
  rename_i free
  have quiet : s.nv.write = none := ops.no_write (by simpa using free)
  split
  · exact refused ..
  split
  · exact refused ..
  · have same : s.nv.KeyAreaOnly s.nv := ⟨rfl, rfl, rfl, fun w hw => by simp [quiet] at hw⟩
    generalize fixing : (s.setKeys { s.keys with entries := s.keys.fixSet }).setUnit { s.unit with op := some .keyFix } = u
    have kept : u.nv = s.nv ∧ u.power = s.power ∧ u.unit = { s.unit with op := some .keyFix } := by simp [← fixing]
    obtain ⟨nv, power, unit⟩ := kept
    obtain ⟨phase, op⟩ := u.nextFixKey_unit tag 0
    rw [unit] at phase op
    refine h.keyArea (State.nextFixKey_keyAreaOnly (nv ▸ same) tag 0) (by simp [power]) phase (fun o ho => ?_)
    · rcases op with op | op <;> rw [op] at ho
      · exact .inl (Option.some.inj ho).symm
      · nomatch ho

theorem State.StoreLegal.takeKeyWithdraw (h : s.StoreLegal) (ops : s.OpsAgree) (tag : Byte) (id : Half) :
    (s.takeKeyWithdraw tag id).StoreLegal := by
  have refused : ∀ status fields, (s.reply .station 0x54 tag status fields).StoreLegal := fun _ _ =>
    h.congr ops ⟨by simp, by simp, by simp, by simp, by simp⟩
  unfold State.takeKeyWithdraw
  split
  · exact refused ..
  split
  · exact refused ..
  split
  · exact refused ..
  split
  · exact refused ..
  split
  · exact refused ..
  · refine h.keyArea ⟨rfl, rfl, rfl, fun w hw => ⟨_, (congrArg NvWrite.place (Option.some.inj hw)).symm⟩⟩ rfl rfl (fun o ho => ?_)
    exact .inr (Option.some.inj ho).symm

/-- The law is kept by every request that an owner takes. -/
theorem State.StoreLegal.takeRequest (h : s.StoreLegal) (ops : s.OpsAgree) (running : s.power = .running) (p : Port) (tag : Byte)
    (r : Request) : (s.takeRequest p tag r).StoreLegal := by
  by_cases still : movesUnit r = false
  · obtain ⟨nv, power, phase, op⟩ := s.takeRequest_keepsUnit p tag still
    exact h.congr ops ⟨nv, power, phase, op, s.takeRequest_keepsGrid_closing p tag r⟩
  cases r <;> simp only [movesUnit, not_true_eq_false] at still
  case openUnit => exact h.takeOpen ops running ..
  case close => exact h.takeClose ops tag
  case reopen => exact h.takeReopen ops tag
  case keyFix => exact h.takeKeyFix ops tag
  case keyWithdraw => exact h.takeKeyWithdraw ops tag _

end

end Sys2Proof.Machine

/-! SUPPORT. The store's law through the completions of writes, through every command, and through every step (R20, R168, R172). -/

namespace Sys2Proof.Machine
open Sys2Proof

section
variable {s t : State}

/-! ### Completions of the unit controller's writes -/

/-- OPEN_WRITE_COMPLETE: a verified copy marks the store OPEN, a failed one leaves a BLANK unit's store unmarked as it was (R165). -/
theorem State.StoreLegal.takeOpenWrite (h : s.StoreLegal) (ops : s.OpsAgree) (legal : s.GridLegal) (shaped : s.Shaped)
    (fits : s.nv.nextGeneration ≤ 4294967295) (running : s.power = .running) (outcome : WriteOutcome) :
    (s.takeOpenWrite outcome).StoreLegal := by
  unfold State.takeOpenWrite
  split
  · rename_i tag serial given w op write
    have stored := h.endWrite_stored ops legal shaped fits outcome
    have writes : s.nv.WritesMark .opened w := h.writes w _ write op
    have blank : s.unit.phase = .blank := by simpa [UnitPhase.suits, op] using ops.phase
    have unmarked : ¬ (s.nv.endWrite outcome).MarkedClosed := by
      by_cases whole : outcome = .whole
      · subst whole
        simp [writes.whole write fits]
      · rw [writes.torn write whole]
        exact h.unclosed running (by simp [blank])
    dsimp only
    split
    · exact .idle (by simpa using stored) (fun _ => by simpa using unmarked) (by simp [State.enterOpen])
    · exact .idle (by simpa using stored) (fun _ => by simpa using unmarked) (by simp)
  · exact h

/-- The commit's next write stands in the store it begins in (R168). -/
theorem State.commitNext_writes (h : s.StoreLegal) {w : NvWrite} (write : s.nv.write = some w) {tag : Byte} {step : CommitStep}
    (op : s.unit.op = some (.commit tag step)) (unfinished : ∀ identity, step ≠ .closedMark identity) (w' : NvWrite) (op' : NvOp)
    (write' : ((s.setNv (s.nv.endWrite .whole)).commitNext tag step).nv.write = some w')
    (registered : ((s.setNv (s.nv.endWrite .whole)).commitNext tag step).unit.op = some op') :
    ((s.setNv (s.nv.endWrite .whole)).commitNext tag step).OpWrites w' op' := by
  have writes : s.CommitWrites w step := h.writes w _ write op
  cases step with
  | closingMark =>
    cases Option.some.inj registered
    cases Option.some.inj write'
    exact ⟨rfl, rfl⟩
  | gridRecord =>
    cases Option.some.inj registered
    cases Option.some.inj write'
    refine ⟨rfl, ?_⟩
    show (s.nv.endWrite .whole).gridRecord = _
    simp [NvStore.endWrite, write, writes.1, writes.2, State.commitNext]
  | regionRecord =>
    cases Option.some.inj registered
    cases Option.some.inj write'
    refine ⟨rfl, rfl, ?_⟩
    show (s.nv.endWrite .whole).gridRecord = _
    simp [NvStore.endWrite, write, writes.1, writes.2, State.commitNext]
  | tuningRecord =>
    obtain ⟨place, data, grid⟩ := writes
    cases Option.some.inj registered
    cases Option.some.inj write'
    refine ⟨NvStore.beginWrite_writesMark (s.nv.endWrite .whole) rfl, ?_, ?_⟩
    · show (s.nv.endWrite .whole).gridRecord = _
      simp [NvStore.endWrite, write, place, grid, State.commitNext]
    · show (s.nv.endWrite .whole).tuningRecord = _
      simp [NvStore.endWrite, write, place, data, State.commitNext]
  | closedMark identity => exact absurd rfl (unfinished identity)

/-- The commit's next write begins over the store that the last one left, in the same phase (R168). -/
theorem State.commitNext_kept (u : State) (tag : Byte) (step : CommitStep) :
    (u.commitNext tag step).nv.newest = u.nv.newest ∧ (u.commitNext tag step).nv.gridRecord = u.nv.gridRecord ∧
      (u.commitNext tag step).nv.tuningRecord = u.nv.tuningRecord := by
  cases step <;> exact ⟨rfl, rfl, rfl⟩

/-- COMMIT_WRITE_COMPLETE (R168 to R170). -/
theorem State.StoreLegal.takeCommitWrite (h : s.StoreLegal) (ops : s.OpsAgree) (legal : s.GridLegal) (shaped : s.Shaped)
    (fits : s.nv.nextGeneration ≤ 4294967295) (outcome : WriteOutcome) : (s.takeCommitWrite outcome).StoreLegal := by
  unfold State.takeCommitWrite
  split
  · rename_i tag step w op write
    have stored := h.endWrite_stored ops legal shaped fits outcome
    have unmarked := h.commit_unmarked ops fits write op (outcome := outcome)
    dsimp only
    split
    · rename_i whole
      subst whole
      split
      · rename_i identity
        refine .idle (by simpa using stored) (fun open' => absurd ?_ open') ?_ <;>
          simp [State.replyClosed, State.completeCommit, State.setMode]
      · rename_i unfinished
        obtain ⟨newest, grid, tuning⟩ := (s.setNv (s.nv.endWrite .whole)).commitNext_kept tag step
        have off := unmarked (.inr unfinished)
        refine ⟨fun marked => ?_, fun _ _ marked => ?_, State.commitNext_writes h write op unfinished⟩
        · exact absurd ((NvStore.markedClosed_congr newest).mp marked) off
        · exact off ((NvStore.markedClosed_congr newest).mp marked)
    · rename_i torn
      refine .idle (by simpa using stored) (fun _ => by simpa using unmarked (.inl torn)) ?_
      simp [State.failCommit]
  · exact h

/-- REOPEN_WRITE_COMPLETE: a verified copy marks the store OPEN, a failed one leaves the unit CLOSED (R173). -/
theorem State.StoreLegal.takeReopenWrite (h : s.StoreLegal) (ops : s.OpsAgree) (legal : s.GridLegal) (shaped : s.Shaped)
    (fits : s.nv.nextGeneration ≤ 4294967295) (outcome : WriteOutcome) : (s.takeReopenWrite outcome).StoreLegal := by
  unfold State.takeReopenWrite
  split
  · rename_i tag w op write
    have stored := h.endWrite_stored ops legal shaped fits outcome
    have writes : s.nv.WritesMark .opened w := h.writes w _ write op
    have closed : s.unit.phase = .closed := by simpa [UnitPhase.suits, op] using ops.phase
    dsimp only
    split
    · rename_i whole
      subst whole
      refine .idle (by simpa using stored) (fun _ => ?_) ?_
      · simp [writes.whole write fits]
      · simp [State.completeReopen]
    · exact .idle (by simpa using stored) (fun open' => absurd closed (by simpa using open')) (by simp)
  · exact h

/-! ### Completions of the key table's writes -/

/-- The end of a write into the key area leaves the rest of the store (R133). -/
theorem NvStore.endWrite_keyAreaOnly {nv : NvStore} {w : NvWrite} (write : nv.write = some w) (place : ∃ offset, w.place = .keyArea offset)
    (outcome : WriteOutcome) : nv.KeyAreaOnly (nv.endWrite outcome) := by
  obtain ⟨offset, place⟩ := place
  refine ⟨NvStore.endWrite_newest write (by simp [place]) (by simp [place]) outcome, ?_, ?_, by simp⟩ <;>
    simp [NvStore.endWrite, write, place]

/-- A verified step begins the next write into the key area, or ends the operation (R137). -/
theorem State.fixVerified_keyAreaOnly {nv : NvStore} (same : nv.KeyAreaOnly s.nv) (tag : Byte) (count n : Nat) (e : KeyEntry)
    (step : FixStep) (start : Nat) : nv.KeyAreaOnly (s.fixVerified tag count n e step start).nv := by
  have begun : ∀ u : State, u.nv = s.nv → ∀ next, nv.KeyAreaOnly (u.beginFixStep tag count n e next start).nv := fun u hu next => by
    rw [← hu] at same
    exact ⟨same.newest, same.grid, same.tuning, fun w hw => ⟨_, (congrArg NvWrite.place (Option.some.inj hw)).symm⟩⟩
  cases step with
  | spaceWord => exact begun _ rfl _
  | header => exact begun _ rfl _
  | body => exact begun _ rfl _
  | mark =>
    exact State.nextFixKey_keyAreaOnly (s := s.setKeys (s.keys.put n (some (e.asFixed start)))) same tag (count + 1)

/-- A verified step keeps the phase, and leaves the operation registered or none (R137). -/
theorem State.fixVerified_unit (s : State) (tag : Byte) (count n : Nat) (e : KeyEntry) (step : FixStep) (start : Nat) :
    (s.fixVerified tag count n e step start).unit.phase = s.unit.phase ∧
      ((s.fixVerified tag count n e step start).unit.op = s.unit.op ∨ (s.fixVerified tag count n e step start).unit.op = none) := by
  cases step with
  | spaceWord => exact ⟨rfl, .inl rfl⟩
  | header => exact ⟨rfl, .inl rfl⟩
  | body => exact ⟨rfl, .inl rfl⟩
  | mark => exact State.nextFixKey_unit _ tag (count + 1)

theorem State.StoreLegal.takeFixWrite (h : s.StoreLegal) (ops : s.OpsAgree) (outcome : WriteOutcome) :
    (s.takeFixWrite outcome).StoreLegal := by
  unfold State.takeFixWrite
  split
  · rename_i tag count n step start w progress write
    have op : s.unit.op = some .keyFix := ops.of_keys progress
    have same := NvStore.endWrite_keyAreaOnly write (h.writes w _ write op) outcome
    split
    · rename_i e _
      dsimp only
      split
      · obtain ⟨phase, op'⟩ := (s.setNv (s.nv.endWrite outcome)).fixVerified_unit tag count n e step start
        refine h.keyArea (State.fixVerified_keyAreaOnly same ..) (by simp) phase (fun o ho => .inl ?_)
        rcases op' with op' | op' <;> rw [op'] at ho
        · exact (Option.some.inj (op.symm.trans ho)).symm
        · nomatch ho
      · exact h.keyArea (by simpa using same) (by simp) (by simp [State.failFix]) (by simp [State.failFix])
    · exact h
  · exact h

theorem State.StoreLegal.takeWithdrawWrite (h : s.StoreLegal) (ops : s.OpsAgree) (outcome : WriteOutcome) :
    (s.takeWithdrawWrite outcome).StoreLegal := by
  unfold State.takeWithdrawWrite
  split
  · rename_i tag n w progress write
    have op : s.unit.op = some .keyWithdraw := ops.of_keys progress
    have same := NvStore.endWrite_keyAreaOnly write (h.writes w _ write op) outcome
    split
    · exact h.keyArea (by simpa using same) (by simp) (by simp) (by simp)
    · exact h
  · exact h

/-! ### Rows and markers -/

/-- One count touches grid memory and the trim output alone. -/
theorem State.takeCount_frame (s : State) (r : RowInProcess) :
    (s.takeCount r).1.nv = s.nv ∧ (s.takeCount r).1.power = s.power ∧ (s.takeCount r).1.unit = s.unit := by
  unfold State.takeCount State.takeWhiteCount State.takeColourCount
  dsimp only
  split <;> simp

/-- A count touches neither the store nor the unit controller; outside OPEN no row is in process (R55). -/
theorem State.stepRow_storeSame (s : State) (idle : s.unit.phase ≠ .opened → s.intake.inProcess = none) : s.StoreSame s.stepRow := by
  unfold State.stepRow
  split
  · exact ⟨rfl, rfl, rfl, rfl, fun _ => rfl⟩
  · rename_i r row
    obtain ⟨nv, power, unit⟩ := s.takeCount_frame r
    have grid : s.unit.phase = .closing → False := fun closing => by simp [idle (by simp [closing])] at row
    dsimp only
    split
    · exact ⟨by simp [nv], by simp [power], by simp [unit], by simp [unit], fun closing => (grid closing).elim⟩
    · exact ⟨by simp [nv], by simp [power], by simp [unit], by simp [unit], fun closing => (grid closing).elim⟩

/-- Outside OPEN a settling tells grid memory nothing (R113). -/
theorem State.settleCurrent_grid_unopened (phase : s.unit.phase ≠ .opened) : s.settleCurrent.grid = s.grid := by
  simp [State.settleCurrent, State.recomputeCurrent, phase]

/-- Outside OPEN a marker read leaves grid memory as it is (R113, R123). -/
theorem State.takeMarkerRead_grid_unopened (phase : s.unit.phase ≠ .opened) (pixels : List Pixel) :
    (s.takeMarkerRead pixels).grid = s.grid := by
  have sensed : ∀ (u : State) (m : Marker), u.unit.phase ≠ .opened → (u.senseCode m).grid = u.grid := fun u m hu => by
    unfold State.senseCode State.settleRegion
    rw [(State.recomputeConflict_frame _).2.1, State.settleCurrent_grid_unopened (by simpa using hu)]
    simp
  have region : ∀ (u : State) (m : Marker), u.unit.phase ≠ .opened → (u.markerRegion m).grid = u.grid := fun u m hu => by
    unfold State.markerRegion
    simp only [State.setRegion_grid]
    split
    · exact sensed u m hu
    · rfl
  have accepted : ∀ (u : State) (m : Marker), u.unit.phase ≠ .opened → (u.markerAccepted m).grid = u.grid := fun u m hu => by
    rw [State.markerAccepted, (State.markerIdentity_frame _ m).2.1, region _ _ (by simpa using hu)]
    simp
  obtain e | ⟨m, e⟩ | e := s.takeMarkerRead_cases pixels <;> rw [e]
  · rw [accepted _ m (by simpa using phase)]
    rfl
  · simp

/-! ### Every command -/

/-- The law through the events of the blocks behind the ports. -/
theorem State.StoreLegal.event (h : s.StoreLegal) (ops : s.OpsAgree) (legal : s.GridLegal) (shaped : s.Shaped)
    (idle : s.unit.phase ≠ .opened → s.intake.inProcess = none) (fits : s.nv.nextGeneration ≤ 4294967295) (running : s.power = .running)
    {c : Instr} (event : s.Event c t) : t.StoreLegal := by
  cases event with
  | frameStart => exact h.congr ops ⟨by simp, by simp, by simp, by simp, by simp⟩
  | gapExpiry => exact h.congr ops ⟨by simp, by simp, by simp, by simp, by simp⟩
  | tick => exact h.congr ops ⟨by simp, by simp, by simp, by simp, by simp⟩
  | trimSent => exact h.congr ops ⟨by simp, by simp, by simp, by simp, by simp⟩
  | progress => exact h.congr ops ⟨by simp, by simp, by simp, by simp, by simp⟩
  | marker line =>
    refine h.congr ops ⟨by simp, by simp, by simp, by simp, fun closing => ?_⟩
    simpa using State.takeMarkerRead_grid_unopened (by simp [closing]) line.pixels
  | count => exact h.congr ops (s.stepRow_storeSame idle)
  | openWrite outcome => exact h.takeOpenWrite ops legal shaped fits running outcome
  | commitWrite outcome => exact h.takeCommitWrite ops legal shaped fits outcome
  | reopenWrite outcome => exact h.takeReopenWrite ops legal shaped fits outcome
  | fixWrite outcome => exact h.takeFixWrite ops outcome
  | withdrawWrite outcome => exact h.takeWithdrawWrite ops outcome

/-- The arbiters touch nothing that the law speaks of. -/
theorem State.StoreLegal.arbitrate (h : s.StoreLegal) : s.arbitrate.StoreLegal := by
  refine ⟨by simpa using h.stored, by simpa using h.unclosed, fun w op hw ho => ?_⟩
  have writes := h.writes w op (by simpa using hw) (by simpa using ho)
  cases op with
  | commit tag step => cases step <;> simpa [State.OpWrites, State.CommitWrites] using writes
  | openWrite => simpa [State.OpWrites] using writes
  | reopenWrite => simpa [State.OpWrites] using writes
  | keyFix => exact writes
  | keyWithdraw => exact writes

/-- A held reset stands over whatever the write in flight left (R162). -/
theorem State.volatileReset_storeLegal (cause : ResetCause) {nv : NvStore} (stored : nv.MarkedClosed → nv.GridStored)
    (pending : List Instr) (choices : Nat) : (State.volatileReset cause nv pending choices).StoreLegal :=
  ⟨stored, nofun, nofun⟩

/-- What start-up loading fills the unit controller with: no operation, and phase CLOSED under mark CLOSED alone (R161). -/
theorem State.loadMark_unit (s : State) (cause : ResetCause) (op : s.unit.op = none) :
    (s.loadMark cause).nv = s.nv ∧ (s.loadMark cause).unit.op = none ∧
      (s.nv.MarkedClosed → (s.loadMark cause).unit.phase = .closed) := by
  unfold State.loadMark NvStore.MarkedClosed
  split
  · rename_i none
    exact ⟨rfl, op, by simp [none]⟩
  · rename_i copy r newest
    split <;> rename_i mark
    · exact ⟨rfl, rfl, by simp [newest, mark]⟩
    · exact ⟨rfl, rfl, by simp [newest, mark]⟩
    · exact ⟨rfl, rfl, fun _ => rfl⟩

theorem State.StoreLegal.startedUp (h : s.StoreLegal) (cause : ResetCause) : (s.startedUp cause).StoreLegal := by
  obtain ⟨nv, op, phase⟩ :=
    ((State.volatileReset cause s.nv s.pending s.choices).setKeys (.rebuilt s.nv.keyArea)).loadMark_unit cause rfl
  have kept : (s.startedUp cause).nv = s.nv := nv
  exact .idle (by rw [kept]; exact h.stored) (fun open' => by rw [kept]; exact fun marked => open' (phase marked)) op

/-- The law through every command (R20, R168, R172). -/
theorem exec_keeps_storeLegal {c : Instr} (run : exec c s = .next t) (fits : s.nv.nextGeneration ≤ 4294967295) (ops : s.OpsAgree)
    (idle : s.unit.phase ≠ .opened → s.intake.inProcess = none) (legal : s.GridLegal) (shaped : s.Shaped) (h : s.StoreLegal) :
    t.StoreLegal := by
  cases exec_cases run with
  | nothing => exact h
  | reset source cut command => exact State.volatileReset_storeLegal _ (h.endWrite_stored ops legal shaped fits cut) ..
  | startup cause held command => exact h.startedUp cause
  | requestedReset p running due command =>
    have stored : NvStore.MarkedClosed { s.nv with write := none } → NvStore.GridStored { s.nv with write := none } :=
      fun marked => (h.stored marked).congr rfl rfl
    exact State.StoreLegal.arbitrate (State.volatileReset_storeLegal _ stored ..)
  | ports u running only =>
    exact State.StoreLegal.arbitrate (h.congr ops ⟨only.blocks.nv, only.blocks.power, by rw [only.blocks.unit], by rw [only.blocks.unit],
      fun _ => only.blocks.grid⟩)
  | request u p tag r running taken =>
    have blocks := taken.same.blocks
    have arrived : u.StoreLegal :=
      h.congr ops ⟨blocks.nv, blocks.power, by rw [blocks.unit], by rw [blocks.unit], fun _ => blocks.grid⟩
    obtain ⟨keys, phase, write, reset, held⟩ := ops
    have agree : u.OpsAgree := by
      constructor <;> simpa only [blocks.keys, blocks.unit, blocks.nv, blocks.power]
    exact (arrived.takeRequest agree (by rw [blocks.power]; exact running) p tag r).arbitrate
  | event u running event => exact (h.event ops legal shaped idle fits running event).arbitrate

end

end Sys2Proof.Machine

/-! CERTIFICATE. The law of R7 (O54). -/

namespace Sys2Proof
open Sys2Proof.Machine

/-- Settles O54: the law of R7 goes through the cases of `exec`, and the store's law through those and the writes of a commit. -/
theorem gridStaysWithinItsLimits : Obligations.GridStaysWithinItsLimits := by
  refine ⟨fun c s t run stored legal => exec_keeps_gridLegal run stored legal, ?_⟩
  intro s t run fits ops rows legal shaped store
  obtain ⟨-, rfl⟩ | ⟨c, rest, -, run⟩ := step_cases run
  · exact store
  · have agree : (s.setPending rest).OpsAgree := ⟨ops.keys, ops.phase, ops.write, ops.reset, ops.held⟩
    have sizes : (s.setPending rest).Shaped :=
      ⟨shaped.colour, shaped.white, shaped.zones, shaped.levels, shaped.aims, shaped.sticky, shaped.held, shaped.slots, shaped.checks⟩
    exact exec_keeps_storeLegal run fits agree (fun phase => (rows.closed (.inl phase)).2) (legal.congr rfl rfl) sizes
      (store.congr ops ⟨rfl, rfl, rfl, rfl, fun _ => rfl⟩)

end Sys2Proof

/-! SUPPORT. The scan of the key area over its spaces (R135, R141), and what start-up loading leaves alone (R161). -/

namespace Sys2Proof.Machine
open Sys2Proof

/-- A space word gives a length only of a space that lies within the area (R135). -/
theorem readSpaceWord_length {offset size : Nat} {word : List Byte} (h : readSpaceWord offset word = .length size) :
    48 ≤ size ∧ offset + size ≤ areaSize := by
  unfold readSpaceWord at h
  split at h
  · dsimp only at h
    split at h
    · rename_i valid
      obtain ⟨-, -, low, -, inside⟩ := valid
      cases h
      exact ⟨low, inside⟩
    · split at h <;> cases h
  · cases h

/-- The scan passes the spaces of the area and goes on where they end, with their keys in front of what it finds there (R141). -/
theorem scanArea_spacesLaid (area : List Host.Cell) (spaces : List AreaSpace) (x fin fuel : Nat) (laid : SpacesLaid area x spaces fin) :
    scanArea area (fuel + spaces.length) x =
      { scanArea area fuel fin with found := spaces.filterMap (·.key) ++ (scanArea area fuel fin).found } := by
  induction spaces generalizing x with
  | nil =>
    rw [show x = fin from laid]
    rfl
  | cons space rest ih =>
    obtain ⟨word, key, laid⟩ := laid
    obtain ⟨size, inside⟩ := readSpaceWord_length word
    rw [List.length_cons, ← Nat.add_assoc, scanArea, if_neg (by omega), word]
    dsimp only
    rw [ih _ laid, key]
    cases e : space.key <;> simp [e]

/-- The spaces of the area are few enough for the scan: each takes at least 48 bytes of it (R133, R135). -/
theorem SpacesLaid.few {area : List Host.Cell} {spaces : List AreaSpace} {x fin : Nat} (laid : SpacesLaid area x spaces fin)
    (start : x ≤ areaSize) : x + 48 * spaces.length ≤ fin ∧ fin ≤ areaSize := by
  induction spaces generalizing x with
  | nil =>
    rw [← show x = fin from laid]
    exact ⟨Nat.le_refl x, start⟩
  | cons space rest ih =>
    obtain ⟨word, -, laid⟩ := laid
    obtain ⟨size, inside⟩ := readSpaceWord_length word
    have := ih laid inside
    rw [List.length_cons]
    omega

/-- The rebuilt table holds the keys of the spaces in their order; where they end, the scan's last reading gives the fill point (R141). -/
theorem KeyTable.rebuilt_of_spaces {area : List Host.Cell} {spaces : List AreaSpace} {fin : Nat} (laid : SpacesLaid area 0 spaces fin) :
    ∃ fuel, KeyTable.rebuilt area =
      { entries :=
          ((spaces.filterMap (·.key) ++ (scanArea area (fuel + 1) fin).found).take 24).map some ++
            List.replicate (24 - (spaces.filterMap (·.key) ++ (scanArea area (fuel + 1) fin).found).length) none
        fill := (scanArea area (fuel + 1) fin).fill
        areaClosed := (scanArea area (fuel + 1) fin).closed
        op := none } := by
  obtain ⟨few, inside⟩ := laid.few (Nat.zero_le _)
  simp only [areaSize] at inside
  refine ⟨341 - spaces.length, ?_⟩
  have scan := scanArea_spacesLaid area spaces 0 fin (341 - spaces.length + 1) laid
  rw [show 341 - spaces.length + 1 + spaces.length = 342 by omega] at scan
  unfold KeyTable.rebuilt
  rw [scan]

/-- What start-up loading fills by the newest copy's mark, and what it leaves (R161). -/
theorem State.loadMark_frame (s : State) (cause : ResetCause) :
    (s.loadMark cause).power = s.power ∧ (s.loadMark cause).keys = s.keys ∧ (s.loadMark cause).nv = s.nv ∧
      (s.loadMark cause).seq = s.seq ∧ (s.loadMark cause).intake = s.intake ∧ (s.loadMark cause).trim = s.trim ∧
      (s.loadMark cause).checks = s.checks ∧ (s.loadMark cause).station = s.station ∧ (s.loadMark cause).system = s.system := by
  unfold State.loadMark
  split
  · simp
  · split <;> simp

/-- What start-up loading fills the unit controller with, whatever the mark (R158, R161). -/
theorem State.loadMark_unit_fresh (s : State) (cause : ResetCause) (fresh : s.unit = .fresh cause) :
    (s.loadMark cause).unit.cause = cause ∧ (s.loadMark cause).unit.op = none ∧ (s.loadMark cause).unit.resetPending = false := by
  unfold State.loadMark
  split
  · simp [fresh, UnitCtl.fresh]
  · split <;> simp [UnitCtl.loaded, UnitCtl.fresh]

/-- The state that start-up loading fills: every volatile block after its reset, with the key table rebuilt (R141, R161). -/
def State.loading (s : State) (cause : ResetCause) : State :=
  (State.volatileReset cause s.nv s.pending s.choices).setKeys (.rebuilt s.nv.keyArea)

/-- Start-up loading is the filling by the newest copy's mark, after which the generator starts and the part runs (R161). -/
theorem State.startedUp_eq (s : State) (cause : ResetCause) :
    s.startedUp cause =
      (((s.loading cause).loadMark cause).setTiming
        { ((s.loading cause).loadMark cause).timing with generator := some ((s.loading cause).loadMark cause).timing.rate }).setPower
          .running := rfl

/-- STARTUP_LOADING ends the reset that is held. -/
theorem exec_startupLoading {s : State} {cause : ResetCause} (held : s.power = .held cause) :
    exec .startupLoading s = .next (s.startedUp cause) := by
  simp [exec, execStartupLoading, State.takeStartup, held]

/-- A loaded node has the gain it was loaded with, PINNED or not (R20). -/
theorem loadedNode_value (t : Tuning) (gain : Nat) : (loadedNode t gain).cell.value = gain := by
  unfold loadedNode
  split <;> rfl

/-- A value is brought to the nearer limit from outside, and moves then (R7). -/
theorem clampNat_outside {lo hi x : Nat} (outside : x < lo ∨ hi < x) :
    clampNat lo hi x = (if x < lo then lo else hi) ∧ clampNat lo hi x ≠ x := by
  unfold clampNat
  (repeat' split) <;> omega

end Sys2Proof.Machine

/-! CERTIFICATE. Resets and start-up (O11, O12). -/

namespace Sys2Proof
open Sys2Proof.Machine

/-- Settles O11: a reset is the fresh state by definition, and the scan passes the spaces of the area one by one. -/
theorem resetLosesVolatileState : Obligations.ResetLosesVolatileState := by
  refine ⟨fun s source cut => ?_, fun area spaces fin laid => ?_⟩
  · refine ⟨s.takeReset (causeOf source) cut, rfl, rfl, rfl, rfl, rfl, ?_, rfl, rfl, rfl, rfl, rfl, rfl, rfl, rfl, rfl, rfl, ?_, ?_⟩
    · intro idle
      show s.nv.endWrite cut = s.nv
      simp [NvStore.endWrite, idle]
    · rintro (_ | _) <;> rfl
    · refine ⟨_, exec_startupLoading (cause := causeOf source) rfl, rfl, ?_⟩
      obtain ⟨-, keys, -⟩ := ((s.takeReset (causeOf source) cut).loading (causeOf source)).loadMark_frame (causeOf source)
      rw [State.startedUp_eq]
      exact keys
  · obtain ⟨fuel, rebuilt⟩ := KeyTable.rebuilt_of_spaces laid
    rw [rebuilt]
    refine ⟨fun fin_eq => ?_, fun inside word => ?_, fun inside word => ?_⟩
    · simp [scanArea, fin_eq, areaSize]
    · simp [scanArea, word, show ¬ areaSize ≤ fin by simp only [areaSize]; omega]
    · simp [scanArea, word, show ¬ areaSize ≤ fin by simp only [areaSize]; omega]

/-- Settles O12: start-up loading by the three kinds of mark, and each record's decoder after its encoder. -/
theorem startupFollowsTheStoredMark : Obligations.StartupFollowsTheStoredMark := by
  refine ⟨fun s cause held => ?_, fun t gain => ⟨fun inside => ?_, fun outside _ => ?_⟩,
    fun r => UnitRecord.ofBytes_bytes_of_storable, fun g => GridImage.ofBytes_bytes, fun t => Tuning.ofBytes_bytes,
    fun p => Profile.ofBytes_bytes⟩
  · obtain ⟨-, keys, nv, seq, intake, trim, checks, station, system⟩ := (s.loading cause).loadMark_frame cause
    obtain ⟨unitCause, op, reset⟩ := (s.loading cause).loadMark_unit_fresh cause rfl
    refine ⟨s.startedUp cause, exec_startupLoading held, rfl, unitCause, op, reset, nv, keys, rfl, seq, intake, trim, checks, station,
      system, ?_, ?_, ?_⟩
    · intro newest
      have filled : (s.loading cause).loadMark cause = s.loading cause := by
        unfold State.loadMark
        rw [show (s.loading cause).nv.newest = none from newest]
      rw [State.startedUp_eq, filled]
      exact ⟨rfl, rfl, rfl, rfl, rfl, rfl, rfl, rfl⟩
    · intro copy r newest mark
      have filled : (s.loading cause).loadMark cause = (s.loading cause).setUnit (.loaded cause .parked r) := by
        unfold State.loadMark
        rw [show (s.loading cause).nv.newest = some (copy, r) from newest]
        cases e : r.mark <;> simp_all
      rw [State.startedUp_eq, filled]
      exact ⟨rfl, rfl, rfl, rfl, rfl, rfl, rfl, rfl, rfl⟩
    · intro copy r p newest mark profile
      have filled : (s.loading cause).loadMark cause =
          (((((s.loading cause).setUnit (.loaded cause .closed r)).setRegion (.loaded (some p))).setGrid
            (.loaded s.nv.loadedTuning s.nv.loadedImage (some p.ceiling))).setApplier
              { Applier.fresh with mode := .committed, committed := s.nv.loadedImage }).setTiming { Timing.fresh with rate := p.mains } := by
        unfold State.loadMark
        rw [show (s.loading cause).nv.newest = some (copy, r) from newest]
        dsimp only
        rw [mark]
        dsimp only
        rw [show (s.loading cause).nv.loadedProfile = some p from profile]
        rfl
      rw [State.startedUp_eq, filled]
      refine ⟨rfl, rfl, rfl, rfl, rfl, rfl, ?_, ?_, rfl, rfl, rfl, rfl, rfl, rfl, rfl, rfl, rfl, rfl, rfl, rfl, rfl, rfl, rfl, rfl, rfl,
        rfl, rfl, rfl⟩
      · simp [Grid.loaded, trimsOf, Function.comp_def, Cell.fresh]
      · simp [Grid.loaded, Grid.gains, Function.comp_def, loadedNode_value]
  · rw [loadedNode, if_pos (clampNat_of_within inside.1 inside.2)]
    rfl
  · rw [loadedNode, if_neg (clampNat_outside outside).2]
    rfl

end Sys2Proof

/-! SUPPORT. The fields of replies as R186 and R188 spell them. -/

namespace Sys2Proof.Machine
open Sys2Proof

/-- A request that the station port takes in every phase reaches its owner (R171, R179). -/
theorem State.request_station {s : State} {tag : Byte} {r : Request} (wf : r.wellFormed = true) (suits : r.lengthSuits = true)
    (h : s.Admits .station tag) (onStation : r.kind ≠ 0x03) (whileClosed : r.kind ∈ closedKinds) :
    s.request .station tag r = .next (s.takeRequest .station tag r).arbitrate :=
  State.request_taken wf suits h nofun (fun _ => onStation) (fun _ _ => whileClosed)

/-- A padded field is the text with the fill behind it, cut to the field's length (R186). -/
theorem padTo_eq_take (n : Nat) (fill : Byte) (bytes : List Byte) : padTo n fill bytes = (bytes ++ List.replicate n fill).take n := by
  rw [List.take_append, List.take_replicate, padTo, Nat.min_eq_left (Nat.sub_le ..)]

/-- CURRENT's code as replies carry it: 0 when unset (R186). -/
theorem Region.currentCode_eq (r : Region) : r.currentCode = (r.current.map (·.code)).getD 0 := by
  unfold Region.currentCode
  cases r.current <;> rfl

/-- The entries in a state are counted among those that are not EMPTY (R128). -/
theorem KeyTable.countState_eq (t : KeyTable) (state : KeyState) :
    t.countState state = (t.entries.filterMap id).countP (fun e => decide (e.state = state)) := by
  rw [KeyTable.countState, List.countP_filterMap]
  refine List.countP_congr (fun e _ => ?_)
  cases e <;> simp

/-- The fields of a READ_REGION reply, an empty slot's code as 0 (R188). -/
theorem Region.readFields_eq (r : Region) :
    r.readFields =
      [bitByte [r.current.isSome, r.identity.isSome]] ++ u16 r.given ++ u16 r.currentCode ++
        optionalField 1 (fun c => u8 (ProfilePlace.code c.place)) r.current ++
        optionalField 11 (fun c => Profile.bytes c.profile) r.current ++ u16 r.sensedShown ++ flag r.sensedValid ++
        flag r.markerPresent ++ flag r.conflict ++ identityBytes r.identity ++
        (List.range 8).flatMap (fun i => u16 (((r.slots.getD i none).map (·.code)).getD 0)) := by
  unfold Region.readFields
  congr 2
  funext i
  cases r.slots.getD i none <;> rfl

end Sys2Proof.Machine

/-! CERTIFICATE. Requests that only read (O13). -/

namespace Sys2Proof
open Sys2Proof.Machine

/-- Settles O13: each request reaches its owner, which replies the fields that R188 lists. -/
theorem readingRequestsReplyTheStateAsItStands : Obligations.ReadingRequestsReplyTheStateAsItStands := by
  refine ⟨fun s p tag h => ?_, fun s tag slice count first firstZone h => ?_, fun s tag h => ⟨?_, ?_⟩⟩
  · intro identity currentCode sensed serial operation entries place
    have identityEq : ∀ i, identityBytes i = identity i := by rintro (_ | _) <;> rfl
    have currentCodeEq : u16 s.region.currentCode = currentCode := by rw [Region.currentCode_eq]
    have sensedEq : sensed = u16 s.region.sensedShown ++ flag s.region.sensedValid := rfl
    have serialEq : serialField s.unit.serial = serial := by
      simp only [serial]
      cases s.unit.serial with
      | none => rfl
      | some text => rw [serialField, padTo_eq_take]
    have operationEq : u8 (opCode s.unit.op) = [operation] := by
      simp only [operation]
      rcases s.unit.op with _ | (_ | _ | _ | _ | _) <;> rfl
    have entriesEq : ∀ state, u8 (s.keys.countState state) = entries state := fun state => by rw [KeyTable.countState_eq]
    have placeEq : ∀ c : CurrentRegion, u8 c.place.code = [place c.place] := fun c => by
      simp only [place]
      cases c.place <;> rfl
    clear_value identity currentCode sensed serial operation entries place
    refine ⟨?_, ?_⟩
    · refine (State.request_taken (r := .status) rfl rfl h (fun _ => by decide) (fun _ => by decide) (fun _ _ => by decide)).trans ?_
      show Host.Outcome.next (s.takeStatus p tag).arbitrate = _
      unfold State.takeStatus State.statusFields
      rw [identityEq, identityEq, currentCodeEq, serialEq, operationEq, entriesEq, entriesEq, entriesEq, entriesEq, entriesEq, sensedEq,
        KeyTable.countEmpty, show flag false = [0] from rfl]
      simp only [List.append_assoc]
    · refine (State.request_taken (r := .readRegion) rfl rfl h (fun _ => by decide) (fun _ => by decide) (fun _ _ => by decide)).trans ?_
      cases current : s.region.current <;>
        simp only [State.takeRequest, State.takeReadRegion, Region.readFields_eq, identityEq, currentCodeEq, sensedEq, current,
          optionalField, placeEq, Profile.bytes, padTo_eq_take, List.append_assoc] <;>
        rfl
  · have nodes : exec (.readNodes .station tag slice first count) s = .next (s.takeReadNodes tag slice first count).arbitrate :=
      State.request_station (r := .readNodes slice first count) rfl rfl h (by simp [Request.kind]) (by simp [Request.kind, closedKinds])
    have zones : exec (.readZones .station tag firstZone count) s = .next (s.takeReadZones tag firstZone count).arbitrate :=
      State.request_station (r := .readZones firstZone count) rfl rfl h (by simp [Request.kind]) (by simp [Request.kind, closedKinds])
    rw [nodes, zones, State.takeReadNodes, State.takeReadZones]
    refine ⟨fun low some most inside => ?_, fun outside => ?_, fun some most inside => ?_, fun outside => ?_⟩
    · rw [if_neg (by omega)]
    · rw [if_pos (by omega)]
      rfl
    · rw [if_neg (by omega)]
    · rw [if_pos (by omega)]
      rfl
  · exact State.request_station (r := .keyList) rfl rfl h (by decide) (by decide)
  · exact State.request_station (r := .evaluate) rfl rfl h (by decide) (by decide)

end Sys2Proof

/-! SUPPORT. Limits and clamping (R6, R7), the re-clamp, and one update of the loop (R32 to R38), as the statements spell them. -/

namespace Sys2Proof.Machine
open Sys2Proof

/-! ### Limits -/

/-- Bringing a value into limits is taking the nearer of them. -/
theorem clampNat_eq {lo hi : Nat} (x : Nat) (h : lo ≤ hi) : clampNat lo hi x = max lo (min hi x) := by
  unfold clampNat
  (repeat' split) <;> omega

/-- A value moves into limits exactly when it lies outside them. -/
theorem clampNat_ne_iff {lo hi : Nat} (x : Nat) : clampNat lo hi x ≠ x ↔ x < lo ∨ hi < x := by
  unfold clampNat
  (repeat' split) <;> omega

/-- Integers are brought into limits as naturals are. -/
theorem clampInt_cases {lo hi : Int} (x : Int) (h : lo ≤ hi) :
    (x < lo → clampInt lo hi x = lo) ∧ (hi < x → clampInt lo hi x = hi) ∧ (lo ≤ x → x ≤ hi → clampInt lo hi x = x) := by
  unfold clampInt
  refine ⟨fun _ => ?_, fun _ => ?_, fun _ _ => ?_⟩ <;> (repeat' split) <;> omega

/-- Every field of a tuning record brought into its range (R5, R6). -/
theorem Tuning.clamped_eq (t : Tuning) :
    t.clamped =
      { k := max 1 (min 64 t.k), kz := max 1 (min 64 t.kz), kr := min 63 t.kr, fineBand := max 1 (min 2048 t.fineBand),
        lockWindow := max 1 (min (max 1 (min 2048 t.fineBand)) t.lockWindow), lockCount := max 1 (min 8 t.lockCount),
        lockShift := min 3 t.lockShift, iterationLimit := max 1 (min 63 t.iterationLimit), progressIndex := min 15 t.progressIndex,
        gmin := max 1024 (min 2048 t.gmin), gmax := max 2048 (min 4095 t.gmax), zmin := max 64 (min 128 t.zmin),
        zmax := max 128 (min 255 t.zmax) } := by
  simp [Tuning.clamped, clampNat_eq]

/-! ### The re-clamp (R7) -/

/-- A cell lies outside limits when its value is below or above them. -/
theorem Cell.outside_eq {lo hi : Nat} (c : Cell) : c.outside lo hi = decide (c.value < lo ∨ hi < c.value) :=
  decide_eq_decide.mpr (clampNat_ne_iff c.value)

/-- A node moves in the re-clamp when it is not PINNED and lies outside the limits (R7). -/
theorem NodeRec.moves_eq {t : Tuning} (n : NodeRec) :
    n.moves t = decide (n.cell.state ≠ .pinned ∧ (n.cell.value < t.gmin ∨ t.gmax < n.cell.value)) := by
  rw [NodeRec.moves, Cell.outside_eq, Bool.decide_and]

/-- A cell within limits stays as it is (R7, R12). -/
theorem Cell.limited_inside {lo hi : Nat} (showNow : Nat) {c : Cell} (low : lo ≤ c.value) (high : c.value ≤ hi) :
    c.limited lo hi showNow = c := by
  unfold Cell.limited
  rw [clampNat_of_within low high]
  simp

/-- A cell outside limits takes the nearer one, is saturated and stamped (R7, R12). -/
theorem Cell.limited_outside {lo hi : Nat} (showNow : Nat) {c : Cell} (outside : c.value < lo ∨ hi < c.value) :
    c.limited lo hi showNow = { c with value := if c.value < lo then lo else hi, saturated := true, appliedAt := showNow } := by
  obtain ⟨value, moved⟩ := clampNat_outside outside
  unfold Cell.limited
  simp only [moved, if_false]
  rw [value]

/-- A slice's sticky flag after the re-clamp: set as before, or by a node that moves (R7, R15). -/
theorem Grid.reclampedSticky_colour (g : Grid) (t : Tuning) (colour : g.colour.length = 15) (sticky : g.sticky.length = 16) {i : Nat}
    (h : i < 15) : (g.reclampedSticky t).getD i false = (g.stickyFlag i || (g.slice i).any (NodeRec.moves t)) := by
  unfold Grid.reclampedSticky Grid.stickyFlag Grid.slice
  rw [List.getD_eq_getElem _ _ (by simp; omega), List.getElem_zipWith, List.getElem_append_left (by simp; omega), List.getElem_map,
    List.getD_eq_getElem _ _ (by omega), List.getD_eq_getElem _ _ (by omega)]

/-- Slice 15's sticky flag after the re-clamp: set as before, or by a zone that moves (R7, R15). -/
theorem Grid.reclampedSticky_zones (g : Grid) (t : Tuning) (colour : g.colour.length = 15) (sticky : g.sticky.length = 16) :
    (g.reclampedSticky t).getD 15 false = (g.stickyFlag 15 || g.zones.any (fun z => z.cell.outside t.zmin t.zmax)) := by
  unfold Grid.reclampedSticky Grid.stickyFlag
  rw [List.getD_eq_getElem _ _ (by simp; omega), List.getElem_zipWith, List.getElem_append_right (by simp; omega),
    List.getD_eq_getElem _ _ (by omega)]
  simp

/-! ### One update of the loop (R32 to R38) -/

section
variable (p : LoopParams) (showNow : Nat) (e : Int) (c : Cell)

/-- An update ends LOCKED exactly when R32 has it locked. -/
theorem loopUpdate_locked_iff : (loopUpdate p showNow e c).state = .locked ↔ lockedAfter p c e = true := by
  unfold loopUpdate
  dsimp only
  (repeat' split) <;> simp_all

/-- An update that is not LOCKED is STALLED at the iteration limit, else SEEKING (R38). -/
theorem loopUpdate_unlocked (h : lockedAfter p c e = false) :
    (loopUpdate p showNow e c).iterations = (if unlocks p c.state e = true then 0 else c.iterations) + 1 ∧
      (loopUpdate p showNow e c).state =
        (if p.iterationLimit ≤ (loopUpdate p showNow e c).iterations then .stalled else .seeking) := by
  simp [loopUpdate, iterationsAfter, h]

/-- An update that is LOCKED counts no iteration (R38). -/
theorem loopUpdate_locked (h : lockedAfter p c e = true) (kept : unlocks p c.state e = false) :
    (loopUpdate p showNow e c).iterations = c.iterations := by
  simp [loopUpdate, iterationsAfter, h, kept]

/-- A SEEKING cell is not unlocked, and locks when its streak reaches C (R32). -/
theorem seeking_locks (h : c.state = .seeking) :
    unlocks p c.state e = false ∧ lockedAfter p c e = decide (streakAfter p c.streak e = p.lockCount) := by
  simp [unlocks, lockedAfter, h]

/-- A LOCKED cell stays so unless the error is beyond twice the lock window (R32). -/
theorem locked_locks (h : c.state = .locked) :
    unlocks p c.state e = decide (2 * p.lockWindow < e.natAbs) ∧ lockedAfter p c e = !decide (2 * p.lockWindow < e.natAbs) := by
  simp [unlocks, lockedAfter, h]

/-- The streak an update leaves: one more up to C within the lock window, else none (R32). -/
theorem loopUpdate_streak :
    (e.natAbs ≤ p.lockWindow → (loopUpdate p showNow e c).streak = min (c.streak + 1) p.lockCount) ∧
      (p.lockWindow < e.natAbs → (loopUpdate p showNow e c).streak = 0) := by
  refine ⟨fun near => ?_, fun far => ?_⟩
  · have kept : unlocks p c.state e = false := by
      simp only [unlocks, Bool.and_eq_false_iff, decide_eq_false_iff_not]
      omega
    simp [loopUpdate, kept, streakAfter, near]
  · simp [loopUpdate, streakAfter, Nat.not_le.mpr far]

/-- The value and the saturated flag an update leaves, by the target's place among the limits (R36). -/
theorem loopUpdate_value (h : p.low ≤ p.high) :
    (loopTarget p c e < p.low → (loopUpdate p showNow e c).value = p.low ∧ (loopUpdate p showNow e c).saturated = true) ∧
      ((p.high : Int) < loopTarget p c e → (loopUpdate p showNow e c).value = p.high ∧ (loopUpdate p showNow e c).saturated = true) ∧
      ((p.low : Int) ≤ loopTarget p c e → loopTarget p c e ≤ p.high →
        ((loopUpdate p showNow e c).value : Int) = loopTarget p c e ∧ (loopUpdate p showNow e c).saturated = false) := by
  obtain ⟨below, above, within⟩ := clampInt_cases (lo := p.low) (hi := p.high) (loopTarget p c e) (by omega)
  have value : (loopUpdate p showNow e c).value = (clampInt p.low p.high (loopTarget p c e)).toNat := rfl
  have saturated : (loopUpdate p showNow e c).saturated =
      (decide (loopTarget p c e < p.low) || decide ((p.high : Int) < loopTarget p c e)) := rfl
  rw [value, saturated]
  refine ⟨fun h => ?_, fun h => ?_, fun h h' => ?_⟩
  · simp [below h, h]
  · simp [above h, h]
  · rw [within h h']
    simp
    omega

end

end Sys2Proof.Machine

/-! CERTIFICATE. SET_TUNING (O15). -/

namespace Sys2Proof
open Sys2Proof.Machine

/-- Settles O15: the clamped record is the one the request installs, the re-clamp moves what lies outside, and the update goes by cases. -/
theorem setTuningInstallsAndReclamps : Obligations.SetTuningInstallsAndReclamps := by
  refine ⟨fun s tag f h => ?_, fun s t _ _ shaped => ?_, fun p showNow e c limits live => ?_⟩
  · intro t
    have clamped : t = (tuningGiven f).clamped := (Tuning.clamped_eq (tuningGiven f)).symm
    clear_value t
    subst clamped
    have legal := (tuningGiven f).clamped_legal
    have taken : exec (.setTuning .station tag f) s = .next (s.takeSetTuning tag f).arbitrate :=
      State.request_open (r := .setTuning f) rfl rfl h (by simp [Request.kind])
    refine ⟨legal, fun queue row => ?_, fun busy => ?_⟩
    · rw [taken, State.takeSetTuning, if_neg (by simp [h.opened]), if_neg (by simp [queue, row])]
      simp only [tuningClampedFlag, Grid.gainsMoved, Grid.trimsMoved, funext (NodeRec.moves_eq (t := _)),
        Cell.outside_eq]
    · rw [taken, State.takeSetTuning, if_neg (by simp [h.opened]), if_pos busy]
      rfl
  · refine ⟨rfl, fun i hi => ?_, ?_, fun n => ⟨fun stays => ?_, fun free outside => ?_⟩, fun z => ⟨fun inside => ?_, fun outside => ?_⟩⟩
    · simp only [Grid.stickyFlag, State.retune_grid]
      rw [Grid.reclampedSticky_colour s.grid t shaped.colour.1 shaped.sticky hi]
      simp only [funext (NodeRec.moves_eq (t := _))]
      rfl
    · simp only [Grid.stickyFlag, State.retune_grid]
      rw [Grid.reclampedSticky_zones s.grid t shaped.colour.1 shaped.sticky]
      simp only [Cell.outside_eq]
      rfl
    · unfold NodeRec.reclamped
      split
      · rfl
      · rename_i free
        obtain ⟨low, high⟩ := stays.resolve_left free
        rw [Cell.limited_inside _ low high]
        rfl
    · rw [NodeRec.reclamped, if_neg free, Cell.limited_outside _ outside]
      rfl
    · rw [ZoneRec.reclamped, Cell.limited_inside _ inside.1 inside.2]
      rfl
    · rw [ZoneRec.reclamped, Cell.limited_outside _ outside]
      rfl
  · intro after gain rounded target
    have gainEq : gain = effectiveGain p c e := by
      have locked := loopUpdate_locked_iff p showNow e c
      simp only [gain, after, effectiveGain, locked]
    have targetEq : target = loopTarget p c e := by
      simp only [target, rounded, gainEq]
      rfl
    rw [targetEq]
    obtain ⟨near, far⟩ := loopUpdate_streak p showNow e c
    obtain ⟨below, above, within⟩ := loopUpdate_value p showNow e c limits
    have streak : c.state = .seeking → after.streak = streakAfter p c.streak e := fun seeking => by
      simp [after, loopUpdate, (seeking_locks p e c seeking).1]
    refine ⟨near, far, fun seeking reached => ?_, fun seeking short => ?_, fun locked near => ?_, fun locked far => ?_, below, above,
      within, rfl⟩
    · obtain ⟨kept, locks⟩ := seeking_locks p e c seeking
      rw [streak seeking] at reached
      have locks : lockedAfter p c e = true := by simp [locks, reached]
      exact ⟨(loopUpdate_locked_iff ..).mpr locks, loopUpdate_locked p showNow e c locks kept⟩
    · obtain ⟨kept, locks⟩ := seeking_locks p e c seeking
      rw [streak seeking] at short
      obtain ⟨iterations, state⟩ := loopUpdate_unlocked p showNow e c (by simp [locks]; omega)
      rw [kept] at iterations
      exact ⟨iterations, state.trans (by rw [iterations]; rfl)⟩
    · obtain ⟨unlocked, locks⟩ := locked_locks p e c locked
      have kept : unlocks p c.state e = false := by simp [unlocked]; omega
      have locks : lockedAfter p c e = true := by simp [locks]; omega
      exact ⟨(loopUpdate_locked_iff ..).mpr locks, loopUpdate_locked p showNow e c locks kept⟩
    · obtain ⟨unlocked, locks⟩ := locked_locks p e c locked
      obtain ⟨iterations, state⟩ := loopUpdate_unlocked p showNow e c (by simp [locks, far])
      rw [unlocked] at iterations
      have iterations : after.iterations = 1 := by simpa [far] using iterations
      exact ⟨iterations, state.trans (by rw [show (loopUpdate p showNow e c).iterations = 1 from iterations])⟩

end Sys2Proof

/-! SUPPORT. New aims and what is held between rows (R8 to R10, R13), as the statements spell them. -/

namespace Sys2Proof.Machine
open Sys2Proof

/-! ### Effective aims (R9, R10) -/

/-- The white ceiling bears on slice 15 alone (R9). -/
theorem effectiveAim_colour (aims : List Nat) (ceiling : Option Nat) {i : Nat} (h : i ≠ 15 ∨ ceiling = none) :
    effectiveAim aims ceiling i = aims.getD i 0 := by
  unfold effectiveAim
  dsimp only
  split
  · rename_i white
    rw [h.resolve_left (absurd white.1)]
  · rfl

/-- Slice 15's effective aim is its aim below the white ceiling, and 0 without an aim (R9). -/
theorem effectiveAim_white (aims : List Nat) (limit : Nat) :
    effectiveAim aims (some limit) 15 = if aims.getD 15 0 = 0 then 0 else min (aims.getD 15 0) limit := by
  unfold effectiveAim
  dsimp only
  by_cases aim : aims.getD 15 0 = 0
  · rw [if_neg (fun h => h.2 aim), if_pos aim, aim]
  · rw [if_pos ⟨rfl, aim⟩, if_neg aim]

/-- Which slices' effective aims change (R10). -/
theorem Grid.aimChanges_getElem (g : Grid) (aims : List Nat) (ceiling : Option Nat) {i : Nat} (h : i < (g.aimChanges aims ceiling).length) :
    (g.aimChanges aims ceiling)[i] = decide (Machine.effectiveAim aims ceiling i ≠ g.effectiveAim i) := by
  simp [Grid.aimChanges]

theorem Grid.aimChanges_length (g : Grid) (aims : List Nat) (ceiling : Option Nat) : (g.aimChanges aims ceiling).length = 16 := by
  simp [Grid.aimChanges]

/-- A new aim table and ceiling touch the aims, the ceiling, the nodes and the zones (R10). -/
theorem Grid.retarget_eq (g : Grid) (aims : List Nat) (ceiling : Option Nat) :
    g.retarget aims ceiling =
      { g with
        aims := aims, ceiling := ceiling, colour := (g.retarget aims ceiling).colour, zones := (g.retarget aims ceiling).zones } := rfl

/-- A colour slice whose effective aim changes has its nodes retargeted, any other stays (R10). -/
theorem Grid.retarget_slice (g : Grid) (aims : List Nat) (ceiling : Option Nat) (colour : g.colour.length = 15) {i : Nat} (h : i < 15) :
    (g.retarget aims ceiling).slice i =
      if Machine.effectiveAim aims ceiling i ≠ g.effectiveAim i then (g.slice i).map NodeRec.retargeted else g.slice i := by
  have inside : i < ((g.aimChanges aims ceiling).take 15).length := by simp [Grid.aimChanges_length, h]
  unfold Grid.slice Grid.retarget
  dsimp only
  rw [List.getD_eq_getElem _ _ (by simp only [List.length_zipWith]; omega), List.getElem_zipWith, List.getElem_take,
    Grid.aimChanges_getElem, List.getD_eq_getElem _ _ (by omega)]
  simp only [decide_eq_true_eq]

/-- The zones are retargeted when slice 15's effective aim changes, and stay else (R10). -/
theorem Grid.retarget_zones (g : Grid) (aims : List Nat) (ceiling : Option Nat) :
    (g.retarget aims ceiling).zones =
      if Machine.effectiveAim aims ceiling 15 ≠ g.effectiveAim 15 then g.zones.map ZoneRec.retargeted else g.zones := by
  unfold Grid.retarget
  dsimp only
  rw [List.getD_eq_getElem _ _ (by simp [Grid.aimChanges_length]), Grid.aimChanges_getElem]
  simp only [decide_eq_true_eq]

/-- What retargeting makes of a cell: LOCKED and STALLED return to SEEKING, SEEKING loses its streak, PINNED stays (R10). -/
theorem Cell.retargeted_eq (c : Cell) :
    c.retargeted =
      if c.state = .locked ∨ c.state = .stalled then { c with state := .seeking, streak := 0, iterations := 0 }
      else if c.state = .seeking then { c with streak := 0 }
      else c := by
  unfold Cell.retargeted
  cases c.state <;> simp

/-! ### What is held (R13) -/

/-- A request of grid memory with no row in process is taken (R13, R56). -/
theorem State.takeOrHold_idle {s : State} (idle : s.intake.inProcess = none) (kind tag : Byte) (item : HeldItem) :
    s.takeOrHold kind tag item = s.takeHeldItem item := by
  simp [State.takeOrHold, idle]

/-- A request of grid memory beside a row in process is held, up to four (R13). -/
theorem State.takeOrHold_held {s : State} (busy : s.intake.inProcess.isSome = true) (room : s.grid.heldRequests < 4) (kind tag : Byte)
    (item : HeldItem) : s.takeOrHold kind tag item = s.setGrid { s.grid with held := s.grid.held ++ [item] } := by
  rw [State.takeOrHold, if_neg (by simpa [Option.isSome_iff_ne_none] using busy), State.hold, if_pos room]

/-- A fifth held request is refused BUSY (R13). -/
theorem State.takeOrHold_full {s : State} (busy : s.intake.inProcess.isSome = true) (full : 4 ≤ s.grid.heldRequests) (kind tag : Byte)
    (item : HeldItem) : s.takeOrHold kind tag item = s.reply .station kind tag .busy [] := by
  rw [State.takeOrHold, if_neg (by simpa [Option.isSome_iff_ne_none] using busy), State.hold, if_neg (by omega)]
  rfl

/-- With nothing held, taking what is held changes nothing. -/
theorem State.takeHeld_nil {s : State} (h : s.grid.held = []) : s.takeHeld = s := by
  obtain ⟨_, grid, _⟩ := s
  obtain ⟨_⟩ := grid
  simp only at h
  subst h
  rfl

/-- The last held item is taken last, after all before it. -/
theorem State.takeHeld_append {s : State} {items : List HeldItem} {item : HeldItem} (h : s.grid.held = items ++ [item]) :
    s.takeHeld = (s.setGrid { s.grid with held := items }).takeHeld.takeHeldItem item := by
  unfold State.takeHeld
  rw [h, List.foldl_append]
  rfl

end Sys2Proof.Machine

/-! CERTIFICATE. SET_AIMS (O16). -/

namespace Sys2Proof
open Sys2Proof.Machine

/-- Settles O16: the request by the three things that can happen to it, the new aims slice by slice, the held items from the last one. -/
theorem setAimsTakesForceOrIsHeld : Obligations.SetAimsTakesForceOrIsHeld := by
  refine ⟨fun s tag aims h count => ?_, fun g aims ceiling colour => ?_, fun s items tag aims clamped limit slice node value row rest => ?_⟩
  · intro given capped
    have taken : exec (.setAims .station tag aims) s = .next (s.takeOrHold kindSetAims tag (.setAims tag given capped)).arbitrate := by
      refine (State.request_open (r := .setAims aims) ?_ ?_ h (by simp [Request.kind])).trans ?_
      · simp [Request.wellFormed, Request.payloadLength, count]
      · simp [Request.lengthSuits, count]
      · simp only [State.takeRequest, State.takeSetAims, h.opened, ne_eq, not_true_eq_false, if_false]
        rfl
    rw [taken]
    refine ⟨fun idle => ?_, fun busy room => ?_, fun busy full => ?_⟩
    · rw [State.takeOrHold_idle idle]
      rfl
    · rw [State.takeOrHold_held busy room]
    · rw [State.takeOrHold_full busy full]
      rfl
  · intro after
    refine ⟨g.retarget_eq aims ceiling, fun i => effectiveAim_colour aims ceiling, ?_, fun i hi => ⟨fun same => ?_, fun moved => ?_⟩,
      fun same => ?_, fun moved => ?_⟩
    · rintro limit rfl
      exact effectiveAim_white aims limit
    · rw [g.retarget_slice aims ceiling colour hi, if_neg (not_not_intro same)]
    · rw [g.retarget_slice aims ceiling colour hi, if_pos moved]
      simp only [← Cell.retargeted_eq]
      rfl
    · rw [g.retarget_zones aims ceiling, if_neg (not_not_intro same)]
    · rw [g.retarget_zones aims ceiling, if_pos moved]
      simp only [← Cell.retargeted_eq]
      rfl
  · refine ⟨fun busy => by simp [State.advanceRows, busy], fun idle => by simp [State.advanceRows, idle], State.takeHeld_nil,
      fun item => State.takeHeld_append, rfl, rfl, rfl, fun empty => by simp [State.beginRow, empty], fun queue => ?_⟩
    simp only [State.beginRow, queue]
    rfl

end Sys2Proof

/-! SUPPORT. Pins (R11, R12) and restarts (R16), as the statements spell them. -/

namespace Sys2Proof.Machine
open Sys2Proof

/-! ### One node of the grid -/

/-- The node written is read back, where the grid has it. -/
theorem Grid.putNode_node_same {g : Grid} (shape : g.colour.length = 15 ∧ ∀ slice ∈ g.colour, slice.length = 576) {slice n : Nat}
    (hs : slice < 15) (hn : n < 576) (r : NodeRec) : (g.putNode slice n r).node slice n = r := by
  have inside : slice < g.colour.length := by omega
  have length := shape.2 _ (List.getElem_mem inside)
  unfold Grid.putNode Grid.node Grid.slice
  simp only [List.getD_eq_getElem _ _ inside]
  rw [List.getD_eq_getElem (g.colour.set ..) _ (by simpa using inside), List.getElem_set_self, List.getD_eq_getElem _ _ (by simp; omega),
    List.getElem_set_self]

/-- Every other node is as it was. -/
theorem Grid.putNode_node_other (g : Grid) {slice n i k : Nat} (other : i ≠ slice ∨ k ≠ n) (r : NodeRec) :
    (g.putNode slice n r).node i k = g.node i k := by
  unfold Grid.putNode Grid.node Grid.slice
  by_cases same : slice = i
  · subst same
    by_cases inside : slice < g.colour.length
    · have row : (g.colour.set slice ((g.colour.getD slice []).set n r)).getD slice [] = (g.colour.getD slice []).set n r := by
        rw [List.getD_eq_getElem _ _ (by simpa using inside), List.getElem_set_self]
      rw [row, List.getD_eq_getElem?_getD, List.getElem?_set_ne (other.resolve_left (not_not_intro rfl)).symm, ← List.getD_eq_getElem?_getD]
    · rw [List.set_eq_of_length_le (by omega)]
  · simp only [List.getD_eq_getElem?_getD, List.getElem?_set_ne same]

/-- Writing a node back as it is changes nothing. -/
theorem Grid.putNode_node_self (g : Grid) (slice n : Nat) : g.putNode slice n (g.node slice n) = g := by
  have row : ∀ {α : Type} (l : List α) (k : Nat) (d : α), l.set k (l.getD k d) = l := by
    intro α l k d
    by_cases inside : k < l.length
    · rw [List.getD_eq_getElem _ _ inside, List.set_getElem_self]
    · rw [List.set_eq_of_length_le (by omega)]
  unfold Grid.putNode Grid.node Grid.slice
  rw [row, row]

/-! ### Pins (R11, R12) -/

section
variable (t : Tuning) (showNow value : Nat) (n : NodeRec)

/-- A nonzero value pins the node at sixteen times itself (R11). -/
theorem NodeRec.pinned_nonzero (h : value ≠ 0) :
    n.pinned t showNow value =
        { n with
          pin := value
          cell :=
            { n.cell with
              value := 16 * value, state := .pinned, streak := 0, saturated := false
              appliedAt := if 16 * value = n.cell.value then n.cell.appliedAt else showNow } } ∧
      n.unpinMoves t value = false := by
  simp [NodeRec.pinned, NodeRec.unpinMoves, h]

/-- The value 0 leaves a node that is not PINNED as it is (R12). -/
theorem NodeRec.pinned_zero_free (free : n.cell.state ≠ .pinned) :
    n.pinned t showNow 0 = n ∧ n.unpinMoves t 0 = false := by
  simp [NodeRec.pinned, NodeRec.unpinMoves, free]

/-- The value 0 returns a PINNED node to SEEKING at its gain, where that lies within the limits (R12). -/
theorem NodeRec.pinned_zero_inside (pinned : n.cell.state = .pinned) (low : t.gmin ≤ n.cell.value) (high : n.cell.value ≤ t.gmax) :
    n.pinned t showNow 0 =
        { n with pin := 0, cell := { n.cell with state := .seeking, streak := 0, iterations := 0, saturated := false } } ∧
      n.unpinMoves t 0 = false := by
  have stays : n.cell.outside t.gmin t.gmax = false := by
    rw [Cell.outside_eq, decide_eq_false_iff_not]
    omega
  refine ⟨?_, by simp [NodeRec.unpinMoves, stays]⟩
  rw [NodeRec.pinned, if_neg (not_not_intro rfl), if_pos pinned]
  exact congrArg (fun c => { n with pin := 0, cell := c })
    (Cell.limited_inside (c := { n.cell with state := .seeking, streak := 0, iterations := 0, saturated := false }) showNow low high)

/-- The value 0 returns a PINNED node to SEEKING at the nearer limit, saturated and stamped, where its gain lies outside (R12). -/
theorem NodeRec.pinned_zero_outside (pinned : n.cell.state = .pinned) (outside : n.cell.value < t.gmin ∨ t.gmax < n.cell.value) :
    n.pinned t showNow 0 =
        { n with
          pin := 0
          cell :=
            { value := if n.cell.value < t.gmin then t.gmin else t.gmax, state := .seeking, streak := 0, iterations := 0,
              appliedAt := showNow, saturated := true } } ∧
      n.unpinMoves t 0 = true := by
  refine ⟨?_, by simp [NodeRec.unpinMoves, pinned, Cell.outside_eq, outside]⟩
  rw [NodeRec.pinned, if_neg (not_not_intro rfl), if_pos pinned]
  exact congrArg (fun c => { n with pin := 0, cell := c })
    (Cell.limited_outside (c := { n.cell with state := .seeking, streak := 0, iterations := 0, saturated := false }) showNow outside)

end

/-! ### Restarts (R16) -/

section
variable (g : Grid) (scope : RestartScope)

/-- A slice that a restart covers has its nodes restarted, any other stays (R16). -/
theorem Grid.restarted_slice (colour : g.colour.length = 15) {i : Nat} (h : i < 15) :
    (g.restarted scope).slice i = if scope.covers i then (g.slice i).map NodeRec.restarted else g.slice i := by
  unfold Grid.slice Grid.restarted
  dsimp only
  rw [List.getD_eq_getElem _ _ (by simp; omega), List.getElem_zipWith, List.getElem_range, List.getD_eq_getElem _ _ (by omega)]

/-- The sticky flag of a slice that a restart covers clears (R15). -/
theorem Grid.restarted_stickyFlag (sticky : g.sticky.length = 16) {i : Nat} (h : i < 16) :
    (g.restarted scope).stickyFlag i = (g.stickyFlag i && !scope.covers i) := by
  unfold Grid.stickyFlag Grid.restarted
  dsimp only
  rw [List.getD_eq_getElem _ _ (by simp; omega), List.getElem_zipWith, List.getElem_range, List.getD_eq_getElem _ _ (by omega)]

/-- A restart leaves the white nodes, the zones and the phase alone unless it covers slice 15 (R16). -/
theorem Grid.restarted_white :
    (scope.covers 15 = false →
        (g.restarted scope).white = g.white ∧ (g.restarted scope).zones = g.zones ∧ (g.restarted scope).phase = g.phase) ∧
      (scope.covers 15 = true → g.white.length = 576 → g.zones.length = 144 →
        (g.restarted scope).white = List.replicate 576 .fresh ∧ (g.restarted scope).zones = List.replicate 144 .fresh ∧
          (g.restarted scope).phase = .coarse) := by
  refine ⟨fun other => by simp [Grid.restarted, other], fun covers white zones => ?_⟩
  simp [Grid.restarted, covers, ← white, ← zones]

/-- A restart touches the nodes, the zones, the sticky flags and the phase of grid memory (R16). -/
theorem Grid.restarted_eq :
    g.restarted scope =
      { g with colour := (g.restarted scope).colour, white := (g.restarted scope).white, zones := (g.restarted scope).zones,
               phase := (g.restarted scope).phase, sticky := (g.restarted scope).sticky } := rfl

end

/-- A zone's trim moves in a restart unless it stands at 128 (R16, R104). -/
theorem trimsOf_ne_fresh (zones : List ZoneRec) :
    trimsOf zones ≠ List.replicate zones.length 128 ↔ ∃ z ∈ zones, z.cell.value ≠ 128 := by
  unfold trimsOf
  rw [ne_eq, List.eq_replicate_iff]
  simp

/-- A restart's dirty flag: set where a trim takes a different value in WORKING (R104). -/
theorem State.restart_trim (s : State) (scope : RestartScope) :
    (s.restart scope).trim =
      { s.trim with
        dirty := dirtyAfter s.trim.dirty s.applier.mode (trimsOf s.grid.zones) (trimsOf (s.grid.restarted scope).zones) } := by
  simp [State.restart, State.restartRecords, State.putZones, State.replyDiscardedAll_frame]

/-- A restart that covers slice 15 sets the dirty flag where a trim stands off 128 in WORKING (R104). -/
theorem State.restart_trim_white {s : State} {scope : RestartScope} (covers : scope.covers 15 = true) (shaped : s.Shaped) :
    (s.restart scope).trim =
      { s.trim with dirty := s.trim.dirty || decide (s.applier.mode = .working ∧ ∃ z ∈ s.grid.zones, z.cell.value ≠ 128) } := by
  have zones := ((s.grid.restarted_white scope).2 covers shaped.white shaped.zones).2.1
  have trims : trimsOf (List.replicate 144 ZoneRec.fresh) = List.replicate s.grid.zones.length 128 := by
    rw [shaped.zones, trimsOf, List.map_replicate]
    rfl
  rw [State.restart_trim, zones, trims, dirtyAfter, decide_eq_decide.mpr (trimsOf_ne_fresh s.grid.zones), Bool.decide_and]

/-- A restart that does not cover slice 15 leaves the trim output as it is. -/
theorem State.restart_trim_colour {s : State} {scope : RestartScope} (other : scope.covers 15 = false) :
    (s.restart scope).trim = s.trim := by
  rw [State.restart_trim, ((s.grid.restarted_white scope).1 other).2.1]
  simp [dirtyAfter]

/-- What a restarted node is (R2, R16). -/
theorem NodeRec.restarted_eq (n : NodeRec) :
    n.restarted =
      if n.cell.state = .pinned then
        { cell := { value := n.cell.value, state := .pinned, streak := 0, iterations := 0, appliedAt := 0, saturated := false }
          lastMeasured := none, lastError := none, pin := n.pin }
      else .fresh := rfl

end Sys2Proof.Machine

/-! CERTIFICATE. SET_PIN and the restart of one slice (O17). -/

namespace Sys2Proof
open Sys2Proof.Machine

/-- Settles O17: the request by where grid memory takes it, the pin by its value and the node's state, the restart by its parts. -/
theorem setPinTakesTheNode : Obligations.SetPinTakesTheNode := by
  refine ⟨fun s tag slice value node h => ?_, fun s slice node value shaped hs hn => ?_, fun s i shaped hi => ?_⟩
  · intro taken pinReply
    have owner : exec (.setPin .station tag slice node value) s = .next (s.takeSetPin tag slice node value).arbitrate :=
      State.request_open (r := .setPin slice node value) rfl rfl h (by simp [Request.kind])
    rw [owner, State.takeSetPin, if_neg (by simp [h.opened])]
    refine ⟨fun outside => ?_, fun low high idle => ?_, fun low high busy room => ?_, fun low high busy full => ?_⟩
    · rw [if_pos outside]
      rfl
    · rw [if_neg (by omega), State.takeOrHold_idle idle]
      rfl
    · rw [if_neg (by omega), State.takeOrHold_held busy room]
    · rw [if_neg (by omega), State.takeOrHold_full busy full]
      rfl
  · intro n t taken
    have sticky : taken.grid.sticky = stickyAfter s.grid.sticky slice (n.unpinMoves t value) := rfl
    have written : taken.grid.node slice node = n.pinned t s.seq.showNumber value :=
      Grid.putNode_node_same shaped.colour hs hn _
    refine ⟨rfl, fun i k other => Grid.putNode_node_other s.grid other _, fun nonzero => ?_, ?_, ?_, ?_⟩
    · obtain ⟨pinned, still⟩ := n.pinned_nonzero t s.seq.showNumber value nonzero
      exact ⟨by rw [sticky, still]; rfl, written.trans pinned⟩
    · rintro rfl pinned low high
      obtain ⟨unpinned, still⟩ := n.pinned_zero_inside t s.seq.showNumber pinned low high
      exact ⟨by rw [sticky, still]; rfl, written.trans unpinned⟩
    · rintro rfl pinned - outside
      obtain ⟨unpinned, moves⟩ := n.pinned_zero_outside t s.seq.showNumber pinned outside
      exact ⟨by rw [sticky, moves]; rfl, written.trans unpinned⟩
    · rintro rfl free
      obtain ⟨same, still⟩ := n.pinned_zero_free t s.seq.showNumber free
      have grid : taken.grid = { s.grid.putNode slice node (n.pinned t s.seq.showNumber 0) with
          sticky := stickyAfter s.grid.sticky slice (n.unpinMoves t 0) } := rfl
      rw [grid, same, still, Grid.putNode_node_self]
      rfl
  · intro t gone
    obtain ⟨grid, seq, intake, station⟩ := s.restart_parts (.one i)
    obtain ⟨white, fresh⟩ := s.grid.restarted_white (.one i)
    obtain ⟨-, timing, region, applier, keys, checks, unit, nv, system, pending, -⟩ := s.restart_frame (.one i)
    refine ⟨fun k hk other => ?_, fun colour => ?_, ?_, fun k hk => ?_, ?_, ?_, intake, station, unit, keys, checks, nv, region, timing,
      applier, system, pending⟩
    · rw [grid, Grid.restarted_slice _ _ shaped.colour.1 hk, RestartScope.covers, decide_eq_false other, if_neg Bool.false_ne_true]
    · have stays : RestartScope.covers (.one i) 15 = false := decide_eq_false (by omega)
      have covered : RestartScope.covers (.one i) i = true := decide_eq_true rfl
      obtain ⟨whites, zones, phase⟩ := white stays
      refine ⟨by rw [grid, whites], by rw [grid, zones], by rw [grid, phase], State.restart_trim_colour stays, ?_⟩
      rw [grid, Grid.restarted_slice _ _ shaped.colour.1 colour, if_pos covered]
      rfl
    · rintro rfl
      obtain ⟨whites, zones, phase⟩ := fresh rfl shaped.white shaped.zones
      exact ⟨by rw [grid, whites], by rw [grid, zones], by rw [grid, phase], State.restart_trim_white rfl shaped⟩
    · rw [grid, Grid.restarted_stickyFlag _ _ shaped.sticky hk, RestartScope.covers, decide_not]
    · rw [grid]
      exact s.grid.restarted_eq (.one i)
    · rw [seq]
      simp [Sequencer.restarted, RestartScope.covers]

end Sys2Proof

/-! SUPPORT. A restart of all slices (R16), as the statements of GRID_RESTART, SET_LEVELS and OPEN spell it. -/

namespace Sys2Proof.Machine
open Sys2Proof

/-- A restart of all slices restarts every colour node (R16). -/
theorem Grid.restarted_all_colour {g : Grid} (colour : g.colour.length = 15) :
    (g.restarted .all).colour = g.colour.map (fun slice => slice.map NodeRec.restarted) :=
  List.ext_getElem (by simp [Grid.restarted, colour]) (by simp [Grid.restarted, RestartScope.covers])

/-- It clears every sticky flag (R15). -/
theorem Grid.restarted_all_sticky {g : Grid} (sticky : g.sticky.length = 16) : (g.restarted .all).sticky = List.replicate 16 false :=
  List.ext_getElem (by simp [Grid.restarted, sticky])
    (by simp [Grid.restarted, RestartScope.covers, -List.reduceReplicate])

/-- It empties the intake and leaves the progress timer and the rest (R57). -/
theorem Intake.without_all (i : Intake) : i.without .all = { i with queue := [], inProcess := none } := by
  simp [Intake.without, RestartScope.covers]

/-- It empties the history and starts the show numbers anew (R16). -/
theorem Sequencer.restarted_all (q : Sequencer) : q.restarted .all = { q with history := [], showNumber := 0 } := by
  simp [Sequencer.restarted, RestartScope.covers]

/-- A restarted node that is not PINNED is as after a reset (R16). -/
theorem NodeRec.restarted_free {n : NodeRec} (free : n.cell.state ≠ .pinned) : n.restarted = .fresh := if_neg free

/-- A restarted PINNED node keeps its pin and gain and forgets the rest (R16). -/
theorem NodeRec.restarted_pinned {n : NodeRec} (pinned : n.cell.state = .pinned) :
    n.restarted =
      { cell := { value := n.cell.value, state := .pinned, streak := 0, iterations := 0, appliedAt := 0, saturated := false }
        lastMeasured := none, lastError := none, pin := n.pin } :=
  if_pos pinned

end Sys2Proof.Machine

/-! CERTIFICATE. GRID_RESTART and SET_LEVELS (O18). -/

namespace Sys2Proof
open Sys2Proof.Machine

/-- Settles O18: the two requests by where grid memory takes them, the restart of all slices by its parts. -/
theorem restartRequestsRestartTheirSlices : Obligations.RestartRequestsRestartTheirSlices := by
  refine ⟨fun s tag slice scope codes h => ⟨fun still named => ?_, fun idle five valid => ?_⟩, fun s shaped => ?_⟩
  · have owner : exec (.gridRestart .station tag slice) s = .next (s.takeGridRestart tag slice).arbitrate :=
      State.request_open (r := .gridRestart slice) rfl rfl h (by simp [Request.kind])
    rw [owner, State.takeGridRestart, if_neg (by simp [h.opened]), if_neg (of_decide_eq_false still), named]
    rfl
  · have owner : exec (.setLevels .station tag codes) s = .next (s.takeSetLevels tag codes).arbitrate :=
      State.request_open (r := .setLevels codes) (by simp [Request.wellFormed, Request.payloadLength, five]) (by simp [Request.lengthSuits, five])
        h (by simp [Request.kind])
    rw [owner, State.takeSetLevels, if_neg (by simp [h.opened]), if_neg (by simp [idle]), if_neg (by simp [valid])]
    rfl
  · obtain ⟨grid, seq, intake, station⟩ := s.restart_parts .all
    obtain ⟨whites, zones, phase⟩ := (s.grid.restarted_white .all).2 rfl shaped.white shaped.zones
    rw [grid, seq, intake, station, s.seq.restarted_all, s.intake.without_all]
    refine ⟨Grid.restarted_all_colour shaped.colour.1, zones, whites, Grid.restarted_all_sticky shaped.sticky, phase, rfl, rfl, rfl, rfl,
      rfl, rfl, rfl, rfl, rfl, rfl, State.restart_trim_white rfl shaped, fun n => NodeRec.restarted_free, fun n pinned => ?_⟩
    rw [NodeRec.restarted_pinned pinned]
    exact ⟨rfl, rfl, rfl, rfl, rfl⟩

end Sys2Proof

/-! SUPPORT. What a settling of the region unit does to grid memory and the ports (R9, R10, R13, R115). -/

namespace Sys2Proof.Machine
open Sys2Proof

/-! ### A change of effective aims, seen through what it leaves alone (R10) -/

/-- What a new aim leaves alone in every node it leaves alone in the grid. -/
theorem Grid.retarget_colour_map {α : Type} {f : NodeRec → α} (same : ∀ n, f n.retargeted = f n) {g : Grid} (colour : g.colour.length = 15)
    (aims : List Nat) (ceiling : Option Nat) :
    (g.retarget aims ceiling).colour.map (fun slice => slice.map f) = g.colour.map (fun slice => slice.map f) := by
  have still : f ∘ NodeRec.retargeted = f := funext same
  refine List.ext_getElem (by simp [Grid.retarget, Grid.aimChanges_length, colour]) (fun i _ _ => ?_)
  simp only [Grid.retarget, List.getElem_map, List.getElem_zipWith]
  split
  · rw [List.map_map, still]
  · rfl

/-- What a new aim leaves alone in every zone it leaves alone in the grid. -/
theorem Grid.retarget_zones_map {α : Type} {f : ZoneRec → α} (same : ∀ z, f z.retargeted = f z) (g : Grid) (aims : List Nat)
    (ceiling : Option Nat) : (g.retarget aims ceiling).zones.map f = g.zones.map f := by
  have still : f ∘ ZoneRec.retargeted = f := funext same
  rw [Grid.retarget_zones]
  split
  · rw [List.map_map, still]
  · rfl

/-- A restart after a new aim is the restart alone (R10, R16). -/
theorem NodeRec.restarted_retargeted (n : NodeRec) : n.retargeted.restarted = n.restarted := by
  rw [NodeRec.restarted_eq, NodeRec.restarted_eq]
  obtain ⟨value, -, pinned⟩ := n.cell.retargeted_spec
  simp only [NodeRec.retargeted, pinned, value]

/-! ### The report of CURRENT's ceiling (R9, R13, R115) -/

section
variable {s : State}

/-- With no row in process the ceiling takes force at once (R13). -/
theorem State.takeCeiling_idle (idle : s.intake.inProcess = none) (limit : Option Nat) :
    s.takeCeiling limit = s.setGrid (s.grid.retarget s.grid.aims limit) := by
  simp [State.takeCeiling, idle, State.takeHeldItem]

/-- Settling CURRENT leaves grid memory alone where CURRENT does not change (R115). -/
theorem State.settleCurrent_grid_unchanged (same : currentChanged s.region.current s.region.computed = false) :
    s.settleCurrent.grid = s.grid := by
  unfold State.settleCurrent State.recomputeCurrent
  simp only [State.recomputeUnknown_frame, same]
  split <;> rfl

/-- Settling CURRENT in phase OPEN with no row in process: a change takes force in grid memory at once (R9, R13, R115). -/
theorem State.settleCurrent_grid_changed (opened : s.unit.phase = .opened) (idle : s.intake.inProcess = none)
    (changed : currentChanged s.region.current s.region.computed = true) :
    s.settleCurrent.grid = s.grid.retarget s.grid.aims (s.region.computed.map (·.profile.ceiling)) := by
  unfold State.settleCurrent State.recomputeCurrent State.informReaders
  simp only [State.recomputeUnknown_frame, opened, changed, if_true]
  rw [State.takeCeiling_idle (by simpa using idle)]
  simp [Region.ceiling]

/-- Settling CURRENT touches the ceiling, the held items, the colour nodes and the zones of grid memory at most (R10, R13). -/
theorem State.settleCurrent_grid_eq :
    s.settleCurrent.grid =
      { s.grid with ceiling := s.settleCurrent.grid.ceiling, held := s.settleCurrent.grid.held, colour := s.settleCurrent.grid.colour,
                    zones := s.settleCurrent.grid.zones } := by
  obtain e | ⟨limit, ⟨-, e⟩ | ⟨-, e⟩⟩ := s.settleCurrent_grid
  · rw [e]
  · rw [e]
    rfl
  · rw [e]

/-- With no row in process settling CURRENT leaves the held items as they are (R13). -/
theorem State.settleCurrent_held (idle : s.intake.inProcess = none) : s.settleCurrent.grid.held = s.grid.held := by
  obtain e | ⟨limit, ⟨-, e⟩ | ⟨busy, -⟩⟩ := s.settleCurrent_grid
  · rw [e]
  · rw [e]; rfl
  · simp [idle] at busy

/-- What a new aim leaves alone in every node, settling CURRENT leaves alone. -/
theorem State.settleCurrent_colour_map {α : Type} {f : NodeRec → α} (same : ∀ n, f n.retargeted = f n) (colour : s.grid.colour.length = 15) :
    s.settleCurrent.grid.colour.map (fun slice => slice.map f) = s.grid.colour.map (fun slice => slice.map f) := by
  obtain e | ⟨limit, ⟨-, e⟩ | ⟨-, e⟩⟩ := s.settleCurrent_grid
  · rw [e]
  · rw [e, Grid.retarget_colour_map same colour]
  · rw [e]

/-- What a new aim leaves alone in every zone, settling CURRENT leaves alone. -/
theorem State.settleCurrent_zones_map {α : Type} {f : ZoneRec → α} (same : ∀ z, f z.retargeted = f z) :
    s.settleCurrent.grid.zones.map f = s.grid.zones.map f := by
  obtain e | ⟨limit, ⟨-, e⟩ | ⟨-, e⟩⟩ := s.settleCurrent_grid
  · rw [e]
  · rw [e, Grid.retarget_zones_map same]
  · rw [e]

/-- Settling CURRENT moves no trim. -/
theorem State.settleCurrent_trims : trimsOf s.settleCurrent.grid.zones = trimsOf s.grid.zones :=
  State.settleCurrent_zones_map (fun z => z.cell.retargeted_spec.1)

/-- The conflict flag's recomputation leaves grid memory alone. -/
theorem State.settleRegion_grid : s.settleRegion.grid = s.settleCurrent.grid := (State.recomputeConflict_frame _).2.1

/-- A recomputation of the unknown condition replies nothing (R117). -/
theorem State.recomputeUnknown_replies : s.recomputeUnknown.station.replies = s.station.replies := by
  unfold State.recomputeUnknown
  dsimp only
  split <;> simp

/-- A recomputation of the conflict flag replies nothing (R116). -/
theorem State.recomputeConflict_replies : s.recomputeConflict.station.replies = s.station.replies := by
  unfold State.recomputeConflict
  dsimp only
  split <;> simp

/-- A settling of the region unit replies nothing. -/
theorem State.settleRegion_replies : s.settleRegion.station.replies = s.station.replies := by
  rw [State.settleRegion, State.recomputeConflict_replies, State.settleCurrent, State.recomputeUnknown_replies]
  simp

end

end Sys2Proof.Machine

/-! SUPPORT. The entry to OPEN (R166): the region unit settled, every slice restarted, the applier WORKING. -/

namespace Sys2Proof.Machine
open Sys2Proof

/-- The rows a restart of all slices discards: all of them, the abandoned one first (R57). -/
theorem Intake.discarded_all (i : Intake) : i.discarded .all = i.inProcess.toList.map (·.row) ++ i.queue := by
  simp [Intake.discarded, RestartScope.covers]

section
variable (s : State) (given : Nat)

/-- The unit of phase OPEN with GIVEN written, before CURRENT is settled (R112, R166). -/
def State.openedGiven : State := (s.setUnit { s.unit with phase := .opened }).setRegion { s.region with given := given }

/-- The entry to OPEN settles the region unit, restarts every slice and turns the applier WORKING (R166). -/
theorem State.enterOpen_eq : s.enterOpen given = ((s.openedGiven given).settleRegion.restart .all).setMode .working := rfl

/-- The blocks that the entry to OPEN touches, each from the settled region unit on (R166). -/
theorem State.enterOpen_parts :
    (s.enterOpen given).grid = (s.openedGiven given).settleCurrent.grid.restarted .all ∧
      (s.enterOpen given).seq = { s.seq with history := [], showNumber := 0 } ∧
      (s.enterOpen given).intake = { s.intake with queue := [], inProcess := none } ∧
      (s.enterOpen given).applier = { s.applier with mode := .working } ∧
      (s.enterOpen given).unit = { s.unit with phase := .opened } ∧
      (s.enterOpen given).station.replies =
        s.station.replies ++ (s.intake.inProcess.toList.map (·.row) ++ s.intake.queue).map (fun row =>
          replyFrame kindMeasure row.frameTag .discarded
            (measureFields row.patchTag row.row row.showNumber row.slice .zero false)) := by
  obtain ⟨grid, seq, intake, station⟩ := (s.openedGiven given).settleRegion.restart_parts .all
  rw [State.enterOpen_eq]
  refine ⟨?_, ?_, ?_, ?_, ?_, ?_⟩
  · simp only [State.setMode_frame, grid, State.settleRegion_grid]
  · simp only [State.setMode_frame, seq, Sequencer.restarted_all, State.settleRegion_frame]
    rfl
  · simp only [State.setMode_frame, intake, Intake.without_all, State.settleRegion_frame]
    rfl
  · simp only [State.setMode, State.setTrim_applier, State.setApplier_applier, State.restart_frame, State.settleRegion_frame]
    rfl
  · simp only [State.setMode_frame, State.restart_frame, State.settleRegion_frame]
    rfl
  · simp only [State.setMode_frame, station, Intake.discarded_all, State.settleRegion_replies, State.settleRegion_frame]
    rfl

/-- The region unit after the entry to OPEN: CURRENT, the unknown condition and the conflict flag agree with the GIVEN just written
(R113, R116, R117). -/
theorem State.enterOpen_region :
    (s.enterOpen given).region =
      { s.region with
        given := given
        current := (s.openedGiven given).region.computed
        unknown := unknownCondition .opened given s.region.sensedValid (s.region.profileFor s.region.sensed).isSome
        conflict := conflictFlag given s.region.sensed s.region.sensedValid } := by
  have profiles : (s.openedGiven given).region.profileFor = s.region.profileFor := Region.profileFor_congr rfl rfl
  have opened : (s.openedGiven given).unit.phase = .opened := rfl
  simp only [State.enterOpen_eq, State.setMode_frame, State.restart_frame, State.settleRegion_region, profiles, opened, if_true]
  rfl

/-- GIVEN after the entry to OPEN is the one OPEN gave (R112). -/
theorem State.enterOpen_given : (s.enterOpen given).region.given = given := by
  rw [State.enterOpen_region]

/-- CURRENT after the entry to OPEN is what the region unit computes (R113). -/
theorem State.enterOpen_current : (s.enterOpen given).region.current = (s.enterOpen given).region.computed := by
  rw [State.enterOpen_region]
  exact (Region.computed_congr rfl rfl rfl rfl rfl).symm

/-- A trim moves in the entry to OPEN unless it stands at 128, and so does the mode unless it is WORKING: each sets the dirty flag (R104). -/
theorem State.enterOpen_trim {s : State} (zones : s.grid.zones.length = 144) :
    (s.enterOpen given).trim =
      { s.trim with
        dirty := s.trim.dirty || decide (s.applier.mode ≠ .working) || decide (trimsOf s.grid.zones ≠ List.replicate 144 128) } := by
  have trims : trimsOf (s.openedGiven given).settleCurrent.grid.zones = trimsOf s.grid.zones := State.settleCurrent_trims
  have count : (s.openedGiven given).settleCurrent.grid.zones.length = 144 := by
    simpa [trimsOf, zones] using congrArg List.length trims
  have restarted : trimsOf ((s.openedGiven given).settleCurrent.grid.restarted .all).zones = List.replicate 144 128 := by
    have fresh : (fun _ : ZoneRec => ZoneRec.fresh.cell.value) = Function.const _ 128 := rfl
    simp only [Grid.restarted, RestartScope.covers, if_true, trimsOf, List.map_map, Function.comp_def, fresh, List.map_const, count]
  rw [State.enterOpen_eq, State.setMode, State.setTrim_trim, State.restart_trim, State.settleRegion_grid, trims, restarted]
  simp only [State.restart_frame, State.settleRegion_frame]
  simp only [State.openedGiven, State.setRegion_trim, State.setUnit_trim, State.setRegion_applier, State.setUnit_applier, dirtyAfter]
  by_cases working : s.applier.mode = .working <;> simp [working]

/-- Grid memory after the entry to OPEN: restarted, its ceiling and held items as the settling of CURRENT left them (R9, R13, R16). -/
theorem State.enterOpen_grid {s : State} (shaped : s.Shaped) :
    (s.enterOpen given).grid =
      { s.grid with
        colour := s.grid.colour.map (fun slice => slice.map NodeRec.restarted)
        white := List.replicate 576 .fresh
        zones := List.replicate 144 .fresh
        sticky := List.replicate 16 false
        phase := .coarse
        ceiling := (s.openedGiven given).settleCurrent.grid.ceiling
        held := (s.openedGiven given).settleCurrent.grid.held } := by
  have settled : (s.openedGiven given).settleCurrent.grid = { s.grid with
      ceiling := (s.openedGiven given).settleCurrent.grid.ceiling, held := (s.openedGiven given).settleCurrent.grid.held
      colour := (s.openedGiven given).settleCurrent.grid.colour, zones := (s.openedGiven given).settleCurrent.grid.zones } :=
    State.settleCurrent_grid_eq
  have colours : (s.openedGiven given).settleCurrent.grid.colour.map (fun slice => slice.map NodeRec.restarted) =
      s.grid.colour.map (fun slice => slice.map NodeRec.restarted) :=
    State.settleCurrent_colour_map NodeRec.restarted_retargeted shaped.colour.1
  have zones : (s.openedGiven given).settleCurrent.grid.zones.length = 144 := by
    have trims : trimsOf (s.openedGiven given).settleCurrent.grid.zones = trimsOf s.grid.zones := State.settleCurrent_trims
    simpa [trimsOf, shaped.zones] using congrArg List.length trims
  have slices : (s.openedGiven given).settleCurrent.grid.colour.length = 15 := by
    simpa [shaped.colour.1] using congrArg List.length colours
  rw [(s.enterOpen_parts given).1]
  generalize (s.openedGiven given).settleCurrent.grid = g at settled colours zones slices
  obtain ⟨whites, trims, phase⟩ := (g.restarted_white .all).2 rfl (by rw [settled]; exact shaped.white) zones
  rw [g.restarted_eq, whites, trims, phase, Grid.restarted_all_colour slices, colours,
    Grid.restarted_all_sticky (by rw [settled]; exact shaped.sticky), settled]

end

end Sys2Proof.Machine

/-! CERTIFICATE. OPEN (O43). -/

namespace Sys2Proof
open Sys2Proof.Machine

/-- Settles O43: the request by the unit's phase, the write's end by its outcome, the entry to OPEN by its parts. -/
theorem openBeginsOrEnters : Obligations.OpenBeginsOrEnters := by
  refine ⟨fun s tag given serial h valid code idle => ?_, fun s tag serial left given w running op writing => ?_, fun s given => ?_,
    fun s given shaped => ?_⟩
  · have short : serial.length ≤ 24 := by
      simp only [serialValid, Bool.and_eq_true, decide_eq_true_eq] at valid
      exact valid.1.2
    have taken (h' : s.unit.phase ≠ .closed) :
        exec (.openUnit .station tag given serial) s = .next (s.takeOpen tag given serial).arbitrate := by
      refine State.request_taken (r := .openUnit given serial) ?_ rfl h (by simp) (by simp [Request.kind]) (fun _ c => absurd c h')
      have payload : (Request.openUnit given serial).payloadLength ≤ 1024 := by
        rw [Request.payloadLength]
        omega
      exact Bool.and_eq_true_iff.mpr ⟨decide_eq_true payload, decide_eq_true (by omega)⟩
    have accepted : ¬(serialValid serial = false ∨ 999 < given.toNat) := by simp [valid]; omega
    refine ⟨fun blank => ?_, fun parked other => ?_, fun parked same => ?_⟩
    · rw [taken (by simp [blank]), State.takeOpen, if_neg (by simp [blank]), if_neg accepted, if_neg (by simp [idle]), if_pos blank]
      rfl
    · rw [taken (by simp [parked]), State.takeOpen, if_neg (by simp [parked]), if_neg accepted, if_neg (by simp [idle]),
        if_neg (by simp [parked]), if_pos other]
      rfl
    · rw [taken (by simp [parked]), State.takeOpen, if_neg (by simp [parked]), if_neg accepted, if_neg (by simp [idle]),
        if_neg (by simp [parked]), if_neg (not_not_intro same), State.replyOpened, (s.enterOpen_parts given.toNat).2.2.2.2.1,
        s.enterOpen_given, same]
      rfl
  · have ended (outcome : WriteOutcome) : exec (.openWriteComplete outcome) s = .next (s.takeOpenWrite outcome).arbitrate :=
      congrArg Host.Outcome.next (State.event_running running _)
    rw [ended, ended, State.takeOpenWrite, State.takeOpenWrite, op, writing]
    exact ⟨rfl, rfl⟩
  · obtain ⟨grid, seq, -, applier, unit, -⟩ := s.enterOpen_parts given
    obtain ⟨-, keys, checks, nv, -⟩ := s.enterOpen_frame given
    have settled := State.settleCurrent_grid_eq (s := s.openedGiven given)
    refine ⟨unit, ?_, s.enterOpen_current given, ?_, ?_, by rw [applier], by rw [applier], ?_, ?_, ?_, ?_, by rw [seq], by rw [seq], checks,
      keys, nv⟩
    · rw [s.enterOpen_region]
    · rw [s.enterOpen_region]
    · rw [s.enterOpen_region]
    · rw [grid]
      rfl
    · rw [grid, settled]
      rfl
    · rw [grid, settled]
      rfl
    · rw [grid, settled]
      rfl
  · intro t
    obtain ⟨-, seq, intake, applier, -, replies⟩ := s.enterOpen_parts given
    obtain ⟨power, -, -, -, system, pending, -⟩ := s.enterOpen_frame given
    have grid := s.enterOpen_grid given shaped
    have current : (s.enterOpen given).region.current = (s.openedGiven given).region.computed := by rw [s.enterOpen_region]
    refine ⟨by rw [grid]; rfl, by rw [grid]; rfl, by rw [grid]; rfl, by rw [grid], by rw [grid], fun idle => ?_, fun idle changed => ?_,
      fun same => ?_, intake, seq, replies, applier, State.enterOpen_trim given shaped.zones, power, system, pending⟩
    · rw [grid]
      exact State.settleCurrent_held (s := s.openedGiven given) idle
    · rw [current] at changed ⊢
      rw [grid]
      exact congrArg Grid.ceiling (State.settleCurrent_grid_changed (s := s.openedGiven given) rfl idle changed)
    · rw [current] at same
      have still : (s.openedGiven given).settleCurrent.grid = s.grid := State.settleCurrent_grid_unchanged same
      rw [grid, still]
      exact ⟨rfl, rfl⟩

end Sys2Proof

/-! SUPPORT. The commit's writes and its end (R168 to R170), and what they leave for start-up (R20, R118, R161). -/

namespace Sys2Proof.Machine
open Sys2Proof

/-! ### The records that start-up loads -/

section
variable {nv : NvStore}

/-- A grid record just written is the image that start-up loads (R20). -/
theorem NvStore.loadedImage_written {image : GridImage} (fits : image.Storable)
    (write : nv.write = some { place := .gridRecord, data := image.bytes }) : (nv.endWrite .whole).loadedImage = image := by
  unfold NvStore.endWrite
  rw [write]
  exact GridImage.ofBytes_bytes fits

/-- A region record just written is the profile that start-up loads (R118). -/
theorem NvStore.loadedProfile_written {p : Profile} (fits : p.Storable)
    (write : nv.write = some { place := .regionRecord, data := p.bytes }) : (nv.endWrite .whole).loadedProfile = some p := by
  unfold NvStore.endWrite
  rw [write]
  exact Profile.ofBytes_bytes fits

/-- A tuning record just written is the one that start-up loads (R20). -/
theorem NvStore.loadedTuning_written {t : Tuning} (legal : t.Legal)
    (write : nv.write = some { place := .tuningRecord, data := t.bytes }) : (nv.endWrite .whole).loadedTuning = t := by
  have read : (nv.endWrite .whole).tuningRecord = some t.bytes := by
    unfold NvStore.endWrite
    rw [write]
    rfl
  rw [NvStore.loadedTuning, read, Option.bind_some, Tuning.ofBytes_bytes legal, Option.getD_some]

/-- A unit record just written is the newest valid copy (R159). -/
theorem NvStore.newest_written {r : UnitRecord} (fits : r.Storable) (next : r.generation = nv.nextGeneration)
    (write : nv.write = some { place := nv.target, data := r.bytes }) : (nv.endWrite .whole).newest.map (·.2) = some r := by
  obtain ⟨copy, newest⟩ := NvStore.endWrite_target_whole write rfl rfl next (next ▸ fits.generation)
  rw [newest, UnitRecord.stored_of_storable fits]
  rfl

end

/-! ### The commit's end (R169, R170) -/

/-- The unknown condition: GIVEN is 0, and SENSED is valid without a profile (R117). -/
theorem unknownCondition_opened (r : Region) :
    unknownCondition .opened r.given r.sensedValid (r.profileFor r.sensed).isSome =
      decide (r.given = 0 ∧ r.sensedValid = true ∧ r.profileFor r.sensed = none) := by
  rw [unknownCondition, Bool.eq_iff_iff]
  simp [and_assoc]

/-- In phase OPEN settling CURRENT recomputes it and the unknown condition (R113, R117). -/
theorem State.settleCurrent_region_opened {s : State} (opened : s.unit.phase = .opened) :
    s.settleCurrent.region =
      { s.region with
        current := s.region.computed
        unknown := decide (s.region.given = 0 ∧ s.region.sensedValid = true ∧ s.region.profileFor s.region.sensed = none) } := by
  rw [State.settleCurrent_region, opened, if_pos rfl, unknownCondition_opened]

/-- The commit leaves CURRENT's code as it is (R169). -/
theorem State.completeCommit_currentCode (s : State) (identity : Option StationId) :
    (s.completeCommit identity).region.currentCode = (s.region.current.map (·.code)).getD 0 := by
  rw [Region.currentCode_eq]
  exact congrArg (·.getD 0) (Option.map_map _ _ _)

/-- Settling CURRENT touches the region unit, the frame timing unit, grid memory and the ports at most (R115). -/
theorem State.settleCurrent_beside (s : State) : s.SameBesideRegion s.settleCurrent := by
  obtain ⟨power, intake, seq, applier, trim, keys, checks, unit, nv, -, pending, -⟩ := s.settleCurrent_frame
  exact ⟨power, intake, seq, applier, trim, keys, checks, unit, nv, pending⟩

/-- A write of the commit ends (R168). -/
theorem exec_commitWriteComplete {s : State} (running : s.power = .running) (outcome : WriteOutcome) :
    exec (.commitWriteComplete outcome) s = .next (s.takeCommitWrite outcome).arbitrate :=
  congrArg Host.Outcome.next (State.event_running running _)

section
variable {s : State} {tag : Byte} {w : NvWrite} {step : CommitStep}

/-- A verified write before the last begins the next (R168). -/
theorem State.takeCommitWrite_next (op : s.unit.op = some (.commit tag step)) (write : s.nv.write = some w)
    (before : ∀ identity, step ≠ .closedMark identity) :
    s.takeCommitWrite .whole = (s.setNv (s.nv.endWrite .whole)).commitNext tag step := by
  rw [State.takeCommitWrite, op, write]
  cases step with
  | closedMark identity => exact absurd rfl (before identity)
  | _ => rfl

/-- The last write verified completes the commit (R169). -/
theorem State.takeCommitWrite_last {identity : Option StationId} (op : s.unit.op = some (.commit tag (.closedMark identity)))
    (write : s.nv.write = some w) :
    s.takeCommitWrite .whole = ((s.setNv (s.nv.endWrite .whole)).completeCommit identity).replyClosed tag := by
  rw [State.takeCommitWrite, op, write]
  rfl

/-- A torn write fails the commit (R170). -/
theorem State.takeCommitWrite_torn (op : s.unit.op = some (.commit tag step)) (write : s.nv.write = some w) (left : List Byte) :
    s.takeCommitWrite (.torn left) = (s.setNv (s.nv.endWrite (.torn left))).failCommit tag step := by
  rw [State.takeCommitWrite, op, write]
  rfl

end

end Sys2Proof.Machine

/-! CERTIFICATE. The commit (O45). -/

namespace Sys2Proof
open Sys2Proof.Machine

/-- Settles O45: the writes by their step, the completion by its fields, the failure by the settling of CURRENT, the records by their
read-back. -/
theorem commitWritesThenCompletesOrFails : Obligations.CommitWritesThenCompletesOrFails := by
  refine ⟨fun s tag w running write => ⟨fun op => ?_, fun op current held => ?_, fun op => ?_, fun op => ?_⟩,
    fun s tag w identity running write op => ?_, fun s tag w left step running write op => ?_,
    fun nv image p t r => ⟨NvStore.loadedImage_written, NvStore.loadedProfile_written, NvStore.loadedTuning_written,
      NvStore.newest_written⟩⟩
  · rw [exec_commitWriteComplete running, State.takeCommitWrite_next op write (by simp)]
    rfl
  · have record : s.region.recordBytes = current.profile.bytes := by
      rw [Region.recordBytes, held]
      rfl
    rw [exec_commitWriteComplete running, State.takeCommitWrite_next op write (by simp), ← record]
    rfl
  · rw [exec_commitWriteComplete running, State.takeCommitWrite_next op write (by simp)]
    rfl
  · rw [exec_commitWriteComplete running, State.takeCommitWrite_next op write (by simp)]
    rfl
  · rw [exec_commitWriteComplete running, State.takeCommitWrite_last op write, State.replyClosed,
      State.completeCommit_currentCode]
    rfl
  · intro opened
    refine ⟨?_, opened.settleCurrent_beside, State.settleCurrent_region_opened (s := opened) rfl,
      fun colour => ⟨?_, State.settleCurrent_trims⟩, fun same => State.settleCurrent_grid_unchanged (s := opened) same⟩
    · rw [exec_commitWriteComplete running, State.takeCommitWrite_torn op write, State.failCommit]
      cases step <;> rfl
    · exact State.settleCurrent_colour_map (s := opened) (fun n => n.cell.retargeted_spec.1) colour

end Sys2Proof

/-! SUPPORT. REOPEN (R172, R173) and its clearing of the loop state (R18, R87). -/

namespace Sys2Proof.Machine
open Sys2Proof

/-- Clearing the loop state moves no trim (R18). -/
theorem trimsOf_reopened (zones : List ZoneRec) : trimsOf (zones.map ZoneRec.reopened) = trimsOf zones := by
  rw [trimsOf, List.map_map]
  rfl

/-- A write of the zones that moves no trim leaves the dirty flag as it is (R104). -/
theorem State.putZones_trim_still {s : State} {zones : List ZoneRec} (still : trimsOf zones = trimsOf s.grid.zones) :
    (s.putZones zones).trim = s.trim := by
  simp [State.putZones, dirtyAfter, still]

/-- Clearing the loop state touches grid memory and the sequencer alone: no trim moves (R18, R87). -/
theorem State.clearLoopState_eq (s : State) :
    s.clearLoopState =
      (s.setGrid
        { s.grid with
          colour := s.grid.colour.map (fun slice => slice.map NodeRec.reopened)
          white := s.grid.white.map (fun _ => WhiteRec.fresh)
          zones := s.grid.zones.map ZoneRec.reopened
          sticky := s.grid.sticky.map (fun _ => false)
          phase := .coarse }).setSeq { s.seq with list := [], history := [], showNumber := 0 } := by
  have trim : (s.putZones (s.grid.zones.map ZoneRec.reopened)).trim = s.trim := State.putZones_trim_still (trimsOf_reopened _)
  have written : s.putZones (s.grid.zones.map ZoneRec.reopened) = s.setGrid { s.grid with zones := s.grid.zones.map ZoneRec.reopened } :=
    congrArg (State.setTrim (s.setGrid { s.grid with zones := s.grid.zones.map ZoneRec.reopened })) trim
  rw [State.clearLoopState, written]
  rfl

/-- The committed profile's code, 0 where none is (R112). -/
theorem Region.committedCode_eq (r : Region) : r.committedCode = (r.committed.map (·.code)).getD 0 := by
  rw [Region.committedCode]
  cases r.committed <;> rfl

/-- A write of GIVEN touches the region unit, the frame timing unit, grid memory and the ports at most (R112, R115). -/
theorem State.writeGiven_beside (s : State) (code : Nat) : s.SameBesideRegion (s.writeGiven code) := by
  obtain ⟨power, intake, seq, applier, trim, keys, checks, unit, nv, -, pending, -⟩ := s.writeGiven_frame code
  exact ⟨power, intake, seq, applier, trim, keys, checks, unit, nv, pending⟩

/-- A write of GIVEN in phase OPEN: CURRENT and the conflict flag are recomputed from it (R112, R113, R116). -/
theorem State.writeGiven_region {s : State} (opened : s.unit.phase = .opened) (code : Nat) :
    (s.writeGiven code).region.given = code ∧ (s.writeGiven code).region.current = (s.writeGiven code).region.computed ∧
      (s.writeGiven code).region.conflict = conflictFlag code s.region.sensed s.region.sensedValid ∧
      (s.writeGiven code).region.committed = s.region.committed ∧ (s.writeGiven code).region.slots = s.region.slots := by
  have opened' : (s.setRegion { s.region with given := code }).unit.phase = .opened := opened
  rw [State.writeGiven, State.settleRegion_region, if_pos opened']
  exact ⟨rfl, (Region.computed_congr rfl rfl rfl rfl rfl).symm, rfl, rfl, rfl⟩

/-- The applier turns to a mode; a turn sets the dirty flag (R96, R104). -/
theorem State.setMode_eq (s : State) (mode : ApplierMode) :
    s.setMode mode =
      (s.setApplier { s.applier with mode := mode }).setTrim
        { s.trim with dirty := s.trim.dirty || decide (s.applier.mode ≠ mode) } := rfl

end Sys2Proof.Machine

/-! CERTIFICATE. REOPEN (O46). -/

namespace Sys2Proof
open Sys2Proof.Machine

/-- Settles O46: the request by its checks in order, the write's end by its outcome, the clearing by its parts. -/
theorem reopenRaisesTheReworkCount : Obligations.ReopenRaisesTheReworkCount := by
  refine ⟨fun s tag h => ?_, fun s tag w left running op write => ?_, State.clearLoopState_eq⟩
  · have taken : exec (.reopen .station tag) s = .next (s.takeReopen tag).arbitrate :=
      State.request_station (r := .reopen) rfl rfl h (by simp [Request.kind]) (by simp [Request.kind, closedKinds])
    rw [taken, State.takeReopen]
    refine ⟨fun other => ?_, fun closed busy => ?_, fun closed idle many => ?_, fun closed idle few => ?_⟩
    · rw [if_pos other]
      rfl
    · rw [if_neg (not_not_intro closed), if_pos busy]
      rfl
    · rw [if_neg (not_not_intro closed), if_neg (by simp [idle]), if_pos many]
      rfl
    · rw [if_neg (not_not_intro closed), if_neg (by simp [idle]), if_neg (by omega)]
      rfl
  · intro reopened settled
    have ended (outcome : WriteOutcome) : exec (.reopenWriteComplete outcome) s = .next (s.takeReopenWrite outcome).arbitrate :=
      congrArg Host.Outcome.next (State.event_running running _)
    have reopenedRegion : reopened.clearLoopState.region = s.region := reopened.clearLoopState_frame.2.2.2.1
    have opened : reopened.clearLoopState.unit.phase = .opened := by rw [State.clearLoopState_eq]; rfl
    have beside : reopened.clearLoopState.SameBesideRegion settled := State.writeGiven_beside _ _
    obtain ⟨given, current, conflict, committed, slots⟩ := State.writeGiven_region opened ((s.region.committed.map (·.code)).getD 0)
    have applier : settled.applier = s.applier := beside.applier.trans (by rw [State.clearLoopState_eq]; rfl)
    have trim : settled.trim = s.trim := beside.trim.trans (by rw [State.clearLoopState_eq]; rfl)
    have whole : s.takeReopenWrite .whole = (settled.setMode .working).reply .station 0x12 tag .ok (u8 (s.unit.rework + 1)) := by
      rw [State.takeReopenWrite, op, write]
      dsimp only
      rw [if_pos rfl, State.completeReopen, Region.committedCode_eq]
      rfl
    have torn : s.takeReopenWrite (.torn left) =
        ((s.setNv (s.nv.endWrite (.torn left))).setUnit { s.unit with op := none }).reply .station 0x12 tag .nvFault [] := by
      rw [State.takeReopenWrite, op, write]
      rfl
    rw [ended, ended, whole, torn, State.setMode_eq, applier, trim]
    refine ⟨rfl, beside, given, current, ?_, ?_, ?_, rfl⟩
    · rw [conflict, given, reopenedRegion]
    · rw [committed, reopenedRegion]
    · rw [slots, reopenedRegion]

end Sys2Proof

/-! SUPPORT. What one operation can do to one record, in the terms that the laws of the loop speak of: its stamp, its error, what a zone
gathers (R2, R3, R26, R29). -/

namespace Sys2Proof.Machine
open Sys2Proof

/-! ### Nodes -/

/-- A node with no loop history: no error and no stamp (R16, R18, R20). -/
def NodeRec.Cleared (n : NodeRec) : Prop := n.lastError = none ∧ n.cell.appliedAt = 0

/-- A cell's stamp stays or is the show number of the moment (R26). -/
def Cell.Stamped (showNow : Nat) (c c' : Cell) : Prop := c'.appliedAt = c.appliedAt ∨ c'.appliedAt = showNow

/-- An error stays or is that of a count (R29). -/
def ErrorRecorded (e e' : Option Int) : Prop := e' = e ∨ ∃ aim m, e' = some (errorOf aim m)

/-- What an operation that clears no loop history does to a node. -/
structure NodeRec.Moved (showNow : Nat) (n n' : NodeRec) : Prop where
  stamp : n.cell.Stamped showNow n'.cell
  error : ErrorRecorded n.lastError n'.lastError

section
variable (t : Tuning) (showNow : Nat)

theorem NodeRec.restarted_cleared (n : NodeRec) : n.restarted.Cleared := by
  unfold NodeRec.restarted
  split <;> exact ⟨rfl, rfl⟩

theorem NodeRec.reopened_cleared (n : NodeRec) : n.reopened.Cleared := ⟨rfl, rfl⟩

theorem loadedNode_cleared (gain : Nat) : (loadedNode t gain).Cleared := by
  unfold loadedNode
  split <;> exact ⟨rfl, rfl⟩

/-- A change of aim leaves the stamp (R10). -/
theorem Cell.retargeted_appliedAt (c : Cell) : c.retargeted.appliedAt = c.appliedAt := by
  unfold Cell.retargeted
  split <;> rfl

/-- A cell brought into limits is stamped when it moves (R7, R12). -/
theorem Cell.limited_stamped (lo hi : Nat) (c : Cell) : c.Stamped showNow (c.limited lo hi showNow) := by
  unfold Cell.limited
  dsimp only
  split
  · exact .inl rfl
  · exact .inr rfl

/-- An update of the loop stamps the cell when it moves (R26). -/
theorem loopUpdate_stamped (p : LoopParams) (e : Int) (c : Cell) : c.Stamped showNow (loopUpdate p showNow e c) := by
  unfold loopUpdate Cell.Stamped
  dsimp only
  split
  · exact .inl rfl
  · exact .inr rfl

theorem NodeRec.retargeted_moved (n : NodeRec) : n.Moved showNow n.retargeted :=
  ⟨.inl n.cell.retargeted_appliedAt, .inl rfl⟩

theorem NodeRec.reclamped_moved (n : NodeRec) : n.Moved showNow (n.reclamped t showNow) := by
  refine ⟨?_, .inl rfl⟩
  by_cases pinned : n.cell.state = .pinned
  · exact .inl (by simp [NodeRec.reclamped, pinned, Cell.cut])
  · simpa [NodeRec.reclamped, pinned, Cell.Stamped, Cell.cut] using n.cell.limited_stamped showNow t.gmin t.gmax

theorem NodeRec.pinned_moved (value : Nat) (n : NodeRec) : n.Moved showNow (n.pinned t showNow value) := by
  unfold NodeRec.pinned
  split
  · refine ⟨?_, .inl rfl⟩
    unfold Cell.Stamped
    dsimp only
    split
    · exact .inl rfl
    · exact .inr rfl
  · split
    · exact ⟨Cell.limited_stamped showNow _ _ { n.cell with state := .seeking, streak := 0, iterations := 0, saturated := false }, .inl rfl⟩
    · exact ⟨.inl rfl, .inl rfl⟩

/-- A colour count records its own error, and stamps the node when the update moves it (R26, R29). -/
theorem fineCount_moved (aim rowShow m : Nat) (n : NodeRec) : n.Moved showNow (fineCount t aim rowShow showNow m n).after := by
  unfold fineCount
  dsimp only
  (repeat' split)
  · exact ⟨.inl rfl, .inl rfl⟩
  · exact ⟨.inl rfl, .inl rfl⟩
  · exact ⟨.inl rfl, .inr ⟨_, _, rfl⟩⟩
  · exact ⟨loopUpdate_stamped showNow _ _ n.cell, .inr ⟨_, _, rfl⟩⟩
  · exact ⟨.inl rfl, .inr ⟨_, _, rfl⟩⟩

/-- No colour count updates a zone (R24). -/
theorem fineCount_updated (aim rowShow m : Nat) (n : NodeRec) : (fineCount t aim rowShow showNow m n).updated = false := by
  unfold fineCount
  dsimp only
  (repeat' split) <;> rfl

/-- A white count records its own error (R42). -/
theorem whiteStage_recorded (aim rowShow m : Nat) (w : WhiteRec) :
    ErrorRecorded w.lastError (whiteStage aim rowShow m w).lastError := by
  unfold whiteStage
  (repeat' split)
  · exact .inl rfl
  · exact .inl rfl
  · exact .inr ⟨_, _, rfl⟩

/-! ### Zones -/

/-- A zone with no loop history: an empty pending set and no stamp (R16, R18, R20). -/
def ZoneRec.Cleared (z : ZoneRec) : Prop := (z.pendingSum = 0 ∧ z.pendingCount = 0) ∧ z.cell.appliedAt = 0

/-- A zone's pending set stays or is emptied. -/
def ZoneRec.KeptOrEmptied (z z' : ZoneRec) : Prop :=
  (z'.pendingSum = z.pendingSum ∧ z'.pendingCount = z.pendingCount) ∨ (z'.pendingSum = 0 ∧ z'.pendingCount = 0)

/-- A zone's pending set gathers one more error, which is not its fourth (R45). -/
def ZoneRec.Gathers (z z' : ZoneRec) : Prop :=
  z.pendingCount ≠ 3 ∧ ∃ aim m, z'.pendingSum = z.pendingSum + errorOf aim m ∧ z'.pendingCount = z.pendingCount + 1

/-- What an operation that clears no loop history does to a zone: its pending set stays, is emptied, or so and then gathers an error. -/
structure ZoneRec.Moved (showNow : Nat) (z z' : ZoneRec) : Prop where
  stamp : z.cell.Stamped showNow z'.cell
  pending : z.KeptOrEmptied z' ∨ ∃ opened, z.KeptOrEmptied opened ∧ opened.Gathers z'

theorem ZoneRec.retargeted_moved (z : ZoneRec) : z.Moved showNow z.retargeted :=
  ⟨.inl z.cell.retargeted_appliedAt, .inl (.inr ⟨rfl, rfl⟩)⟩

theorem ZoneRec.reclamped_moved (z : ZoneRec) : z.Moved showNow (z.reclamped t showNow) :=
  ⟨z.cell.limited_stamped showNow t.zmin t.zmax, .inl (.inl ⟨rfl, rfl⟩)⟩

/-- Settling the pending set for a row continues it or opens it anew (R44). -/
theorem ZoneRec.settled_keptOrEmptied (z : ZoneRec) (rowShow : Nat) : z.KeptOrEmptied (z.settled rowShow) := by
  unfold ZoneRec.settled
  split
  · exact .inl ⟨rfl, rfl⟩
  · exact .inr ⟨rfl, rfl⟩

/-- A white count gathers its own error, and a fourth one empties the set (R45, R46). -/
theorem zoneCount_moved (phase : GridPhase) (aim rowShow m : Nat) (z : ZoneRec) :
    z.Moved showNow (zoneCount t phase aim rowShow showNow m z).after := by
  have stamp : z.cell.Stamped showNow (zoneCount t phase aim rowShow showNow m z).after.cell := by
    obtain same | ⟨e, moved⟩ := zoneCount_cell (t := t) phase aim rowShow showNow m z
    · exact .inl (by rw [same])
    · exact moved ▸ loopUpdate_stamped ..
  refine ⟨stamp, ?_⟩
  have opened := z.settled_keptOrEmptied rowShow
  unfold zoneCount
  split
  · exact .inl (.inl ⟨rfl, rfl⟩)
  split
  · exact .inl (.inl ⟨rfl, rfl⟩)
  unfold zoneStage
  dsimp only
  split
  · exact .inl (.inl ⟨rfl, rfl⟩)
  split
  · exact .inl (.inl ⟨rfl, rfl⟩)
  split
  · exact .inl opened
  · rename_i reading e usable
    have count : ∃ aim m, e = errorOf aim m := by
      split at usable
      · nomatch usable
      · exact ⟨aim, m, (Option.some.inj usable).symm⟩
    obtain ⟨_, _, rfl⟩ := count
    split
    · exact .inl opened
    split
    · exact .inl (.inr ⟨rfl, rfl⟩)
    · rename_i more
      exact .inr ⟨_, opened, by simpa using more, _, _, rfl, rfl⟩

end

end Sys2Proof.Machine

/-! SUPPORT. A law over single records of grid memory and the row in process, carried through every command once: each law of the loop that
speaks of its records one by one (R24, R26, R29) is one such law. -/

namespace Sys2Proof.Machine
open Sys2Proof

/-- What all entries of a list and the default have, every entry read from it has. -/
theorem getD_of_forall {α : Type} {P : α → Prop} {entries : List α} {default : α} (all : ∀ x ∈ entries, P x) (other : P default) (i : Nat) :
    P (entries.getD i default) := by
  by_cases inside : i < entries.length
  · rw [List.getD_eq_getElem _ _ inside]
    exact all _ (List.getElem_mem inside)
  · rwa [List.getD_eq_default _ _ (by omega)]

/-! ### Laws of single records -/

/-- The show number of the display that begins next (R71, R80). -/
def nextShow (now : Nat) : Nat := min (now + 1) maxShow

/-- A law that every record meets by itself under the show number of the moment, with what carries it from one moment to the next: records
without loop history meet it, and what one operation does to a record keeps it. -/
structure RecordLaw where
  range : Nat → Prop
  node : Nat → NodeRec → Prop
  white : WhiteRec → Prop
  zone : Nat → ZoneRec → Prop
  row : RowInProcess → Prop
  range_zero : range 0
  range_next : ∀ {now}, range now → range (nextShow now)
  node_next : ∀ {now n}, range now → node now n → node (nextShow now) n
  zone_next : ∀ {now z}, range now → zone now z → zone (nextShow now) z
  node_cleared : ∀ now {n}, n.Cleared → node now n
  zone_cleared : ∀ now {z}, z.Cleared → zone now z
  white_cleared : ∀ {w}, w.lastError = none → white w
  node_moved : ∀ {now n n'}, node now n → n.Moved now n' → node now n'
  zone_moved : ∀ {now z z'}, zone now z → z.Moved now z' → zone now z'
  white_moved : ∀ {w w'}, white w → ErrorRecorded w.lastError w'.lastError → white w'
  row_begun : ∀ {r}, r.column = 0 → r.tally = .zero → row r
  row_counted : ∀ {r} (outcome : CountOutcome) (updated : Bool), row r → r.column + 1 < 32 → (r.row.slice ≠ 15 → updated = false) →
    row { r with column := r.column + 1, tally := r.tally.count outcome updated }

/-- Every record, and the row in process, meets the law. -/
structure State.Meets (s : State) (law : RecordLaw) : Prop where
  range : law.range s.seq.showNumber
  nodes : ∀ slice ∈ s.grid.colour, ∀ n ∈ slice, law.node s.seq.showNumber n
  white : ∀ w ∈ s.grid.white, law.white w
  zones : ∀ z ∈ s.grid.zones, law.zone s.seq.showNumber z
  row : ∀ r, s.intake.inProcess = some r → law.row r

/-- Two states alike in all that such a law speaks of. -/
structure State.SameRecords (s t : State) : Prop where
  shown : t.seq.showNumber = s.seq.showNumber
  colour : t.grid.colour = s.grid.colour
  white : t.grid.white = s.grid.white
  zones : t.grid.zones = s.grid.zones
  row : t.intake.inProcess = s.intake.inProcess

section
variable {law : RecordLaw} {s t : State}

/-- Grid memory as it was has the same records. -/
theorem State.SameRecords.of_grid (shown : t.seq.showNumber = s.seq.showNumber) (grid : t.grid = s.grid)
    (row : t.intake.inProcess = s.intake.inProcess) : s.SameRecords t :=
  ⟨shown, by rw [grid], by rw [grid], by rw [grid], row⟩

theorem State.SameBlocks.sameRecords (same : s.SameBlocks t) : s.SameRecords t :=
  .of_grid (by rw [same.seq]) same.grid (by rw [same.intake])

theorem State.Meets.congr (h : s.Meets law) (same : s.SameRecords t) : t.Meets law := by
  obtain ⟨shown, colour, white, zones, row⟩ := same
  exact ⟨by rw [shown]; exact h.range, by rw [shown, colour]; exact h.nodes, by rw [white]; exact h.white,
    by rw [shown, zones]; exact h.zones, by rw [row]; exact h.row⟩

/-- The law is kept under the same show number when every record meets it and the row in process is the one before, one just begun, or
none. -/
theorem State.Meets.under (h : s.Meets law) (shown : t.seq.showNumber = s.seq.showNumber)
    (nodes : ∀ slice ∈ t.grid.colour, ∀ n ∈ slice, law.node s.seq.showNumber n) (white : ∀ w ∈ t.grid.white, law.white w)
    (zones : ∀ z ∈ t.grid.zones, law.zone s.seq.showNumber z)
    (row : ∀ r, t.intake.inProcess = some r → s.intake.inProcess = some r ∨ r.column = 0 ∧ r.tally = .zero) : t.Meets law :=
  ⟨shown ▸ h.range, shown ▸ nodes, white, shown ▸ zones,
    fun r e => (row r e).elim (h.row r) (fun begun => law.row_begun begun.1 begun.2)⟩

/-- With all loop history gone the law is met under show number 0 (R16, R18). -/
theorem State.Meets.cleared (shown : t.seq.showNumber = 0) (nodes : ∀ slice ∈ t.grid.colour, ∀ n ∈ slice, n.Cleared)
    (white : ∀ w ∈ t.grid.white, w.lastError = none) (zones : ∀ z ∈ t.grid.zones, z.Cleared)
    (row : ∀ r, t.intake.inProcess = some r → law.row r) : t.Meets law :=
  ⟨shown ▸ law.range_zero, fun slice hs n hn => law.node_cleared _ (nodes slice hs n hn), fun w hw => law.white_cleared (white w hw),
    fun z hz => law.zone_cleared _ (zones z hz), row⟩

theorem State.Meets.node (h : s.Meets law) (slice n : Nat) : law.node s.seq.showNumber (s.grid.node slice n) := by
  obtain fresh | ⟨records, mem, mem'⟩ := s.grid.node_mem slice n
  · exact fresh ▸ law.node_cleared _ ⟨rfl, rfl⟩
  · exact h.nodes records mem _ mem'

theorem State.Meets.whiteNode (h : s.Meets law) (n : Nat) : law.white (s.grid.whiteNode n) :=
  getD_of_forall h.white (law.white_cleared rfl) n

theorem State.Meets.zone (h : s.Meets law) (z : Nat) : law.zone s.seq.showNumber (s.grid.zone z) :=
  getD_of_forall h.zones (law.zone_cleared _ ⟨⟨rfl, rfl⟩, rfl⟩) z

/-! ### Operations of grid memory -/

theorem State.Meets.retarget (h : s.Meets law) (aims : List Nat) (ceiling : Option Nat) (grid : t.grid = s.grid.retarget aims ceiling)
    (seq : t.seq = s.seq) (intake : t.intake = s.intake) : t.Meets law := by
  refine h.under (by rw [seq]) ?_ (by rw [grid]; exact h.white) ?_ (by rw [intake]; exact fun _ => .inl)
  · rw [grid]
    intro slice hs n hn
    obtain ⟨old, mem, y, hy, rfl | rfl⟩ := Grid.mem_retarget hs hn
    · exact h.nodes old mem n hy
    · exact law.node_moved (h.nodes old mem y hy) (y.retargeted_moved _)
  · rw [grid]
    intro z hz
    obtain ⟨y, hy, rfl | rfl⟩ := Grid.mem_retarget_zones hz
    · exact h.zones z hy
    · exact law.zone_moved (h.zones y hy) (y.retargeted_moved _)

/-- The law is kept by a change of one node of a colour slice. -/
theorem State.Meets.putNode (h : s.Meets law) {slice n : Nat} {r : NodeRec} (moved : (s.grid.node slice n).Moved s.seq.showNumber r) :
    ∀ records ∈ (s.grid.putNode slice n r).colour, ∀ x ∈ records, law.node s.seq.showNumber x := by
  intro records hr x hx
  obtain rfl | ⟨old, mem, hx⟩ := Grid.mem_putNode hr hx
  · exact law.node_moved (h.node slice n) moved
  · exact h.nodes old mem x hx

theorem State.Meets.takeHeldItem (h : s.Meets law) (item : HeldItem) : (s.takeHeldItem item).Meets law := by
  cases item with
  | setAims tag aims clamped => exact h.retarget aims s.grid.ceiling (by simp [State.takeHeldItem, State.takeAims]) (by simp) (by simp)
  | setPin tag slice node value =>
    have pinned : (s.takePin slice node value).Meets law :=
      h.under rfl (h.putNode (NodeRec.pinned_moved ..)) h.white h.zones (fun _ => .inl)
    exact pinned.congr ⟨by simp, by simp [State.takeHeldItem, State.takePinReplying], by simp [State.takeHeldItem, State.takePinReplying],
      by simp [State.takeHeldItem, State.takePinReplying], by simp⟩
  | ceiling limit => exact h.retarget s.grid.aims limit rfl rfl rfl

theorem State.Meets.takeHeld (h : s.Meets law) : s.takeHeld.Meets law := by
  have all : ∀ (items : List HeldItem) (u : State), u.Meets law → (items.foldl State.takeHeldItem u).Meets law := by
    intro items
    induction items with
    | nil => exact fun u hu => hu
    | cons item rest ih => exact fun u hu => ih _ (hu.takeHeldItem item)
  exact all _ _ (h.congr ⟨rfl, rfl, rfl, rfl, rfl⟩)

theorem State.Meets.beginRow (h : s.Meets law) : s.beginRow.Meets law := by
  unfold State.beginRow
  split
  · exact h
  · refine h.under rfl h.nodes h.white h.zones (fun r e => .inr ?_)
    cases e
    exact ⟨rfl, rfl⟩

theorem State.Meets.advanceRows (h : s.Meets law) : s.advanceRows.Meets law := by
  unfold State.advanceRows
  split
  · exact h
  · exact h.takeHeld.beginRow

theorem State.Meets.takeOrHold (h : s.Meets law) (kind tag : Byte) (item : HeldItem) : (s.takeOrHold kind tag item).Meets law := by
  obtain ⟨-, e⟩ | ⟨-, -, e⟩ | ⟨-, -, e⟩ := s.takeOrHold_cases kind tag item <;> rw [e]
  · exact h.takeHeldItem item
  · exact h.congr ⟨rfl, rfl, rfl, rfl, rfl⟩
  · exact h.congr (by constructor <;> simp)

theorem State.Meets.settleCurrent (h : s.Meets law) : s.settleCurrent.Meets law := by
  obtain e | ⟨limit, ⟨-, e⟩ | ⟨-, e⟩⟩ := s.settleCurrent_grid
  · exact h.congr (by constructor <;> simp [e])
  · exact h.retarget _ _ e (by simp) (by simp)
  · exact h.congr (by constructor <;> simp [e])

theorem State.Meets.settleRegion (h : s.Meets law) : s.settleRegion.Meets law :=
  h.settleCurrent.congr (by constructor <;> simp [State.settleRegion])

theorem State.Meets.writeGiven (h : s.Meets law) (code : Nat) : (s.writeGiven code).Meets law :=
  State.Meets.settleRegion (s := s.setRegion { s.region with given := code }) (h.congr ⟨rfl, rfl, rfl, rfl, rfl⟩)

/-- A record of a grid restarted whole is a record restarted (R16). -/
theorem Grid.mem_restarted_all {g : Grid} {records : List NodeRec} {x : NodeRec} (h : records ∈ (g.restarted .all).colour)
    (hx : x ∈ records) : ∃ y : NodeRec, x = y.restarted := by
  obtain ⟨i, hi, rfl⟩ := List.getElem_of_mem h
  simp only [Grid.restarted, RestartScope.covers, if_true, List.getElem_zipWith, List.mem_map] at hx
  obtain ⟨y, -, rfl⟩ := hx
  exact ⟨y, rfl⟩

theorem State.Meets.restart (h : s.Meets law) (scope : RestartScope) : (s.restart scope).Meets law := by
  obtain ⟨grid, seq, intake, -⟩ := s.restart_parts scope
  have row : ∀ r, (s.restart scope).intake.inProcess = some r → s.intake.inProcess = some r := fun r e => by
    rw [intake] at e
    exact Option.eq_some_of_filter_eq_some e
  cases scope with
  | one slice =>
    refine h.under (by rw [seq]; rfl) ?_ ?_ ?_ (fun r e => .inl (row r e)) <;> rw [grid]
    · intro records hr n hn
      obtain ⟨old, mem, y, hy, rfl | rfl⟩ := Grid.mem_restarted hr hn
      · exact h.nodes old mem n hy
      · exact law.node_cleared _ y.restarted_cleared
    · intro w hw
      dsimp only [Grid.restarted] at hw
      split at hw
      · obtain ⟨-, -, rfl⟩ := List.mem_map.mp hw
        exact law.white_cleared rfl
      · exact h.white w hw
    · intro z hz
      dsimp only [Grid.restarted] at hz
      split at hz
      · obtain ⟨-, -, rfl⟩ := List.mem_map.mp hz
        exact law.zone_cleared _ ⟨⟨rfl, rfl⟩, rfl⟩
      · exact h.zones z hz
  | all =>
    refine .cleared (by rw [seq]; rfl) ?_ ?_ ?_ (fun r e => h.row r (row r e)) <;> rw [grid]
    · intro records hr n hn
      obtain ⟨y, rfl⟩ := Grid.mem_restarted_all hr hn
      exact y.restarted_cleared
    · intro w hw
      obtain ⟨-, -, rfl⟩ := List.mem_map.mp hw
      rfl
    · intro z hz
      obtain ⟨-, -, rfl⟩ := List.mem_map.mp hz
      exact ⟨⟨rfl, rfl⟩, rfl⟩

theorem State.Meets.restartReplying (h : s.Meets law) (kind tag : Byte) (scope : RestartScope) :
    (s.restartReplying kind tag scope).Meets law :=
  State.Meets.advanceRows ((h.restart scope).congr (by constructor <;> simp))

theorem State.Meets.retune (h : s.Meets law) (tuning : Tuning) : (s.retune tuning).Meets law := by
  refine h.under rfl ?_ h.white ?_ (fun _ => .inl)
  · intro slice hs n hn
    obtain ⟨old, mem, rfl⟩ := List.mem_map.mp hs
    obtain ⟨y, hy, rfl⟩ := List.mem_map.mp hn
    exact law.node_moved (h.nodes old mem y hy) (y.reclamped_moved ..)
  · intro z hz
    obtain ⟨y, hy, rfl⟩ := List.mem_map.mp hz
    exact law.zone_moved (h.zones y hy) (y.reclamped_moved ..)

theorem State.Meets.clearLoopState (h : s.Meets law) : s.clearLoopState.Meets law := by
  refine .cleared rfl ?_ ?_ ?_ h.row
  · intro slice hs n hn
    obtain ⟨old, -, rfl⟩ := List.mem_map.mp hs
    obtain ⟨y, -, rfl⟩ := List.mem_map.mp hn
    exact y.reopened_cleared
  · intro w hw
    obtain ⟨-, -, rfl⟩ := List.mem_map.mp hw
    rfl
  · intro z hz
    obtain ⟨y, -, rfl⟩ := List.mem_map.mp hz
    exact ⟨⟨rfl, rfl⟩, rfl⟩

theorem State.Meets.enterOpen (h : s.Meets law) (given : Nat) : (s.enterOpen given).Meets law := by
  have opened : (s.setUnit { s.unit with phase := .opened }).Meets law := h.congr ⟨rfl, rfl, rfl, rfl, rfl⟩
  exact ((opened.writeGiven given).restart .all).congr (by constructor <;> simp [State.enterOpen])

theorem State.Meets.completeReopen (h : s.Meets law) : s.completeReopen.Meets law := by
  have opened : (s.setUnit { s.unit with phase := .opened, rework := s.unit.rework + 1, op := none }).Meets law :=
    h.congr ⟨rfl, rfl, rfl, rfl, rfl⟩
  exact (opened.clearLoopState.writeGiven s.region.committedCode).congr (by constructor <;> simp [State.completeReopen])

/-! ### Rows -/

/-- A count moves a row one column on, with one more of its tallies (R23, R24). -/
theorem State.takeCount_row (s : State) (r : RowInProcess) :
    ∃ outcome updated, (r.row.slice ≠ 15 → updated = false) ∧
      (s.takeCount r).2 = { r with column := r.column + 1, tally := r.tally.count outcome updated } := by
  unfold State.takeCount
  dsimp only
  split
  · rename_i white
    exact ⟨_, _, fun colour => absurd white colour, rfl⟩
  · exact ⟨_, _, fun _ => fineCount_updated .., rfl⟩

/-- The law is kept by one count: it moves one node, or one white node and one zone (R23). -/
theorem State.Meets.takeCount (h : s.Meets law) (r : RowInProcess) : (s.takeCount r).1.Meets law := by
  unfold State.takeCount
  dsimp only
  split
  · refine h.under rfl h.nodes ?_ ?_ (fun _ => .inl)
    · intro w hw
      rcases List.mem_or_eq_of_mem_set hw with hw | rfl
      · exact h.white w hw
      · exact law.white_moved (h.whiteNode _) (whiteStage_recorded ..)
    · intro z hz
      rcases List.mem_or_eq_of_mem_set hz with hz | rfl
      · exact h.zones z hz
      · exact law.zone_moved (h.zone _) (zoneCount_moved ..)
  · exact h.under rfl (h.putNode (fineCount_moved ..)) h.white h.zones (fun _ => .inl)

theorem State.Meets.completeRow (h : s.Meets law) (r : RowInProcess) : (s.completeRow r).Meets law := by
  have freed : ∀ u : State, u.Meets law → (u.setIntake { u.intake with inProcess := none }).Meets law := fun u hu =>
    hu.under rfl hu.nodes hu.white hu.zones (fun _ e => nomatch e)
  have noticed : ∀ q : Sequencer, ∀ tag shown row, (q.notice tag shown row).showNumber = q.showNumber := fun q tag shown row => by
    unfold Sequencer.notice
    (repeat' split) <;> rfl
  unfold State.completeRow
  dsimp only
  split
  · exact (freed _ (h.congr (by constructor <;> simp [noticed]))).takeHeld
  · exact (freed _ (h.congr (by constructor <;> simp [noticed]))).advanceRows

theorem State.Meets.stepRow (h : s.Meets law) : s.stepRow.Meets law := by
  unfold State.stepRow
  split
  · exact h
  · rename_i r row
    have kept := h.takeCount r
    obtain ⟨outcome, updated, colour, counted⟩ := s.takeCount_row r
    dsimp only
    split
    · exact kept.completeRow _
    · rename_i more
      refine ⟨kept.range, kept.nodes, kept.white, kept.zones, fun r' e => ?_⟩
      cases e
      rw [counted] at more ⊢
      exact law.row_counted outcome updated (h.row r row) (Nat.lt_of_not_le more) colour

end

end Sys2Proof.Machine

/-! SUPPORT. A law of single records through every command, resets and start-ups among them. -/

namespace Sys2Proof.Machine
open Sys2Proof

section
variable {law : RecordLaw} {s t : State}

/-! ### Requests -/

/-- A request that leaves grid memory and the intake alone leaves the show number alone. -/
theorem State.takeRequest_keepsShow (s : State) (p : Port) (tag : Byte) {r : Request} (still : movesGrid r = false) :
    (s.takeRequest p tag r).seq.showNumber = s.seq.showNumber := by
  cases r <;> simp only [movesGrid, Bool.true_eq_false] at still <;>
    simp only [State.takeRequest, State.takeStatus, State.takeReadRegion, State.takeKeyFetch, State.takeClose, State.beginCommit,
      State.takeReopen, State.takePartReset, State.takeReadNodes, State.takeReadZones, State.takeArm, State.takeDisarm, State.takeStart,
      State.takeStop, State.takeHalt, State.takeAdvance, State.takePatchAppend, State.takePatchClear, State.takeKeyBegin,
      State.takeKeyChunk, State.takeKeyDiscard, State.takeKeyFix, State.takeKeyWithdraw, State.takeKeyList, State.takeSetCheck,
      State.takeEvaluate, State.replySeq] <;>
    (repeat' split) <;> simp

theorem State.Meets.reply (h : s.Meets law) (p : Port) (kind tag : Byte) (status : Status) (fields : List Byte) :
    (s.reply p kind tag status fields).Meets law := h.congr (by constructor <;> simp)

theorem State.Meets.takeOpen (h : s.Meets law) (tag : Byte) (given : Half) (serial : List Byte) :
    (s.takeOpen tag given serial).Meets law := by
  unfold State.takeOpen
  (repeat' split)
  · exact h.reply ..
  · exact h.reply ..
  · exact h.reply ..
  · exact h.congr (by constructor <;> simp)
  · exact h.reply ..
  · exact (h.enterOpen given.toNat).reply ..

theorem State.Meets.takeSetTuning (h : s.Meets law) (tag : Byte) (fields : TuningFields) : (s.takeSetTuning tag fields).Meets law := by
  unfold State.takeSetTuning
  (repeat' split)
  · exact h.reply ..
  · exact h.reply ..
  · exact (h.retune _).reply ..

theorem State.Meets.takeSetLevels (h : s.Meets law) (tag : Byte) (codes : List Half) : (s.takeSetLevels tag codes).Meets law := by
  have levelled : (s.setGrid { s.grid with levels := codes.map (·.toNat) }).Meets law := h.congr ⟨rfl, rfl, rfl, rfl, rfl⟩
  unfold State.takeSetLevels
  (repeat' split)
  · exact h.reply ..
  · exact h.reply ..
  · exact h.reply ..
  · exact levelled.restartReplying ..

theorem State.Meets.takeSetAims (h : s.Meets law) (tag : Byte) (aims : List Half) : (s.takeSetAims tag aims).Meets law := by
  unfold State.takeSetAims
  split
  · exact h.reply ..
  · exact h.takeOrHold ..

theorem State.Meets.takeSetPin (h : s.Meets law) (tag slice : Byte) (node : Half) (value : Byte) :
    (s.takeSetPin tag slice node value).Meets law := by
  unfold State.takeSetPin
  (repeat' split)
  · exact h.reply ..
  · exact h.reply ..
  · exact h.takeOrHold ..

theorem State.Meets.takeGridRestart (h : s.Meets law) (tag slice : Byte) : (s.takeGridRestart tag slice).Meets law := by
  unfold State.takeGridRestart
  (repeat' split)
  · exact h.reply ..
  · exact h.reply ..
  · exact h.reply ..
  · exact h.restartReplying ..

theorem State.Meets.takeMeasure (h : s.Meets law) (tag patchTag row : Byte) (counts : List Half) :
    (s.takeMeasure tag patchTag row counts).Meets law := by
  unfold State.takeMeasure
  (repeat' split)
  all_goals first
    | exact h.reply ..
    | exact State.Meets.advanceRows (h.congr ⟨rfl, rfl, rfl, rfl, rfl⟩)

theorem State.Meets.takeLoadProfile (h : s.Meets law) (tag slot : Byte) (f : ProfileFields) :
    (s.takeLoadProfile tag slot f).Meets law := by
  have loaded : (s.setRegion { s.region with slots := s.region.slots.set slot.toNat (some (profileGiven f)) }).settleCurrent.Meets law :=
    State.Meets.settleCurrent (h.congr ⟨rfl, rfl, rfl, rfl, rfl⟩)
  unfold State.takeLoadProfile
  (repeat' split)
  · exact h.reply ..
  · exact h.reply ..
  · exact h.reply ..
  · exact h.reply ..
  · exact loaded.reply ..

theorem State.Meets.takeSetRegion (h : s.Meets law) (tag : Byte) (code : Half) : (s.takeSetRegion tag code).Meets law := by
  unfold State.takeSetRegion
  (repeat' split)
  all_goals first
    | exact h.reply ..
    | exact (h.writeGiven code.toNat).reply ..

theorem State.Meets.takeRequest (h : s.Meets law) (p : Port) (tag : Byte) (r : Request) : (s.takeRequest p tag r).Meets law := by
  by_cases still : movesGrid r = false
  · obtain ⟨grid, intake⟩ := s.takeRequest_keepsGrid p tag still
    exact h.congr (.of_grid (s.takeRequest_keepsShow p tag still) grid (by rw [intake]))
  cases r <;> simp only [movesGrid, not_true_eq_false] at still
  case openUnit => exact h.takeOpen ..
  case setTuning => exact h.takeSetTuning ..
  case setLevels => exact h.takeSetLevels ..
  case setAims => exact h.takeSetAims ..
  case setPin => exact h.takeSetPin ..
  case gridRestart => exact h.takeGridRestart ..
  case measure => exact h.takeMeasure ..
  case loadProfile => exact h.takeLoadProfile ..
  case setRegion => exact h.takeSetRegion ..

/-! ### Frame boundaries and markers -/

/-- A display begins under the next show number (R71, R80). -/
theorem Sequencer.beginDisplay_show (q : Sequencer) :
    q.beginDisplay.showNumber = q.showNumber ∨ q.beginDisplay.showNumber = nextShow q.showNumber := by
  unfold Sequencer.beginDisplay
  split
  · exact .inl rfl
  · exact .inr rfl

/-- At a frame boundary the show number stays, or is the next one (R79 to R83). -/
theorem State.sequencerBoundary_show (s : State) :
    s.sequencerBoundary.seq.showNumber = s.seq.showNumber ∨ s.sequencerBoundary.seq.showNumber = nextShow s.seq.showNumber := by
  have does := s.sequencerBoundary_cases
  generalize s.sequencerBoundary = u at does ⊢
  cases does with
  | nothing => exact .inl rfl
  | listEmpty => exact .inl (by simp [State.reportStopped])
  | begins => exact Sequencer.beginDisplay_show { s.seq with startPending := false, state := .running }
  | ends p q reason =>
    rw [State.endPatch_seq]
    split
    · exact .inl rfl
    · exact (s.seq.retire { q with endReason := some reason }).beginDisplay_show
  | counts => exact .inl rfl
  | ready => exact .inl (by simp)

theorem State.Meets.frameBoundary (h : s.Meets law) : s.frameBoundary.Meets law := by
  have row := s.frameBoundary_inProcess
  have grid : s.frameBoundary.grid = s.grid := by simp
  have seq : s.frameBoundary.seq = s.sequencerBoundary.seq := by simp [State.frameBoundary]
  rcases s.sequencerBoundary_show with shown | shown <;> rw [← seq] at shown
  · exact h.congr (.of_grid shown grid row)
  · refine ⟨shown ▸ law.range_next h.range, ?_, by rw [grid]; exact h.white, ?_, by rw [row]; exact h.row⟩ <;> rw [shown, grid]
    · exact fun slice hs n hn => law.node_next h.range (h.nodes slice hs n hn)
    · exact fun z hz => law.zone_next h.range (h.zones z hz)

theorem State.Meets.markerRegion (h : s.Meets law) (m : Marker) : (s.markerRegion m).Meets law := by
  have sensed : (s.senseCode m).Meets law := State.Meets.settleRegion (h.congr (by constructor <;> simp))
  unfold State.markerRegion
  dsimp only
  split
  · exact sensed.congr ⟨rfl, rfl, rfl, rfl, rfl⟩
  · exact h.congr ⟨rfl, rfl, rfl, rfl, rfl⟩

theorem State.Meets.takeMarkerRead (h : s.Meets law) (pixels : List Pixel) : (s.takeMarkerRead pixels).Meets law := by
  have passed : (s.setRegion { s.region with lineArmed := false }).Meets law := h.congr ⟨rfl, rfl, rfl, rfl, rfl⟩
  obtain e | ⟨m, e⟩ | e := s.takeMarkerRead_cases pixels <;> rw [e]
  · exact h
  · generalize s.setRegion { s.region with lineArmed := false } = u at passed
    have presence : (u.markerPresence m).Meets law := passed.congr (by constructor <;> simp)
    exact (presence.markerRegion m).congr (by constructor <;> simp [State.markerAccepted])
  · exact passed.congr (by constructor <;> simp)

theorem State.Meets.beginDue (h : s.Meets law) (meets : Bool) : (s.beginDue meets).Meets law := by
  unfold State.beginDue
  split
  · exact h.beginRow
  · exact h

/-! ### The unit's life -/

theorem State.Meets.takeOpenWrite (h : s.Meets law) (outcome : WriteOutcome) : (s.takeOpenWrite outcome).Meets law := by
  unfold State.takeOpenWrite
  split
  · rename_i tag serial given w _ _
    dsimp only
    split
    · have held : ((s.setNv (s.nv.endWrite outcome)).setUnit { s.unit with serial := some serial, op := none }).Meets law :=
        h.congr ⟨rfl, rfl, rfl, rfl, rfl⟩
      exact (held.enterOpen given).reply ..
    · exact h.congr (by constructor <;> simp)
  · exact h

theorem State.Meets.takeCommitWrite (h : s.Meets law) (outcome : WriteOutcome) : (s.takeCommitWrite outcome).Meets law := by
  unfold State.takeCommitWrite
  split
  · dsimp only
    split
    · split <;> exact h.congr (by constructor <;> simp)
    · have opened : ((s.setNv (s.nv.endWrite outcome)).setUnit { s.unit with phase := .opened, op := none }).Meets law :=
        h.congr ⟨rfl, rfl, rfl, rfl, rfl⟩
      exact opened.settleCurrent.reply ..
  · exact h

theorem State.Meets.takeReopenWrite (h : s.Meets law) (outcome : WriteOutcome) : (s.takeReopenWrite outcome).Meets law := by
  have ended : (s.setNv (s.nv.endWrite outcome)).Meets law := h.congr ⟨rfl, rfl, rfl, rfl, rfl⟩
  unfold State.takeReopenWrite
  split
  · dsimp only
    split
    · exact ended.completeReopen.reply ..
    · exact h.congr (by constructor <;> simp)
  · exact h

/-! ### Resets and start-up (R20, R162) -/

theorem State.volatileReset_meets (cause : ResetCause) (nv : NvStore) (pending : List Instr) (choices : Nat) :
    (State.volatileReset cause nv pending choices).Meets law := by
  refine .cleared rfl ?_ ?_ ?_ nofun
  · intro slice hs n hn
    rw [List.eq_of_mem_replicate hs] at hn
    rw [List.eq_of_mem_replicate hn]
    exact ⟨rfl, rfl⟩
  · intro w hw
    rw [List.eq_of_mem_replicate hw]
    rfl
  · intro z hz
    rw [List.eq_of_mem_replicate hz]
    exact ⟨⟨rfl, rfl⟩, rfl⟩

/-- What start-up loading fills has no loop history, loaded or not (R20, R161). -/
theorem State.startedUp_meets (s : State) (cause : ResetCause) : (s.startedUp cause).Meets law := by
  have fresh : (s.loading cause).Meets law := (State.volatileReset_meets cause s.nv s.pending s.choices).congr ⟨rfl, rfl, rfl, rfl, rfl⟩
  obtain ⟨-, -, -, seq, intake, -⟩ := (s.loading cause).loadMark_frame cause
  obtain ⟨-, ⟨-, grid⟩ | ⟨-, ceiling, grid⟩⟩ := (s.loading cause).loadMark_grid cause
  · have loaded : ((s.loading cause).loadMark cause).Meets law := fresh.congr (.of_grid (by rw [seq]) grid (by rw [intake]))
    exact loaded.congr ⟨rfl, rfl, rfl, rfl, rfl⟩
  · have loaded : ((s.loading cause).loadMark cause).Meets law := by
      refine .cleared (by rw [seq]; rfl) ?_ ?_ ?_ (by rw [intake]; nofun) <;> rw [grid]
      · intro slice hs n hn
        obtain ⟨old, -, rfl⟩ := List.mem_map.mp hs
        obtain ⟨gain, -, rfl⟩ := List.mem_map.mp hn
        exact loadedNode_cleared _ gain
      · intro w hw
        rw [List.eq_of_mem_replicate hw]
        rfl
      · intro z hz
        obtain ⟨trim, -, rfl⟩ := List.mem_map.mp hz
        exact ⟨⟨rfl, rfl⟩, rfl⟩
    exact loaded.congr ⟨rfl, rfl, rfl, rfl, rfl⟩

/-! ### Every command -/

theorem State.Meets.event (h : s.Meets law) {c : Instr} (event : s.Event c t) : t.Meets law := by
  cases event with
  | frameStart lines pixels =>
    obtain ⟨u, e, seq, -, -, grid, intake, -⟩ := s.takeFrameStart_cases (lines.toNat, pixels.toNat)
    have shown : u.seq.showNumber = s.seq.showNumber := by rcases seq with seq | seq <;> rw [seq]
    have before : u.Meets law := h.congr (.of_grid shown grid (by rw [intake]))
    rcases e with e | e <;> rw [e]
    · exact before
    · exact before.frameBoundary
  | gapExpiry =>
    have shown : s.takeGapExpiry.seq.showNumber = s.seq.showNumber := by
      unfold State.takeGapExpiry
      dsimp only
      split
      · split
        · rcases State.loseLock_seq (s.setTiming { s.timing with gapRunning := false, matchCount := 0, reference := none }) with e | e <;>
            rw [e] <;> rfl
        · rfl
      · rfl
    exact h.congr (.of_grid shown (by simp) (by simp))
  | tick =>
    unfold State.takeTick
    split
    · exact h
    · exact h.frameBoundary.congr ⟨rfl, rfl, rfl, rfl, rfl⟩
  | trimSent => exact h.congr (by constructor <;> simp)
  | progress =>
    have row : s.progressExpiry.intake.inProcess = s.intake.inProcess := by
      unfold State.progressExpiry
      dsimp only
      (repeat' split) <;> simp
    exact h.congr (.of_grid (by simp) (by simp) row)
  | marker line => exact (h.takeMarkerRead line.pixels).beginDue line.meets
  | count => exact h.stepRow
  | openWrite outcome => exact h.takeOpenWrite outcome
  | commitWrite outcome => exact h.takeCommitWrite outcome
  | reopenWrite outcome => exact h.takeReopenWrite outcome
  | fixWrite outcome => exact h.congr (by constructor <;> simp)
  | withdrawWrite outcome => exact h.congr (by constructor <;> simp)

theorem State.Meets.arbitrate (h : s.Meets law) : s.arbitrate.Meets law := h.congr (by constructor <;> simp)

/-- Every command keeps a law of single records. -/
theorem exec_keeps_law {c : Instr} (run : exec c s = .next t) (h : s.Meets law) : t.Meets law := by
  cases exec_cases run with
  | nothing => exact h
  | reset source cut command => exact State.volatileReset_meets ..
  | startup cause held command => exact s.startedUp_meets cause
  | requestedReset p running due command => exact State.Meets.arbitrate (State.volatileReset_meets ..)
  | ports u running only => exact (h.congr only.blocks.sameRecords).arbitrate
  | request u p tag r running taken => exact ((h.congr taken.same.blocks.sameRecords).takeRequest p tag r).arbitrate
  | event u running event => exact (h.event event).arbitrate

/-- Every step keeps a law of single records. -/
theorem step_keeps_law (run : step s = .next t) (h : s.Meets law) : t.Meets law := by
  obtain ⟨-, rfl⟩ | ⟨c, rest, -, run⟩ := step_cases run
  · exact h
  · exact exec_keeps_law run (h.congr (t := s.setPending rest) ⟨rfl, rfl, rfl, rfl, rfl⟩)

end

end Sys2Proof.Machine

/-! SUPPORT. The laws of single records: errors (R29), stamps (R26), the row in process (R23, R24). -/

namespace Sys2Proof.Machine
open Sys2Proof

/-! ### Errors (R29, R45) -/

/-- An error recorded of a count is in range (R29). -/
theorem errorLegal_recorded {e e' : Option Int} (h : errorLegal e) (recorded : ErrorRecorded e e') : errorLegal e' := by
  obtain rfl | ⟨aim, m, rfl⟩ := recorded
  · exact h
  · intro x hx
    cases hx
    exact errorOf_bounded aim m

/-- What a zone gathers fits its number of errors, of which it waits for a fourth (R3, R45). -/
def ZoneRec.PendingLegal (z : ZoneRec) : Prop := z.pendingSum.natAbs ≤ 4096 * z.pendingCount ∧ z.pendingCount ≤ 3

theorem ZoneRec.PendingLegal.keptOrEmptied {z z' : ZoneRec} (h : z.PendingLegal) (kept : z.KeptOrEmptied z') : z'.PendingLegal := by
  unfold ZoneRec.PendingLegal
  obtain ⟨sum, count⟩ | ⟨sum, count⟩ := kept <;> rw [sum, count]
  · exact h
  · exact ⟨le_rfl, Nat.zero_le _⟩

theorem ZoneRec.PendingLegal.gathers {z z' : ZoneRec} (h : z.PendingLegal) (gathers : z.Gathers z') : z'.PendingLegal := by
  obtain ⟨more, aim, m, sum, count⟩ := gathers
  obtain ⟨fits, few⟩ := h
  have bounded := errorOf_bounded aim m
  unfold ZoneRec.PendingLegal
  rw [sum, count]
  omega

/-- The law of R29, record by record. -/
def errorsLaw : RecordLaw where
  range _ := True
  node _ n := errorLegal n.lastError
  white w := errorLegal w.lastError
  zone _ z := z.PendingLegal
  row _ := True
  range_zero := trivial
  range_next _ := trivial
  node_next _ h := h
  zone_next _ h := h
  node_cleared _ _ cleared := by rw [cleared.1]; nofun
  zone_cleared _ _ cleared := ZoneRec.PendingLegal.keptOrEmptied (z := .fresh) ⟨le_rfl, Nat.zero_le _⟩ (.inr cleared.1)
  white_cleared none := by rw [none]; nofun
  node_moved h moved := errorLegal_recorded h moved.error
  zone_moved h moved := by
    obtain kept | ⟨opened, kept, gathers⟩ := moved.pending
    · exact h.keptOrEmptied kept
    · exact (h.keptOrEmptied kept).gathers gathers
  white_moved h recorded := errorLegal_recorded h recorded
  row_begun _ _ := trivial
  row_counted _ _ _ _ _ := trivial

theorem State.errorsLegal_iff (s : State) : s.ErrorsLegal ↔ s.Meets errorsLaw :=
  ⟨fun h => ⟨trivial, h.nodes, h.white, h.zones, fun _ _ => trivial⟩, fun h => ⟨h.nodes, h.white, h.zones⟩⟩

/-- The rounded mean of four errors in range is in range (R46). -/
theorem roundDiv_four_bounded {sum : Int} (h : sum.natAbs ≤ 4096 * 4) : (roundDiv sum 4).natAbs ≤ 4096 := by
  obtain ⟨-, -, near⟩ := roundDiv_spec sum (d := 4) (by omega)
  omega

/-! ### Stamps (R26) -/

/-- A stamp that is not ahead stays so when it is set to the show number of the moment (R26). -/
theorem Cell.Stamped.le {now : Nat} {c c' : Cell} (h : c.appliedAt ≤ now) (stamped : c.Stamped now c') : c'.appliedAt ≤ now := by
  obtain same | stamped := stamped
  · rwa [same]
  · exact stamped.le

/-- The show number never falls while it counts (R71). -/
theorem le_nextShow {now stamp : Nat} (range : now ≤ maxShow) (h : stamp ≤ now) : stamp ≤ nextShow now := by
  unfold nextShow
  omega

/-- The law of R26, record by record. -/
def stampsLaw : RecordLaw where
  range now := now ≤ maxShow
  node now n := n.cell.appliedAt ≤ now
  white _ := True
  zone now z := z.cell.appliedAt ≤ now
  row _ := True
  range_zero := Nat.zero_le _
  range_next _ := Nat.min_le_right ..
  node_next := le_nextShow
  zone_next := le_nextShow
  node_cleared _ _ cleared := by rw [cleared.2]; exact Nat.zero_le _
  zone_cleared _ _ cleared := by rw [cleared.2]; exact Nat.zero_le _
  white_cleared _ := trivial
  node_moved h moved := moved.stamp.le h
  zone_moved h moved := moved.stamp.le h
  white_moved _ _ := trivial
  row_begun _ _ := trivial
  row_counted _ _ _ _ _ := trivial

theorem State.stampsLegal_iff (s : State) : s.StampsLegal ↔ s.Meets stampsLaw :=
  ⟨fun h => ⟨h.range, h.nodes, fun _ _ => trivial, h.zones, fun _ _ => trivial⟩, fun h => ⟨h.nodes, h.zones, h.range⟩⟩

/-! ### The row in process (R23, R24) -/

/-- The row's next column is within it, its tallies add up to the counts taken, and a colour row has updated no zone (R23, R24). -/
def RowInProcess.Tallied (r : RowInProcess) : Prop :=
  r.column < 32 ∧ r.tally.applied + r.tally.stale + r.tally.recordedOnly + r.tally.unusable = r.column ∧
    (r.row.slice ≠ 15 → r.tally.zonesUpdated = 0)

/-- A count is one more of its outcome, and one more zone updated when it updated one (R24). -/
theorem Tally.count_sum (t : Tally) (outcome : CountOutcome) (updated : Bool) :
    (t.count outcome updated).applied + (t.count outcome updated).stale + (t.count outcome updated).recordedOnly +
        (t.count outcome updated).unusable = t.applied + t.stale + t.recordedOnly + t.unusable + 1 ∧
      (t.count outcome updated).zonesUpdated = t.zonesUpdated + if updated then 1 else 0 := by
  cases updated <;> cases outcome <;> simp only [Tally.count] <;> simp <;> omega

/-- The law of R23 and R24, of the row in process alone. -/
def talliesLaw : RecordLaw where
  range _ := True
  node _ _ := True
  white _ := True
  zone _ _ := True
  row := RowInProcess.Tallied
  range_zero := trivial
  range_next _ := trivial
  node_next _ _ := trivial
  zone_next _ _ := trivial
  node_cleared _ _ _ := trivial
  zone_cleared _ _ _ := trivial
  white_cleared _ := trivial
  node_moved _ _ := trivial
  zone_moved _ _ := trivial
  white_moved _ _ := trivial
  row_begun column tally := by
    unfold RowInProcess.Tallied
    rw [column, tally]
    exact ⟨by decide, rfl, fun _ => rfl⟩
  row_counted {r} outcome updated h more colour := by
    obtain ⟨-, sum, zones⟩ := h
    obtain ⟨counted, gone⟩ := r.tally.count_sum outcome updated
    refine ⟨more, ?_, fun other => ?_⟩
    · rw [counted, sum]
    · rw [gone, zones other, colour other]
      rfl

theorem State.rowLegal_iff (s : State) : s.RowLegal ↔ s.Meets talliesLaw :=
  ⟨fun h => ⟨trivial, fun _ _ _ _ => trivial, fun _ _ => trivial, fun _ _ => trivial, h⟩, fun h => h.row⟩

end Sys2Proof.Machine

/-! CERTIFICATE. The law of R29 (O55). -/

namespace Sys2Proof
open Sys2Proof.Machine

/-- Settles O55: every step keeps the law of single records that R29 is, and four errors in range have their rounded mean in range. -/
theorem errorsStayInRange : Obligations.ErrorsStayInRange := by
  refine ⟨fun s t run legal => ?_, fun sum => roundDiv_four_bounded⟩
  rw [State.errorsLegal_iff] at legal ⊢
  exact step_keeps_law run legal

end Sys2Proof

/-! SUPPORT. No row waits with the engine idle (R55): what is held and what is queued while no row is in process. -/

namespace Sys2Proof.Machine
open Sys2Proof

section
variable {s t : State}

/-! ### Nothing waits -/

/-- With no row in process nothing is held and nothing is queued (R13, R55). -/
structure State.Served (s : State) : Prop where
  held : s.intake.inProcess = none → s.grid.held = []
  queue : s.intake.inProcess = none → s.intake.queue = []

/-- Outside OPEN, and while a reset is held, the intake is empty. -/
def State.EmptyUnopened (s : State) : Prop :=
  s.unit.phase ≠ .opened ∨ s.power ≠ .running → s.intake.queue = [] ∧ s.intake.inProcess = none

/-- With nothing waiting, no row waits (R55). -/
theorem State.Served.rowsBegin (h : s.Served) (closed : s.EmptyUnopened) : s.RowsBegin :=
  ⟨h.held, fun idle waits => absurd (h.queue idle) waits, closed⟩

/-- With an empty intake and nothing held, nothing waits. -/
theorem State.rowsBegin_of_empty (queue : s.intake.queue = []) (idle : s.intake.inProcess = none) (held : s.grid.held = []) : s.RowsBegin :=
  State.Served.rowsBegin ⟨fun _ => held, fun _ => queue⟩ (fun _ => ⟨queue, idle⟩)

/-- Two states alike in all that the begin of rows speaks of. -/
structure State.SameRows (s t : State) : Prop where
  held : t.grid.held = s.grid.held
  queue : t.intake.queue = s.intake.queue
  row : t.intake.inProcess = s.intake.inProcess
  phase : t.unit.phase = s.unit.phase
  power : t.power = s.power

theorem State.Served.congr (h : s.Served) (held : t.grid.held = s.grid.held) (intake : t.intake = s.intake) : t.Served :=
  ⟨by rw [held, intake]; exact h.held, by rw [intake]; exact h.queue⟩

theorem State.RowsBegin.arbitrate (h : s.RowsBegin) : s.arbitrate.RowsBegin := by
  obtain ⟨held, begun, closed⟩ := h
  exact ⟨by simpa using held, by simpa using begun, by simpa using closed⟩

/-- What leaves the rows alone leaves none waiting. -/
theorem State.SameRows.rowsBegin (same : s.SameRows t) (h : s.Served) (closed : s.EmptyUnopened) : t.RowsBegin := by
  obtain ⟨held, queue, row, phase, power⟩ := same
  refine State.Served.rowsBegin ⟨by rw [held, row]; exact h.held, by rw [queue, row]; exact h.queue⟩ ?_
  unfold State.EmptyUnopened
  rw [queue, row, phase, power]
  exact closed

/-! ### Operations of grid memory and the intake -/

/-- Taking a held item holds nothing anew (R13). -/
theorem State.takeHeldItem_held (s : State) (item : HeldItem) : (s.takeHeldItem item).grid.held = s.grid.held := by
  cases item with
  | setAims => simp [State.takeHeldItem, State.takeAims, Grid.retarget]
  | setPin => simp [State.takeHeldItem, State.takePinReplying, Grid.putNode]
  | ceiling => rfl

/-- Once every held item is taken nothing is held (R13). -/
theorem State.takeHeld_held (s : State) : s.takeHeld.grid.held = [] := by
  have all : ∀ (items : List HeldItem) (u : State), (items.foldl State.takeHeldItem u).grid.held = u.grid.held := by
    intro items
    induction items with
    | nil => exact fun u => rfl
    | cons item rest ih => exact fun u => (ih _).trans (u.takeHeldItem_held item)
  exact all _ _

/-- The begin of the row at the head of the queue leaves none waiting. -/
theorem State.beginRow_served (held : s.grid.held = []) : s.beginRow.Served := by
  unfold State.beginRow
  split
  · rename_i empty
    exact ⟨fun _ => held, fun _ => empty⟩
  · exact ⟨nofun, nofun⟩

/-- After the rows advance nothing waits, whatever did before (R13, R25, R55). -/
theorem State.advanceRows_served (s : State) : s.advanceRows.Served := by
  unfold State.advanceRows
  split
  · rename_i busy
    exact ⟨fun idle => by simp [idle] at busy, fun idle => by simp [idle] at busy⟩
  · exact State.beginRow_served s.takeHeld_held

theorem State.Served.takeOrHold (h : s.Served) (kind tag : Byte) (item : HeldItem) : (s.takeOrHold kind tag item).Served := by
  obtain ⟨-, e⟩ | ⟨busy, -, e⟩ | ⟨-, -, e⟩ := s.takeOrHold_cases kind tag item <;> rw [e]
  · exact h.congr (s.takeHeldItem_held item) (by simp)
  · exact ⟨fun idle => by simp [show s.intake.inProcess = none from idle] at busy, h.queue⟩
  · exact h.congr (by simp) (by simp)

/-- A region change reaches the held items only beside a row in process (R13, R115). -/
theorem State.Served.settleCurrent (h : s.Served) : s.settleCurrent.Served := by
  refine ⟨fun idle => ?_, by simpa using h.queue⟩
  have idle : s.intake.inProcess = none := by simpa using idle
  exact (State.settleCurrent_held idle).trans (h.held idle)

theorem State.Served.settleRegion (h : s.Served) : s.settleRegion.Served :=
  h.settleCurrent.congr (by rw [State.settleRegion_grid]) (by simp)

theorem State.Served.writeGiven (h : s.Served) (code : Nat) : (s.writeGiven code).Served :=
  State.Served.settleRegion (s := s.setRegion { s.region with given := code }) (h.congr rfl rfl)

/-- The entry to OPEN of a part whose intake is empty leaves it so (R166). -/
theorem State.enterOpen_empty (idle : s.intake.inProcess = none) (held : s.grid.held = []) (given : Nat) :
    (s.enterOpen given).intake.queue = [] ∧ (s.enterOpen given).intake.inProcess = none ∧ (s.enterOpen given).grid.held = [] := by
  obtain ⟨grid, -, intake, -⟩ := s.enterOpen_parts given
  rw [grid, intake]
  exact ⟨rfl, rfl, (State.settleCurrent_held (s := s.openedGiven given) idle).trans held⟩

/-! ### Requests -/

theorem State.Served.reply (h : s.Served) (p : Port) (kind tag : Byte) (status : Status) (fields : List Byte) :
    (s.reply p kind tag status fields).Served := h.congr (by simp) (by simp)

theorem State.Served.takeOpen (h : s.Served) (closed : s.EmptyUnopened) (tag : Byte) (given : Half) (serial : List Byte) :
    (s.takeOpen tag given serial).Served := by
  unfold State.takeOpen
  split
  · exact h.reply ..
  rename_i phase
  obtain ⟨-, idle⟩ := closed (.inl (by rintro opened; simp [opened] at phase))
  obtain ⟨queue, -, held⟩ := State.enterOpen_empty idle (h.held idle) given.toNat
  (repeat' split)
  · exact h.reply ..
  · exact h.reply ..
  · exact h.congr (by simp) (by simp)
  · exact h.reply ..
  · exact State.Served.reply ⟨fun _ => held, fun _ => queue⟩ ..

/-- Nothing waits after a request that found nothing waiting. -/
theorem State.Served.takeRequest (h : s.Served) (closed : s.EmptyUnopened) (p : Port) (tag : Byte) (r : Request) :
    (s.takeRequest p tag r).Served := by
  by_cases still : movesGrid r = false
  · obtain ⟨grid, intake⟩ := s.takeRequest_keepsGrid p tag still
    exact h.congr (by rw [grid]) intake
  cases r <;> simp only [movesGrid, not_true_eq_false] at still
  case openUnit => exact h.takeOpen closed ..
  case setTuning =>
    simp only [State.takeRequest, State.takeSetTuning]
    (repeat' split)
    · exact h.reply ..
    · exact h.reply ..
    · exact h.congr (by simp) (by simp)
  case setLevels =>
    simp only [State.takeRequest, State.takeSetLevels]
    (repeat' split)
    · exact h.reply ..
    · exact h.reply ..
    · exact h.reply ..
    · exact State.advanceRows_served _
  case setAims =>
    simp only [State.takeRequest, State.takeSetAims]
    split
    · exact h.reply ..
    · exact h.takeOrHold ..
  case setPin =>
    simp only [State.takeRequest, State.takeSetPin]
    (repeat' split)
    · exact h.reply ..
    · exact h.reply ..
    · exact h.takeOrHold ..
  case gridRestart =>
    simp only [State.takeRequest, State.takeGridRestart]
    (repeat' split)
    · exact h.reply ..
    · exact h.reply ..
    · exact h.reply ..
    · exact State.advanceRows_served _
  case measure =>
    simp only [State.takeRequest, State.takeMeasure]
    (repeat' split)
    all_goals first
      | exact h.reply ..
      | exact State.advanceRows_served _
  case loadProfile slot f =>
    have loaded : (s.setRegion { s.region with slots := s.region.slots.set slot.toNat (some (profileGiven f)) }).settleCurrent.Served :=
      State.Served.settleCurrent (h.congr rfl rfl)
    simp only [State.takeRequest, State.takeLoadProfile]
    (repeat' split)
    · exact h.reply ..
    · exact h.reply ..
    · exact h.reply ..
    · exact h.reply ..
    · exact loaded.reply ..
  case setRegion =>
    simp only [State.takeRequest, State.takeSetRegion]
    (repeat' split)
    all_goals first
      | exact h.reply ..
      | exact (h.writeGiven _).reply ..

/-- No request moves the power. -/
theorem State.takeRequest_power (s : State) (p : Port) (tag : Byte) (r : Request) : (s.takeRequest p tag r).power = s.power := by
  by_cases still : movesUnit r = false
  · exact (s.takeRequest_keepsUnit p tag still).2.1
  · cases r <;> simp only [movesUnit, not_true_eq_false] at still <;>
      simp only [State.takeRequest, State.takeOpen, State.takeClose, State.beginCommit, State.takeReopen, State.takeKeyFix,
        State.takeKeyWithdraw] <;>
      (repeat' split) <;> simp

/-- OPEN either leaves the phase and the intake as they are, or empties the intake as it enters OPEN (R165, R166). -/
theorem State.takeOpen_rows (s : State) (tag : Byte) (given : Half) (serial : List Byte) :
    ((s.takeOpen tag given serial).unit.phase = s.unit.phase ∧ (s.takeOpen tag given serial).intake = s.intake) ∨
      (s.takeOpen tag given serial).intake.queue = [] ∧ (s.takeOpen tag given serial).intake.inProcess = none := by
  obtain ⟨-, -, intake, -⟩ := s.enterOpen_parts given.toNat
  unfold State.takeOpen
  (repeat' split)
  · exact .inl (by simp)
  · exact .inl (by simp)
  · exact .inl (by simp)
  · exact .inl (by simp)
  · exact .inl (by simp)
  · exact .inr (by simp [State.replyOpened, intake])

/-- A granted CLOSE found the intake empty (R167). -/
theorem State.closeRefusal_empty (granted : s.closeRefusal = none) : s.intake.queue = [] ∧ s.intake.inProcess = none := by
  have empty : s.intake.occupancy = 0 := by
    by_contra waits
    unfold State.closeRefusal at granted
    (repeat' split at granted) <;> simp_all
  simpa [Intake.occupancy] using empty

/-- The phase stays through a request, or the intake is empty after it: a granted CLOSE found it so, the entry to OPEN made it so. -/
theorem State.takeRequest_phase (s : State) (p : Port) (tag : Byte) (r : Request) :
    (s.takeRequest p tag r).unit.phase = s.unit.phase ∨
      (s.takeRequest p tag r).intake.queue = [] ∧ (s.takeRequest p tag r).intake.inProcess = none := by
  by_cases still : movesUnit r = false
  · exact .inl (s.takeRequest_keepsUnit p tag still).2.2.1
  cases r <;> simp only [movesUnit, not_true_eq_false] at still
  case openUnit given serial => exact (s.takeOpen_rows tag given serial).imp_left And.left
  case close =>
    simp only [State.takeRequest, State.takeClose]
    split
    · exact .inl (by simp)
    · rename_i granted
      exact .inr (by simpa [State.beginCommit] using State.closeRefusal_empty granted)
  case reopen =>
    simp only [State.takeRequest, State.takeReopen]
    (repeat' split) <;> exact .inl (by simp)
  case keyFix =>
    simp only [State.takeRequest, State.takeKeyFix]
    (repeat' split)
    · exact .inl (by simp)
    · exact .inl (by simp)
    · exact .inl (by simp)
    · exact .inl (by simp)
    · exact .inl (State.nextFixKey_unit _ tag 0).1
  case keyWithdraw =>
    simp only [State.takeRequest, State.takeKeyWithdraw]
    (repeat' split) <;> exact .inl (by simp)

/-- Outside OPEN a request leaves the intake as it is, or empty. -/
theorem State.takeRequest_intake_unopened (phase : s.unit.phase ≠ .opened) (p : Port) (tag : Byte) (r : Request) :
    (s.takeRequest p tag r).intake = s.intake ∨
      (s.takeRequest p tag r).intake.queue = [] ∧ (s.takeRequest p tag r).intake.inProcess = none := by
  by_cases still : movesGrid r = false
  · exact .inl (s.takeRequest_keepsGrid p tag still).2
  cases r <;> simp only [movesGrid, not_true_eq_false] at still
  case openUnit given serial => exact (s.takeOpen_rows tag given serial).imp_left And.right
  all_goals
    left
    simp [State.takeRequest, State.takeSetTuning, State.takeSetLevels, State.takeSetAims, State.takeSetPin, State.takeGridRestart,
      State.takeMeasure, State.takeLoadProfile, State.takeSetRegion, phase]

/-- Outside OPEN no request puts a row into the intake. -/
theorem State.EmptyUnopened.takeRequest (closed : s.EmptyUnopened) (running : s.power = .running) (p : Port) (tag : Byte) (r : Request) :
    (s.takeRequest p tag r).EmptyUnopened := by
  rintro (phase | held)
  · obtain same | empty := s.takeRequest_phase p tag r
    · rw [same] at phase
      obtain same | empty := State.takeRequest_intake_unopened phase p tag r
      · rw [same]
        exact closed (.inl phase)
      · exact empty
    · exact empty
  · exact absurd ((s.takeRequest_power p tag r).trans running) held

end

end Sys2Proof.Machine

/-! SUPPORT. No row waits with the engine idle, through the events and every command (R55, R127). -/

namespace Sys2Proof.Machine
open Sys2Proof

section
variable {s t : State}

/-! ### Frame boundaries, rows and markers -/

/-- A frame boundary leaves the queue of rows alone. -/
theorem State.frameBoundary_queue (s : State) : s.frameBoundary.intake.queue = s.intake.queue := by
  have boundary : s.frameBoundary.intake = s.sequencerBoundary.intake := by simp [State.frameBoundary]
  rw [boundary]
  have does := s.sequencerBoundary_cases
  generalize s.sequencerBoundary = u at does ⊢
  cases does with
  | nothing => rfl
  | listEmpty => simp [State.reportStopped]
  | begins => rfl
  | ends =>
    rw [State.endPatch_progress]
    split <;> rfl
  | counts => rfl
  | ready => simp

theorem State.frameBoundary_sameRows (s : State) : s.SameRows s.frameBoundary :=
  ⟨by simp, s.frameBoundary_queue, s.frameBoundary_inProcess, by simp, by simp⟩

/-- One count touches neither the intake nor what is held. -/
theorem State.takeCount_rows (s : State) (r : RowInProcess) :
    (s.takeCount r).1.intake = s.intake ∧ (s.takeCount r).1.grid.held = s.grid.held ∧ (s.takeCount r).1.pending = s.pending := by
  unfold State.takeCount State.takeWhiteCount State.takeColourCount
  dsimp only
  split <;> simp [Grid.putWhite, Grid.putNode]

/-- A marker read of the same moment stands in front of the queue of commands (R127, log 33). -/
theorem State.markerWaits_iff (s : State) : s.markerWaits = true ↔ ∃ pixels rest, s.pending = .markerRead ⟨pixels, true⟩ :: rest := by
  unfold State.markerWaits
  split
  · rename_i line rest e
    obtain ⟨pixels, meets⟩ := line
    simp [e]
  · rename_i other
    simp only [Bool.false_eq_true, false_iff]
    rintro ⟨pixels, rest, e⟩
    exact other ⟨pixels, true⟩ rest e

/-- The completion of a row leaves none waiting, but beside a marker read of its own moment (R25, R55, R127). -/
theorem State.completeRow_rowsBegin (opened : s.unit.phase = .opened) (running : s.power = .running) (r : RowInProcess) :
    (s.completeRow r).RowsBegin := by
  have closed : (s.completeRow r).EmptyUnopened := by
    rintro (phase | held)
    · exact absurd opened (by simpa using phase)
    · exact absurd running (by simpa using held)
  cases waits : s.markerWaits with
  | true =>
    obtain ⟨pixels, rest, pending⟩ := s.markerWaits_iff.mp waits
    refine ⟨fun _ => ?_, fun _ _ => ⟨pixels, rest, by simpa using pending⟩, closed⟩
    simp [State.completeRow, waits, State.takeHeld_held]
  | false =>
    refine State.Served.rowsBegin ?_ closed
    unfold State.completeRow
    simp only [waits, Bool.false_eq_true, if_false]
    exact State.advanceRows_served _

/-- ROW_COUNT leaves no row waiting, but beside a marker read of the moment of a completion (R55, R127). -/
theorem State.Served.stepRow (h : s.Served) (closed : s.EmptyUnopened) : s.stepRow.RowsBegin := by
  unfold State.stepRow
  split
  · exact h.rowsBegin closed
  · rename_i r row
    obtain ⟨-, power, unit⟩ := s.takeCount_frame r
    have opened : s.unit.phase = .opened := by
      by_contra other
      simp [(closed (.inl other)).2] at row
    have running : s.power = .running := by
      by_contra held
      simp [(closed (.inr held)).2] at row
    dsimp only
    split
    · exact State.completeRow_rowsBegin (by rw [unit]; exact opened) (by rw [power]; exact running) _
    · refine ⟨nofun, nofun, ?_⟩
      rintro (phase | held)
      · exact absurd opened (by simpa [unit] using phase)
      · exact absurd running (by simpa [power] using held)

/-- With no row in process a marker read leaves the held items as they are: the region change it brings is taken (R13, R115). -/
theorem State.takeMarkerRead_held (idle : s.intake.inProcess = none) (pixels : List Pixel) :
    (s.takeMarkerRead pixels).grid.held = s.grid.held := by
  have sensed : ∀ (u : State) (m : Marker), u.intake.inProcess = none → (u.senseCode m).grid.held = u.grid.held := fun u m hu => by
    unfold State.senseCode
    rw [State.settleRegion_grid, State.settleCurrent_held (by simpa using hu)]
    simp
  have region : ∀ (u : State) (m : Marker), u.intake.inProcess = none → (u.markerRegion m).grid.held = u.grid.held := fun u m hu => by
    unfold State.markerRegion
    dsimp only
    split
    · exact sensed u m hu
    · rfl
  obtain e | ⟨m, e⟩ | e := s.takeMarkerRead_cases pixels <;> rw [e]
  · rw [State.markerAccepted, (State.markerIdentity_frame _ m).2.1, region _ _ (by simpa using idle)]
    simp
  · simp

/-- After a marker read no row waits: the row that a completion of its moment left begins, and no other is left (R55, R127). -/
theorem State.markerRead_rowsBegin (held : s.intake.inProcess = none → s.grid.held = []) (closed : s.EmptyUnopened) (pixels : List Pixel)
    {meets : Bool} (due : s.intake.inProcess = none → s.intake.queue ≠ [] → meets = true) :
    ((s.takeMarkerRead pixels).beginDue meets).RowsBegin := by
  have read : ∀ u : State, u.intake = s.intake → u.unit = s.unit → u.power = s.power →
      (u.intake.inProcess = none → u.grid.held = []) → (u.beginDue meets).RowsBegin := by
    intro u intake unit power held
    have begun : (u.beginDue meets).Served := by
      unfold State.beginDue
      split
      · rename_i now
        simp only [Bool.and_eq_true, Option.isNone_iff_eq_none, List.isEmpty_iff] at now
        exact State.beginRow_served now.2
      · rename_i other
        refine ⟨held, fun idle => ?_⟩
        by_contra waits
        have meets := due (by rw [← intake]; exact idle) (by rw [← intake]; exact waits)
        simp [meets, idle, held idle] at other
    refine begun.rowsBegin (fun unopened => ?_)
    have empty := closed (by simpa [State.beginDue_frame, unit, power] using unopened)
    rw [← intake] at empty
    unfold State.beginDue State.beginRow
    split
    · split
      · exact empty
      · rename_i waits
        simp [empty.1] at waits
    · exact empty
  refine read _ (by simp) (by simp) (by simp) (fun idle => ?_)
  have idle : s.intake.inProcess = none := by simpa using idle
  exact (State.takeMarkerRead_held idle pixels).trans (held idle)

/-! ### The unit's life -/

/-- An operation that is carried outside OPEN stands over an empty intake (R158). -/
theorem State.Served.idle_of_unopened (h : s.Served) (closed : s.EmptyUnopened) (phase : s.unit.phase ≠ .opened) :
    s.intake.queue = [] ∧ s.intake.inProcess = none ∧ s.grid.held = [] := by
  obtain ⟨queue, idle⟩ := closed (.inl phase)
  exact ⟨queue, idle, h.held idle⟩

theorem State.Served.takeOpenWrite (h : s.Served) (closed : s.EmptyUnopened) (ops : s.OpsAgree) (outcome : WriteOutcome) :
    (s.takeOpenWrite outcome).RowsBegin := by
  unfold State.takeOpenWrite
  split
  · rename_i tag serial given w op write
    have blank : s.unit.phase = .blank := by simpa [UnitPhase.suits, op] using ops.phase
    obtain ⟨queue, idle, held⟩ := h.idle_of_unopened closed (by simp [blank])
    dsimp only
    split
    · obtain ⟨queue, idle, held⟩ := State.enterOpen_empty
        (s := (s.setNv (s.nv.endWrite outcome)).setUnit { s.unit with serial := some serial, op := none }) idle held given
      exact State.rowsBegin_of_empty (by simpa [State.replyOpened] using queue) (by simpa [State.replyOpened] using idle)
        (by simpa [State.replyOpened] using held)
    · exact State.rowsBegin_of_empty (by simpa using queue) (by simpa using idle) (by simpa using held)
  · exact h.rowsBegin closed

theorem State.Served.takeCommitWrite (h : s.Served) (closed : s.EmptyUnopened) (ops : s.OpsAgree) (outcome : WriteOutcome) :
    (s.takeCommitWrite outcome).RowsBegin := by
  unfold State.takeCommitWrite
  split
  · rename_i tag step w op write
    obtain ⟨closing, -⟩ := ops.commit op
    obtain ⟨queue, idle, held⟩ := h.idle_of_unopened closed (by simp [closing])
    dsimp only
    (repeat' split)
    · exact State.rowsBegin_of_empty (by simpa using queue) (by simpa using idle) (by simpa using held)
    · exact State.rowsBegin_of_empty (by simpa using queue) (by simpa using idle) (by simpa using held)
    · refine State.rowsBegin_of_empty (by simpa using queue) (by simpa using idle) ?_
      rw [State.failCommit, (State.reply_frame ..).2.1]
      exact (State.settleCurrent_held (by simpa using idle)).trans held
  · exact h.rowsBegin closed

theorem State.Served.takeReopenWrite (h : s.Served) (closed : s.EmptyUnopened) (ops : s.OpsAgree) (outcome : WriteOutcome) :
    (s.takeReopenWrite outcome).RowsBegin := by
  unfold State.takeReopenWrite
  split
  · rename_i tag w op write
    have phase : s.unit.phase = .closed := by simpa [UnitPhase.suits, op] using ops.phase
    obtain ⟨queue, idle, held⟩ := h.idle_of_unopened closed (by simp [phase])
    dsimp only
    split
    · refine State.rowsBegin_of_empty (by simpa [State.completeReopen] using queue) (by simpa [State.completeReopen] using idle) ?_
      rw [(State.reply_frame ..).2.1, State.completeReopen, (State.setMode_frame ..).2.1, State.writeGiven, State.settleRegion_grid]
      exact (State.settleCurrent_held (by simpa using idle)).trans held
    · exact State.rowsBegin_of_empty (by simpa using queue) (by simpa using idle) (by simpa using held)
  · exact h.rowsBegin closed

/-- The completions of the key table's writes leave the phase (R137 to R139). -/
theorem State.takeFixWrite_phase (s : State) (outcome : WriteOutcome) : (s.takeFixWrite outcome).unit.phase = s.unit.phase := by
  unfold State.takeFixWrite
  split
  · split
    · dsimp only
      split
      · unfold State.fixVerified
        split
        · simp [State.beginFixStep]
        · simp [State.beginFixStep]
        · simp [State.beginFixStep]
        · exact (State.nextFixKey_unit _ _ _).1
      · simp [State.failFix]
    · rfl
  · rfl

theorem State.takeWithdrawWrite_phase (s : State) (outcome : WriteOutcome) : (s.takeWithdrawWrite outcome).unit.phase = s.unit.phase := by
  unfold State.takeWithdrawWrite
  dsimp only
  (repeat' split) <;> simp

/-! ### Every command -/

/-- The events of the blocks behind the ports leave no row waiting that found none (R55). -/
theorem State.Served.event (h : s.Served) (closed : s.EmptyUnopened) (ops : s.OpsAgree) {c : Instr} (event : s.Event c t) :
    t.RowsBegin := by
  cases event with
  | frameStart lines pixels =>
    obtain ⟨u, e, -, -, power, grid, intake, -, -, -, -, unit, -⟩ := s.takeFrameStart_cases (lines.toNat, pixels.toNat)
    have before : s.SameRows u := ⟨by rw [grid], by rw [intake], by rw [intake], by rw [unit], power⟩
    rcases e with e | e <;> rw [e]
    · exact before.rowsBegin h closed
    · obtain ⟨held, queue, row, phase, power⟩ := u.frameBoundary_sameRows
      exact State.SameRows.rowsBegin ⟨held.trans before.held, queue.trans before.queue, row.trans before.row, phase.trans before.phase,
        power.trans before.power⟩ h closed
  | gapExpiry => exact State.SameRows.rowsBegin (by constructor <;> simp) h closed
  | tick =>
    unfold State.takeTick
    split
    · exact h.rowsBegin closed
    · obtain ⟨held, queue, row, phase, power⟩ := s.frameBoundary_sameRows
      exact State.SameRows.rowsBegin ⟨held, queue, row, phase, power⟩ h closed
  | trimSent => exact State.SameRows.rowsBegin (by constructor <;> simp) h closed
  | progress =>
    have rows : s.progressExpiry.intake.queue = s.intake.queue ∧ s.progressExpiry.intake.inProcess = s.intake.inProcess := by
      unfold State.progressExpiry
      dsimp only
      (repeat' split) <;> simp
    exact State.SameRows.rowsBegin ⟨by simp, rows.1, rows.2, by simp, by simp⟩ h closed
  | marker line => exact State.markerRead_rowsBegin h.held closed line.pixels (fun idle waits => absurd (h.queue idle) waits)
  | count => exact h.stepRow closed
  | openWrite outcome => exact h.takeOpenWrite closed ops outcome
  | commitWrite outcome => exact h.takeCommitWrite closed ops outcome
  | reopenWrite outcome => exact h.takeReopenWrite closed ops outcome
  | fixWrite outcome =>
    exact State.SameRows.rowsBegin ⟨by simp, by simp, by simp, s.takeFixWrite_phase outcome, by simp⟩ h closed
  | withdrawWrite outcome =>
    exact State.SameRows.rowsBegin ⟨by simp, by simp, by simp, s.takeWithdrawWrite_phase outcome, by simp⟩ h closed

/-- Start-up loading leaves an empty intake (R161). -/
theorem State.startedUp_rowsBegin (s : State) (cause : ResetCause) : (s.startedUp cause).RowsBegin := by
  obtain ⟨intake, grid⟩ := (s.loading cause).loadMark_grid cause
  have held : ((s.loading cause).loadMark cause).grid.held = [] := by
    obtain ⟨-, grid⟩ | ⟨-, ceiling, grid⟩ := grid <;> rw [grid] <;> rfl
  exact State.rowsBegin_of_empty (congrArg Intake.queue intake) (congrArg Intake.inProcess intake) held

/-- Every command leaves no row waiting that found none, but beside a marker read of the moment of a completion (R55, R127). -/
theorem exec_keeps_served {c : Instr} (run : exec c s = .next t) (ops : s.OpsAgree) (h : s.Served) (closed : s.EmptyUnopened) :
    t.RowsBegin := by
  cases exec_cases run with
  | nothing => exact h.rowsBegin closed
  | reset source cut command => exact State.rowsBegin_of_empty rfl rfl rfl
  | startup cause held command => exact s.startedUp_rowsBegin cause
  | requestedReset p running due command => exact State.RowsBegin.arbitrate (State.rowsBegin_of_empty rfl rfl rfl)
  | ports u running only =>
    obtain ⟨power, grid, intake, -, -, -, -, -, -, -, unit, -⟩ := only.blocks
    exact State.RowsBegin.arbitrate (State.SameRows.rowsBegin ⟨by rw [grid], by rw [intake], by rw [intake], by rw [unit], power⟩ h closed)
  | request u p tag r running taken =>
    obtain ⟨power, grid, intake, -, -, -, -, -, -, -, unit, -⟩ := taken.same.blocks
    have served : u.Served := h.congr (by rw [grid]) intake
    have empty : u.EmptyUnopened := by
      unfold State.EmptyUnopened
      rw [intake, unit, power]
      exact closed
    exact ((served.takeRequest empty p tag r).rowsBegin (empty.takeRequest (power.trans running) p tag r)).arbitrate
  | event u running event => exact (h.event closed ops event).arbitrate

/-- A marker read of a running part is taken, and then the row begins that it was due to (R119, R127). -/
theorem exec_markerRead (running : s.power = .running) {pixels : List Pixel} (count : pixels.length = 768) (meets : Bool) :
    exec (.markerRead ⟨pixels, meets⟩) s = .next ((s.takeMarkerRead pixels).beginDue meets).arbitrate := by
  show execMarkerRead ⟨pixels, meets⟩ s = _
  rw [execMarkerRead, if_pos count, State.event_running running]

/-- Every step leaves no row waiting with the engine idle, but beside a marker read of the moment of a completion (R55, R127). -/
theorem step_keeps_rowsBegin (run : step s = .next t) (ops : s.OpsAgree) (h : s.RowsBegin) : t.RowsBegin := by
  obtain ⟨-, rfl⟩ | ⟨c, rest, pending, run⟩ := step_cases run
  · exact h
  obtain ⟨held, begun, closed⟩ := h
  by_cases waits : s.intake.inProcess = none ∧ s.intake.queue ≠ []
  · obtain ⟨idle, queue⟩ := waits
    obtain ⟨pixels, rest', front⟩ := begun idle queue
    have running : s.power = .running := by
      by_contra off
      exact queue (closed (.inr off)).1
    rw [pending] at front
    cases front
    by_cases count : pixels.length = 768
    · rw [exec_markerRead (s := s.setPending rest) running count, Host.Outcome.next.injEq] at run
      exact run ▸ State.RowsBegin.arbitrate (State.markerRead_rowsBegin (s := s.setPending rest) held closed pixels (fun _ _ => rfl))
    · simp [exec, execMarkerRead, count] at run
  · have agree : (s.setPending rest).OpsAgree := ⟨ops.keys, ops.phase, ops.write, ops.reset, ops.held⟩
    refine exec_keeps_served run agree ⟨held, fun idle => ?_⟩ closed
    by_contra queue
    exact waits ⟨idle, queue⟩

end

end Sys2Proof.Machine

/-! CERTIFICATE. Stamps, tallies and waiting rows (O56). -/

namespace Sys2Proof
open Sys2Proof.Machine

/-- Settles O56: R26 and R24 are laws of single records; R55 goes through the cases of `exec`, a marker read of the moment of a completion
apart. -/
theorem stampsAndTalliesKeepStep : Obligations.StampsAndTalliesKeepStep := by
  refine ⟨fun s t run legal => ?_, fun s t run legal => ?_, fun s t run ops rows => step_keeps_rowsBegin run ops rows⟩
  · rw [State.stampsLegal_iff] at legal ⊢
    exact step_keeps_law run legal
  · rw [State.rowLegal_iff] at legal ⊢
    exact step_keeps_law run legal

end Sys2Proof

/-! SUPPORT. The arithmetic of the loop: rounding, the error of a count, the shaped loop gain, and one update's value and stamp (R29, R32 to
R38, R46). -/

namespace Sys2Proof.Machine
open Sys2Proof

/-! ### Rounding (00 "Rounding") -/

/-- A rounded quotient that misses its numerator by half the divisor is the one farther from zero. -/
theorem roundDiv_tie (n : Int) {d : Nat} (h : 0 < d) (tie : 2 * (roundDiv n d * d - n).natAbs = d) :
    n.natAbs < (roundDiv n d * d).natAbs := by
  have low := Nat.div_mul_le_self (2 * n.natAbs + d) (2 * d)
  have high := Nat.lt_div_mul_add (a := 2 * n.natAbs + d) (b := 2 * d) (by omega)
  unfold roundDiv at tie ⊢
  generalize (2 * n.natAbs + d) / (2 * d) = q at *
  have double : q * (2 * d) = 2 * (q * d) := by ring
  have cast : ((q * d : Nat) : Int) = (q : Int) * d := by push_cast; rfl
  rw [double] at low high
  dsimp only at tie ⊢
  split at tie
  · rename_i negative
    rw [if_pos negative]
    rw [show -(q : Int) * d = -((q * d : Nat) : Int) by rw [cast]; ring] at tie ⊢
    omega
  · rename_i positive
    rw [if_neg positive]
    rw [← cast] at tie ⊢
    omega

/-- A whole quotient is its own rounding. -/
theorem roundDiv_whole (x : Int) {d : Nat} (h : 0 < d) : roundDiv (x * d) d = x := by
  obtain ⟨-, -, near⟩ := roundDiv_spec (x * d) h
  rw [← sub_mul, Int.natAbs_mul, Int.natAbs_natCast] at near
  have none : (roundDiv (x * d) d - x).natAbs = 0 := by
    by_contra some
    have : 1 * d ≤ (roundDiv (x * d) d - x).natAbs * d := Nat.mul_le_mul_right d (by omega)
    omega
  omega

/-- Rounding keeps a whole bound: a numerator up to `x` times the divisor rounds to `x` at most. -/
theorem roundDiv_le {n x : Int} {d : Nat} (h : 0 < d) (bound : n ≤ x * d) : roundDiv n d ≤ x := by
  obtain ⟨-, -, near⟩ := roundDiv_spec n h
  by_contra above
  have : (x + 1) * d ≤ roundDiv n d * d := mul_le_mul_of_nonneg_right (by omega) (by omega)
  rw [add_mul, one_mul] at this
  omega

theorem le_roundDiv {n x : Int} {d : Nat} (h : 0 < d) (bound : x * d ≤ n) : x ≤ roundDiv n d := by
  obtain ⟨-, -, near⟩ := roundDiv_spec n h
  by_contra below
  have : roundDiv n d * d ≤ (x - 1) * d := mul_le_mul_of_nonneg_right (by omega) (by omega)
  rw [sub_mul, one_mul] at this
  omega

/-! ### The error of a count (R29) -/

section
variable {aim m : Nat}

/-- Up to twice the aim the error is the rounded shortfall, which its limits never cut (R29). -/
theorem errorOf_eq_roundDiv (positive : 1 ≤ aim) (h : m ≤ 2 * aim) : errorOf aim m = roundDiv (((aim : Int) - m) * 4096) aim := by
  have low : -4096 ≤ roundDiv (((aim : Int) - m) * 4096) aim := le_roundDiv positive (by omega)
  have high : roundDiv (((aim : Int) - m) * 4096) aim ≤ 4096 := roundDiv_le positive (by omega)
  exact (clampInt_cases _ (by omega)).2.2 low high

/-- From twice the aim on the error is the least there is (R29). -/
theorem errorOf_far (positive : 1 ≤ aim) (h : 2 * aim ≤ m) : errorOf aim m = -4096 := by
  have low : roundDiv (((aim : Int) - m) * 4096) aim ≤ -4096 := roundDiv_le positive (by omega)
  obtain ⟨below, -, within⟩ := clampInt_cases (lo := -4096) (hi := 4096) (roundDiv (((aim : Int) - m) * 4096) aim) (by omega)
  unfold errorOf
  rcases low.lt_or_eq with low | least
  · exact below low
  · rw [within (by omega) (by omega), least]

/-- A count at the aim has no error (R29). -/
theorem errorOf_aim (positive : 1 ≤ aim) : errorOf aim aim = 0 := by
  rw [errorOf_eq_roundDiv positive (by omega), show ((aim : Int) - aim) * 4096 = 0 * aim by ring]
  exact roundDiv_whole 0 positive

/-- A count of nothing has the greatest error (R29). -/
theorem errorOf_zero (positive : 1 ≤ aim) : errorOf aim 0 = 4096 := by
  rw [errorOf_eq_roundDiv positive (by omega), show ((aim : Int) - (0 : Nat)) * 4096 = 4096 * aim by push_cast; ring]
  exact roundDiv_whole 4096 positive

/-- The error has the sign of the shortfall (R29). -/
theorem errorOf_sign (positive : 1 ≤ aim) : (m < aim → 0 ≤ errorOf aim m) ∧ (aim < m → errorOf aim m ≤ 0) := by
  obtain ⟨nonneg, nonpos, -⟩ := roundDiv_spec (((aim : Int) - m) * 4096) positive
  refine ⟨fun short => ?_, fun beyond => ?_⟩
  · rw [errorOf_eq_roundDiv positive (by omega)]
    exact nonneg (by omega)
  · by_cases near : m ≤ 2 * aim
    · rw [errorOf_eq_roundDiv positive near]
      exact nonpos (by omega)
    · rw [errorOf_far positive (by omega)]
      omega

end

/-! ### The shaped loop gain (R33, R46) -/

section
variable (p : LoopParams) (magnitude : Nat)

/-- What the shaped gain takes off the gain: nothing from 2F up, the whole reduction up to F, its share of the way from 2F between (R33). -/
def gainReduction : Nat :=
  if 2 * p.fineBand ≤ magnitude then 0
  else if p.fineBand < magnitude then p.reduction * (2 * p.fineBand - magnitude) / p.fineBand
  else p.reduction

/-- The shaped gain is the gain less that, and 1 at least (R33, R46). -/
theorem shapedGain_eq : shapedGain p magnitude = max 1 (p.gain - gainReduction p magnitude) := by
  unfold shapedGain gainReduction
  dsimp only
  (repeat' split) <;> omega

/-- The share of the reduction is the whole of it at most (R33). -/
theorem gainReduction_le : gainReduction p magnitude ≤ p.reduction := by
  unfold gainReduction
  split
  · exact Nat.zero_le _
  split
  · rename_i above
    exact Nat.div_le_of_le_mul (by rw [Nat.mul_comm]; exact Nat.mul_le_mul_right _ (by omega))
  · exact le_rfl

/-- The shaped gain lies between 1 and the gain (R33, R46). -/
theorem shapedGain_bounds (positive : 1 ≤ p.gain) : 1 ≤ shapedGain p magnitude ∧ shapedGain p magnitude ≤ p.gain := by
  rw [shapedGain_eq]
  omega

/-- The three bands (R33). -/
theorem gainReduction_bands (band : 1 ≤ p.fineBand) :
    (2 * p.fineBand ≤ magnitude → gainReduction p magnitude = 0) ∧ (magnitude ≤ p.fineBand → gainReduction p magnitude = p.reduction) ∧
      (p.fineBand < magnitude → magnitude < 2 * p.fineBand →
        gainReduction p magnitude = p.reduction * (2 * p.fineBand - magnitude) / p.fineBand) := by
  unfold gainReduction
  refine ⟨fun far => if_pos far, fun near => ?_, fun above below => ?_⟩
  · rw [if_neg (by omega), if_neg (by omega)]
  · rw [if_neg (by omega), if_pos above]

end

/-! ### One update (R32 to R38) -/

section
variable (p : LoopParams) (showNow : Nat) (e : Int) (c : Cell)

/-- The step has the sign of the error, and is a unit at least outside the lock window (R35). -/
theorem stepOf_sign (value gain : Nat) :
    (0 ≤ e → 0 ≤ stepOf p value e gain) ∧ (e ≤ 0 → stepOf p value e gain ≤ 0) ∧
      (p.lockWindow < e.natAbs → 0 < e → 1 ≤ stepOf p value e gain) ∧ (p.lockWindow < e.natAbs → e < 0 → stepOf p value e gain ≤ -1) := by
  obtain ⟨nonneg, nonpos, -⟩ := roundDiv_spec (e * value * gain) (d := 262144) (by omega)
  have up : 0 ≤ e → 0 ≤ roundDiv (e * value * gain) 262144 := fun h => nonneg (by positivity)
  have down : e ≤ 0 → roundDiv (e * value * gain) 262144 ≤ 0 := fun h =>
    nonpos (mul_nonpos_of_nonpos_of_nonneg (mul_nonpos_of_nonpos_of_nonneg h (by omega)) (by omega))
  unfold stepOf
  dsimp only
  generalize roundDiv (e * value * gain) 262144 = rounded at up down
  rcases lt_trichotomy e 0 with h | h | h
  · have := down h.le
    rw [Int.sign_eq_neg_one_of_neg h]
    split <;> omega
  · subst h
    have := up le_rfl
    have := down le_rfl
    simp
    omega
  · have := up h.le
    rw [Int.sign_eq_one_of_pos h]
    split <;> omega

/-- The value an update leaves is the target within the limits: it moves with the step, and stays only at a limit or at a step of nothing
(R36). -/
theorem loopUpdate_moves (low : p.low ≤ c.value) (high : c.value ≤ p.high) :
    (0 ≤ stepOf p c.value e (effectiveGain p c e) → c.value ≤ (loopUpdate p showNow e c).value) ∧
      (stepOf p c.value e (effectiveGain p c e) ≤ 0 → (loopUpdate p showNow e c).value ≤ c.value) ∧
      (1 ≤ stepOf p c.value e (effectiveGain p c e) → c.value < p.high → c.value < (loopUpdate p showNow e c).value) ∧
      (stepOf p c.value e (effectiveGain p c e) ≤ -1 → p.low < c.value → (loopUpdate p showNow e c).value < c.value) := by
  obtain ⟨below, above, within⟩ := loopUpdate_value p showNow e c (low.trans high)
  have target : loopTarget p c e = c.value + stepOf p c.value e (effectiveGain p c e) := rfl
  rw [target] at below above within
  generalize stepOf p c.value e (effectiveGain p c e) = step at below above within
  rcases lt_or_ge ((c.value : Int) + step) p.low with under | inside
  · obtain ⟨value, -⟩ := below under
    omega
  rcases lt_or_ge (p.high : Int) (c.value + step) with beyond | inside'
  · obtain ⟨value, -⟩ := above beyond
    omega
  · obtain ⟨value, -⟩ := within inside inside'
    omega

/-- An update stamps the cell exactly when its value changes (R26). -/
theorem loopUpdate_appliedAt :
    (loopUpdate p showNow e c).appliedAt = if (loopUpdate p showNow e c).value = c.value then c.appliedAt else showNow := rfl

end

end Sys2Proof.Machine

/-! CERTIFICATE. The error formula and the shaped loop gain (O19), and an applied update (O20). -/

namespace Sys2Proof
open Sys2Proof.Machine

/-- Settles O19: the error by its limits and the rounding, the shaped gain by what it takes off the gain. -/
theorem errorAndLoopGainAreBounded : Obligations.ErrorAndLoopGainAreBounded := by
  refine ⟨fun aim m positive _ _ => ?_, fun n d positive => ?_, fun t e legal => ?_⟩
  · obtain ⟨short, beyond⟩ := errorOf_sign (m := m) positive
    refine ⟨errorOf_bounded aim m, fun h => by rw [h, errorOf_aim positive], short, beyond, fun h => by rw [h, errorOf_zero positive],
      fun near => ?_, fun far => errorOf_far positive far.le⟩
    rw [errorOf_eq_roundDiv positive near]
    exact ⟨(roundDiv_spec _ positive).2.2, roundDiv_tie _ positive⟩
  · exact ⟨(roundDiv_spec n positive).2.2, roundDiv_tie n positive⟩
  · have fine := shapedGain_bounds t.fineLoop e legal.k.1
    have zone := shapedGain_bounds t.zoneLoop e legal.kz.1
    have less : gainReduction t.fineLoop e < t.k := by
      have le : gainReduction t.fineLoop e ≤ min t.kr (t.k - 1) := gainReduction_le t.fineLoop e
      have := legal.k.1
      omega
    have fineEq : shapedGain t.fineLoop e = t.k - gainReduction t.fineLoop e := by
      rw [shapedGain_eq]
      exact max_eq_right (Nat.sub_pos_of_lt less)
    have zoneEq : shapedGain t.zoneLoop e = max 1 (t.kz - gainReduction t.zoneLoop e) := shapedGain_eq ..
    obtain ⟨fineFar, fineNear, fineBetween⟩ := gainReduction_bands t.fineLoop e legal.fineBand.1
    obtain ⟨zoneFar, zoneNear, zoneBetween⟩ := gainReduction_bands t.zoneLoop e legal.fineBand.1
    refine ⟨fine.1, fine.2, fun far => ?_, fun near => ?_, fun above below => ?_, zone.1, zone.2, fun far => ?_, fun above below => ?_,
      fun near => ?_⟩
    · rw [fineEq, fineFar far, Nat.sub_zero]
    · rw [fineEq, fineNear near]
      rfl
    · rw [fineEq, fineBetween above below]
      rfl
    · rw [zoneEq, zoneFar far, Nat.sub_zero]
      exact max_eq_right legal.kz.1
    · rw [zoneEq, zoneBetween above below]
      rfl
    · rw [zoneEq, zoneNear near]
      rfl

/-- Settles O20: the step has the error's sign, and the value moves with it up to the limits. -/
theorem updateMovesTowardTheAim : Obligations.UpdateMovesTowardTheAim := by
  intro p showNow e c limits low high _
  obtain ⟨within, -, free⟩ := loopUpdate_spec showNow e c limits
  obtain ⟨up, down, upOne, downOne⟩ := stepOf_sign p e c.value (effectiveGain p c e)
  obtain ⟨rises, falls, risesOne, fallsOne⟩ := loopUpdate_moves p showNow e c low high
  have stamp := loopUpdate_appliedAt p showNow e c
  refine ⟨within.1, within.2, fun h => rises (up h), fun h => falls (down h), fun out h room => risesOne (upOne out h) room,
    fun out h room => fallsOne (downOne out h) room, fun same => ?_, fun moved => ?_, free⟩
  · rw [stamp, if_pos same]
  · rw [stamp, if_neg moved]

end Sys2Proof

/-! SUPPORT. What one count does to a node, a white node and a zone, case by case (R27 to R31, R42 to R46). -/

namespace Sys2Proof.Machine
open Sys2Proof

/-! ### A colour count (R27 to R31) -/

section
variable (t : Tuning) (aim rowShow showNow m : Nat) (n : NodeRec)

/-- An unusable count changes nothing (R27). -/
theorem fineCount_unusable :
    fineCount t aim rowShow showNow 65535 n = { after := n, outcome := .unusable, clamped := false, updated := false } := rfl

variable {m}

/-- Under an aim of 0 a count is measured alone (R28). -/
theorem fineCount_unaimed (usable : m < 65535) :
    fineCount t 0 rowShow showNow m n =
      { after := { n with lastMeasured := some m }, outcome := .recordedOnly, clamped := false, updated := false } := by
  rw [fineCount, if_neg usable.ne, if_pos rfl]

variable {aim}

/-- A usable count under an aim finds its node idle, newer, or ready for an update (R30, R31). -/
theorem fineCount_aimed (usable : m < 65535) (aimed : aim ≠ 0) :
    fineCount t aim rowShow showNow m n =
      if n.cell.state = .stalled ∨ n.cell.state = .pinned then
        { after := { n with lastMeasured := some m, lastError := some (errorOf aim m) }, outcome := .recordedOnly, clamped := false,
          updated := false }
      else if n.cell.appliedAt < rowShow then
        { after :=
            { n with
              lastMeasured := some m
              lastError := some (errorOf aim m)
              cell := loopUpdate t.fineLoop showNow (errorOf aim m) n.cell }
          outcome := .applied
          clamped := loopClamped t.fineLoop n.cell (errorOf aim m)
          updated := false }
      else
        { after := { n with lastMeasured := some m, lastError := some (errorOf aim m) }, outcome := .stale, clamped := false,
          updated := false } := by
  rw [fineCount, if_neg usable.ne, if_neg aimed]

end

/-- A cell that moves is neither STALLED nor PINNED (R4). -/
theorem CellState.free_of_moving {state : CellState} (moving : state = .seeking ∨ state = .locked) :
    ¬ (state = .stalled ∨ state = .pinned) := by
  rcases moving with rfl | rfl <;> simp

/-- A step clamped at a limit is what an update's saturated flag says (R36). -/
theorem loopUpdate_saturated (p : LoopParams) (showNow : Nat) (e : Int) (c : Cell) :
    (loopUpdate p showNow e c).saturated = loopClamped p c e := rfl

/-! ### A white count (R42 to R46) -/

section
variable (t : Tuning) (aim rowShow showNow m : Nat) (z : ZoneRec)

/-- A usable count under an aim of 0 leaves the zone alone (R44). -/
theorem zoneCount_unaimed {m : Nat} (usable : m < 65535) (phase : GridPhase) :
    zoneCount t phase 0 rowShow showNow m z = { after := z, outcome := .recordedOnly, clamped := false, updated := false } := by
  rw [zoneCount, if_pos ⟨usable.ne, rfl⟩]

variable {aim m}

/-- In phase FINE no white count touches a zone (R43). -/
theorem zoneCount_fine (counts : m = 65535 ∨ aim ≠ 0) :
    zoneCount t .fine aim rowShow showNow m z =
      { after := z, outcome := if m = 65535 then .unusable else .recordedOnly, clamped := false, updated := false } := by
  rw [zoneCount, if_neg (by rintro ⟨usable, none⟩; exact counts.elim usable (· none)), if_pos rfl]

/-- In phase COARSE every other count reaches the zone stage (R44). -/
theorem zoneCount_coarse (counts : m = 65535 ∨ aim ≠ 0) :
    zoneCount t .coarse aim rowShow showNow m z =
      zoneStage t rowShow showNow (if m = 65535 then none else some (errorOf aim m)) z := by
  rw [zoneCount, if_neg (by rintro ⟨usable, none⟩; exact counts.elim usable (· none)), if_neg (by simp)]

/-- A count is outdated by the zone's stamp or by a newer pending set (R44). -/
theorem ZoneRec.outdated_iff :
    z.outdated rowShow = true ↔ rowShow ≤ z.cell.appliedAt ∨ ∃ pending, z.pendingShow = some pending ∧ rowShow < pending := by
  unfold ZoneRec.outdated
  cases z.pendingShow <;> simp

/-- Settling the pending set leaves the zone's cell (R44). -/
theorem ZoneRec.settled_cell : (z.settled rowShow).cell = z.cell := by
  unfold ZoneRec.settled
  split <;> rfl

variable (reading : Option Int)

/-- A STALLED zone takes no count (R44). -/
theorem zoneStage_stalled (stalled : z.cell.state = .stalled) :
    zoneStage t rowShow showNow reading z =
      { after := z, outcome := if reading.isSome then .recordedOnly else .unusable, clamped := false, updated := false } := by
  rw [zoneStage, if_pos (.inl stalled)]

variable {z} (moving : ¬ (z.cell.state = .stalled ∨ z.cell.state = .pinned))
include moving

/-- An outdated count leaves the zone as it is (R44). -/
theorem zoneStage_outdated (outdated : z.outdated rowShow = true) :
    zoneStage t rowShow showNow reading z =
      { after := z, outcome := if reading.isSome then .stale else .unusable, clamped := false, updated := false } := by
  rw [zoneStage, if_neg moving, if_pos outdated]

variable {rowShow} (recent : ¬ z.outdated rowShow = true)
include recent

/-- An unusable count marks the pending set short (R45). -/
theorem zoneStage_unusable :
    zoneStage t rowShow showNow none z =
      { after := { z.settled rowShow with pendingShort := true }, outcome := .unusable, clamped := false, updated := false } := by
  rw [zoneStage, if_neg moving, if_neg recent]
  rfl

/-- A short set takes no more (R45). -/
theorem zoneStage_short (e : Int) (short : (z.settled rowShow).pendingShort = true) :
    zoneStage t rowShow showNow (some e) z =
      { after := z.settled rowShow, outcome := .recordedOnly, clamped := false, updated := false } := by
  rw [zoneStage, if_neg moving, if_neg recent]
  dsimp only
  rw [if_pos short]
  rfl

/-- Another set gathers the error, and the fourth one updates the zone from their mean and empties the set (R45, R46). -/
theorem zoneStage_gathers (e : Int) (whole : (z.settled rowShow).pendingShort = false) :
    zoneStage t rowShow showNow (some e) z =
      if (z.settled rowShow).pendingCount = 3 then
        { after :=
            { cell := loopUpdate t.zoneLoop showNow (roundDiv ((z.settled rowShow).pendingSum + e) 4) z.cell
              pendingSum := 0
              pendingCount := 0
              pendingShow := none
              pendingShort := false }
          outcome := .applied
          clamped := loopClamped t.zoneLoop z.cell (roundDiv ((z.settled rowShow).pendingSum + e) 4)
          updated := true }
      else
        { after :=
            { z.settled rowShow with
              pendingSum := (z.settled rowShow).pendingSum + e, pendingCount := (z.settled rowShow).pendingCount + 1 }
          outcome := .applied
          clamped := false
          updated := false } := by
  rw [zoneStage, if_neg moving, if_neg recent]
  dsimp only
  rw [if_neg (by simp [whole])]
  by_cases last : (z.settled rowShow).pendingCount = 3
  · rw [if_pos (by omega), if_pos last, ZoneRec.settled_cell]
    rfl
  · rw [if_neg (by omega), if_neg last]

end

end Sys2Proof.Machine

/-! SUPPORT. What the acceptance checker reads of the records (R150 to R154). -/

namespace Sys2Proof.Machine
open Sys2Proof

/-! ### Least and most -/

/-- The least of a list is the entry that no other undercuts. -/
theorem leastOf_eq {values : List Nat} {least : Nat} (mem : least ∈ values) (bound : ∀ v ∈ values, least ≤ v) : leastOf values = least := by
  have below : ∀ values : List Nat, values ≠ [] → leastOf values ∈ values ∧ ∀ v ∈ values, leastOf values ≤ v := by
    intro values some
    induction values using leastOf.induct with
    | case1 => exact absurd rfl some
    | case2 x => simp [leastOf]
    | case3 x rest more ih =>
      obtain ⟨inside, under⟩ := ih more
      rw [leastOf]
      · refine ⟨?_, ?_⟩
        · rcases min_choice x (leastOf rest) with e | e <;> rw [e]
          · exact List.mem_cons_self
          · exact List.mem_cons_of_mem _ inside
        · intro v hv
          rcases List.mem_cons.mp hv with rfl | hv
          · exact min_le_left ..
          · exact (min_le_right ..).trans (under v hv)
      · exact more
  obtain ⟨inside, under⟩ := below values (List.ne_nil_of_mem mem)
  exact le_antisymm (under least mem) (bound _ inside)

/-- The most of a list is the entry that none exceeds. -/
theorem mostOf_eq {values : List Nat} {most : Nat} (mem : most ∈ values) (bound : ∀ v ∈ values, v ≤ most) : mostOf values = most := by
  have above : ∀ values : List Nat, ∀ v ∈ values, v ≤ mostOf values := by
    intro values
    induction values with
    | nil => simp
    | cons x rest ih =>
      intro v hv
      rcases List.mem_cons.mp hv with rfl | hv
      · exact le_max_left ..
      · exact (ih v hv).trans (le_max_right ..)
  have within : ∀ values : List Nat, (∀ v ∈ values, v ≤ most) → mostOf values ≤ most := by
    intro values
    induction values with
    | nil => exact fun _ => Nat.zero_le _
    | cons x rest ih => exact fun bound => max_le (bound x List.mem_cons_self) (ih (fun v hv => bound v (List.mem_cons_of_mem _ hv)))
  exact le_antisymm (within values bound) (above values most mem)

/-! ### The quantities -/

/-- UNIFORMITY is absent while a record has no measure (R150, R151). -/
theorem uniformityOf_absent {measured : List (Option Nat)} (h : none ∈ measured) : uniformityOf measured = none := by
  unfold uniformityOf
  rw [if_pos (List.any_eq_true.mpr ⟨none, h, rfl⟩)]

/-- UNIFORMITY of measured records is the least of them in 1/10000 of the most (R151). -/
theorem uniformityOf_present {values : List Nat} {least most : Nat} (low : least ∈ values) (high : most ∈ values)
    (bound : ∀ v ∈ values, least ≤ v ∧ v ≤ most) :
    uniformityOf (values.map some) = some (if most = 0 then 0 else 10000 * least / most) := by
  unfold uniformityOf
  rw [if_neg (by simp), show (values.map some).filterMap id = values by simp]
  dsimp only
  rw [leastOf_eq low (fun v hv => (bound v hv).1), mostOf_eq high (fun v hv => (bound v hv).2)]

/-- WORST_ERROR is absent while no record has an error (R150, R152). -/
theorem worstErrorOf_absent {errors : List (Option Int)} (h : ∀ e ∈ errors, e = none) : worstErrorOf errors = none := by
  unfold worstErrorOf
  rw [if_pos (by simpa using h)]

/-- WORST_ERROR is the greatest magnitude among the errors recorded (R152). -/
theorem worstErrorOf_present {errors : List (Option Int)} {worst : Int} (mem : some worst ∈ errors)
    (bound : ∀ e, some e ∈ errors → e.natAbs ≤ worst.natAbs) : worstErrorOf errors = some worst.natAbs := by
  have recorded : ∀ e, e ∈ errors.filterMap id ↔ some e ∈ errors := by simp
  unfold worstErrorOf
  rw [if_neg, mostOf_eq (List.mem_map_of_mem ((recorded worst).mpr mem))]
  · intro v hv
    obtain ⟨e, he, rfl⟩ := List.mem_map.mp hv
    exact bound e ((recorded e).mp he)
  · simp only [List.all_eq_true, not_forall]
    exact ⟨some worst, mem, by simp⟩

/-- The entries of two states are those that are one or the other. -/
theorem count_add_count {first second : CellState} (other : first ≠ second) (states : List CellState) :
    states.count first + states.count second = states.countP (fun c => decide (c = first ∨ c = second)) := by
  induction states with
  | nil => rfl
  | cons state rest ih =>
    simp only [List.count_cons, List.countP_cons, beq_iff_eq, decide_eq_true_eq, ← ih]
    by_cases a : state = first
    · simp [a, other]
      omega
    · by_cases b : state = second
      · simp [b, other.symm]
        omega
      · simp [a, b]

/-- The cells of a slice's nodes, or for slice 15 of the zones (R150). -/
def Grid.cells (g : Grid) (slice : Nat) : List Cell :=
  if slice = 15 then g.zones.map (·.cell) else (g.slice slice).map (·.cell)

/-- The states that are counted are those cells' (R150). -/
theorem Grid.states_eq (g : Grid) (slice : Nat) : g.states slice = (g.cells slice).map (·.state) := by
  unfold Grid.states Grid.cells
  split <;> simp

/-- The saturated flags that are counted are those cells' (R150). -/
theorem Grid.saturatedOf_eq (g : Grid) (slice : Nat) : g.saturatedOf slice = (g.cells slice).map (·.saturated) := by
  unfold Grid.saturatedOf Grid.cells
  split <;> simp

/-- The records of a state are counted over those cells (R65, R153). -/
theorem Grid.countState_eq (g : Grid) (slice : Nat) (state : CellState) :
    g.countState slice state = (g.cells slice).countP (fun c => decide (c.state = state)) := by
  rw [Grid.countState, Grid.states_eq, List.count, List.countP_map]
  rfl

/-- The records that are SEEKING or STALLED are counted over those cells (R153). -/
theorem Grid.unlocked_eq (g : Grid) (slice : Nat) :
    g.countState slice .seeking + g.countState slice .stalled =
      (g.cells slice).countP (fun c => decide (c.state = .seeking ∨ c.state = .stalled)) := by
  rw [Grid.countState, Grid.countState, count_add_count (by simp), Grid.states_eq, List.countP_map]
  rfl

/-- The FIXED keys of a class (R154). -/
theorem KeyTable.countFixed_eq (k : KeyTable) (cls : KeyClass) :
    k.countFixed cls = (k.entries.filterMap id).countP (fun e => decide (e.state = .fixed ∧ e.cls = cls)) := by
  unfold KeyTable.countFixed
  rw [List.countP_filterMap]
  refine List.countP_congr (fun e _ => ?_)
  cases e <;> simp

end Sys2Proof.Machine

/-! SUPPORT. ROW_COUNT: one count of the row in process, and the thirty-second (R23, R25, R127). -/

namespace Sys2Proof.Machine
open Sys2Proof

section
variable {s : State} {r : RowInProcess}

/-- ROW_COUNT of a running part is one count, and then the arbiters act (R23). -/
theorem exec_rowCount (running : s.power = .running) : exec .rowCount s = .next s.stepRow.arbitrate :=
  congrArg Host.Outcome.next (State.event_running running _)

/-- The row after a count: one column on (R23). -/
theorem State.takeCount_column (s : State) (r : RowInProcess) :
    (s.takeCount r).2.column = r.column + 1 ∧ (s.takeCount r).2.row = r.row := by
  obtain ⟨outcome, updated, -, e⟩ := s.takeCount_row r
  rw [e]
  exact ⟨rfl, rfl⟩

/-- A count before the thirty-second leaves the row in process. -/
theorem State.stepRow_more (row : s.intake.inProcess = some r) (more : r.column < 31) :
    s.stepRow = (s.takeCount r).1.setIntake { s.intake with inProcess := some (s.takeCount r).2 } := by
  obtain ⟨column, -⟩ := s.takeCount_column r
  obtain ⟨intake, -⟩ := s.takeCount_rows r
  rw [State.stepRow, row]
  dsimp only
  rw [if_neg (by omega), intake]

/-- The thirty-second count completes the row (R25). -/
theorem State.stepRow_last (row : s.intake.inProcess = some r) (last : r.column = 31) :
    s.stepRow = (s.takeCount r).1.completeRow (s.takeCount r).2 := by
  obtain ⟨column, -⟩ := s.takeCount_column r
  rw [State.stepRow, row]
  dsimp only
  rw [if_pos (by omega)]

/-- Node `column` of a row lies in the zone that its row and column give (00 "Zone index"). -/
theorem zoneOf_row (row : Nat) {column : Nat} (h : column < 32) : zoneOf (row * 32 + column) = row / 2 * 16 + column / 2 := by
  unfold zoneOf
  omega

/-- A count of a white row goes to its white node and to the zone that holds it (2.4). -/
theorem State.takeCount_white (white : r.row.slice = 15) :
    s.takeCount r =
      ((s.takeWhiteCount r (r.row.row * 32 + r.column) (r.row.counts.getD r.column 65535)).1,
        { r with
          column := r.column + 1
          tally :=
            r.tally.count (s.takeWhiteCount r (r.row.row * 32 + r.column) (r.row.counts.getD r.column 65535)).2.outcome
              (s.takeWhiteCount r (r.row.row * 32 + r.column) (r.row.counts.getD r.column 65535)).2.updated }) := by
  rw [State.takeCount, if_pos white]

/-- A count of a colour row goes to its node (2.2). -/
theorem State.takeCount_colour (colour : r.row.slice ≠ 15) :
    s.takeCount r =
      ((s.takeColourCount r (r.row.row * 32 + r.column) (r.row.counts.getD r.column 65535)).1,
        { r with
          column := r.column + 1
          tally :=
            r.tally.count (s.takeColourCount r (r.row.row * 32 + r.column) (r.row.counts.getD r.column 65535)).2.outcome
              (s.takeColourCount r (r.row.row * 32 + r.column) (r.row.counts.getD r.column 65535)).2.updated }) := by
  rw [State.takeCount, if_neg colour]

/-- The row that a completion left begins only after a marker read that meets it, with the engine idle and nothing held (R127). -/
theorem State.beginDue_still {meets : Bool}
    (h : meets = false ∨ s.intake.inProcess.isSome = true ∨ s.grid.held ≠ [] ∨ s.intake.queue = []) : s.beginDue meets = s := by
  unfold State.beginDue
  split
  · rename_i now
    simp only [Bool.and_eq_true, Option.isNone_iff_eq_none, List.isEmpty_iff] at now
    obtain ⟨⟨rfl, idle⟩, held⟩ := now
    have empty : s.intake.queue = [] := by simpa [idle, held] using h
    rw [State.beginRow, empty]
  · rfl

end

end Sys2Proof.Machine

/-! CERTIFICATE. The outcomes of a count (O21), and ROW_COUNT on a colour row (O22). -/

namespace Sys2Proof
open Sys2Proof.Machine

/-- Settles O21: each count by its cases, the quantities by the entries they are computed from. -/
theorem countsHaveTheirOutcomes : Obligations.CountsHaveTheirOutcomes := by
  refine ⟨fun t aim rowShow showNow m n => ?_, fun aim rowShow m w => ?_, fun t phase aim rowShow showNow m z free _ => ?_,
    fun s r running row white more => ?_, fun s a => ?_⟩
  · intro res
    refine ⟨fun unusable => ?_, fun usable unaimed => ?_, fun usable aimed still => ?_, fun usable aimed moving newer => ?_,
      fun usable aimed moving older => ?_⟩
    · subst unusable
      simp only [res, fineCount_unusable, and_self]
    · subst unaimed
      simp only [res, fineCount_unaimed t rowShow showNow n usable, and_self]
    · simp only [res, fineCount_aimed t rowShow showNow n usable aimed, if_pos still, and_self]
    · simp only [res, fineCount_aimed t rowShow showNow n usable aimed, if_neg (CellState.free_of_moving moving),
        if_neg (Nat.not_lt.mpr newer), and_self]
    · simp only [res, fineCount_aimed t rowShow showNow n usable aimed, if_neg (CellState.free_of_moving moving), if_pos older,
        loopUpdate_saturated, and_self]
  · refine ⟨rfl, fun usable => ?_, fun usable aimed => ?_⟩
    · rw [whiteStage, if_neg usable.ne, if_pos rfl]
    · rw [whiteStage, if_neg usable.ne, if_neg aimed]
  · intro res leaves outdated opened
    refine ⟨fun usable unaimed => ?_, fun counts => ⟨fun fine => ?_, fun coarse stalled => ?_, fun coarse moving old => ?_,
      fun coarse moving recent => ?_⟩⟩
    · subst unaimed
      simp only [leaves, res, zoneCount_unaimed t rowShow showNow z usable, if_neg usable.ne]
    · subst fine
      exact zoneCount_fine t rowShow showNow z counts
    all_goals
      subst coarse
      have counted : res = _ := zoneCount_coarse t rowShow showNow z counts
    · simp only [leaves, counted, zoneStage_stalled t rowShow showNow z _ stalled]
      by_cases unusable : m = 65535 <;> simp [unusable]
    all_goals have moves : ¬ (z.cell.state = .stalled ∨ z.cell.state = .pinned) := not_or.mpr ⟨moving, free⟩
    · simp only [leaves, counted, zoneStage_outdated t rowShow showNow _ moves ((z.outdated_iff rowShow).mpr old)]
      by_cases unusable : m = 65535 <;> simp [unusable]
    · have recent : ¬ z.outdated rowShow = true := mt (z.outdated_iff rowShow).mp recent
      refine ⟨fun unusable => ?_, fun usable short => ?_, fun usable whole more => ?_, fun usable whole last => ?_⟩
      · simp only [leaves, counted, if_pos unusable, zoneStage_unusable t showNow moves recent]
        rfl
      all_goals rw [if_neg (Nat.ne_of_lt usable)] at counted
      · simp only [leaves, counted, zoneStage_short t showNow moves recent _ short, if_neg (Nat.ne_of_lt usable)]
        rfl
      · rw [counted, zoneStage_gathers t showNow moves recent _ whole, if_neg (show (z.settled rowShow).pendingCount ≠ 3 from more)]
        rfl
      · intro update
        rw [counted, zoneStage_gathers t showNow moves recent _ whole, if_pos (show (z.settled rowShow).pendingCount = 3 from last)]
        rfl
  · intro n m z res
    have zone : zoneOf n = z := zoneOf_row r.row.row (by omega)
    rw [exec_rowCount running, State.stepRow_more row more, State.takeCount_white white, State.takeWhiteCount]
    dsimp only
    rw [show zoneOf (r.row.row * 32 + r.column) = z from zone]
    rfl
  · intro measured errors cells
    have measuredEq : s.grid.measuredOf a = measured := rfl
    have errorsEq : s.grid.errorsOf a = errors := rfl
    have cellsEq : s.grid.cells a = cells := rfl
    refine ⟨fun absent => ?_, fun values least most e low high bound => ?_, fun absent => ?_, fun worst mem bound => ?_, ?_, rfl, ?_, ?_,
      fun least most low high bound => ?_, fun cls => ?_, fun invalid => ?_, fun valid => ?_⟩
    · rw [State.quantityOf, measuredEq, uniformityOf_absent absent]
    · rw [State.quantityOf, measuredEq, e, uniformityOf_present low high bound]
    · rw [State.quantityOf, errorsEq, worstErrorOf_absent absent]
    · rw [State.quantityOf, errorsEq, worstErrorOf_present mem bound]
    · rw [State.quantityOf, Grid.saturatedOf_eq, cellsEq, List.count, List.countP_map]
      congr 2
      funext c
      simp
    · rw [State.quantityOf, Grid.countState_eq, cellsEq]
    · rw [State.quantityOf, Grid.unlocked_eq, cellsEq]
    · rw [State.quantityOf, zoneSpreadOf, leastOf_eq low (fun v hv => (bound v hv).1), mostOf_eq high (fun v hv => (bound v hv).2)]
    · rw [← KeyTable.countFixed_eq]
      cases cls <;> rfl
    · simp [State.quantityOf, Region.markerMatch, invalid]
    · rw [State.quantityOf, Region.markerMatch, if_pos valid]
      cases s.region.current <;> simp

/-- Settles O22: a count before the last one, the last one by what the next command is, and the marker read that meets it. -/
theorem rowCountTakesOneCountAndCompletes : Obligations.RowCountTakesOneCountAndCompletes := by
  refine ⟨fun s r running row colour more => ?_, fun s r running row last => ?_, fun s pixels meets running count => ?_⟩
  · rw [exec_rowCount running, State.stepRow_more row more, State.takeCount_colour colour]
    rfl
  · obtain ⟨column, sameRow⟩ := s.takeCount_column r
    obtain ⟨-, -, pending⟩ := s.takeCount_rows r
    refine ⟨(s.takeCount r).1, (s.takeCount r).2, rfl, sameRow, column.trans (by rw [last]), ?_⟩
    intro completed
    have waits := (s.takeCount r).1.markerWaits_iff
    rw [pending] at waits
    have ends : (s.takeCount r).1.completeRow (s.takeCount r).2 =
        if (s.takeCount r).1.markerWaits then completed.takeHeld else completed.advanceRows := by
      rw [State.completeRow, sameRow]
      rfl
    rw [exec_rowCount running, State.stepRow_last row last, ends]
    refine ⟨fun other => ?_, fun pixels rest meets => ?_⟩
    · rw [if_neg (fun h => let ⟨pixels, rest, e⟩ := waits.mp h; other pixels rest e)]
    · rw [if_pos (waits.mpr ⟨pixels, rest, meets⟩)]
  · refine ⟨exec_markerRead running count meets, fun met idle held => ?_, State.beginDue_still⟩
    rw [State.beginDue, met, idle, held]
    rfl

end Sys2Proof

/-! SUPPORT. The sizes of grid memory's tables (R1, R8, R15, R19), and what keeps them. -/

namespace Sys2Proof.Machine
open Sys2Proof

/-! ### Colour slices -/

/-- Fifteen colour slices of 576 nodes each (R1). -/
def ColourSized {α : Type} (colour : List (List α)) : Prop := colour.length = 15 ∧ ∀ slice ∈ colour, slice.length = 576

section
variable {α β : Type} {colour : List (List α)}

/-- A change of every slice that keeps its number of nodes keeps the slices' sizes. -/
theorem ColourSized.map (h : ColourSized colour) {f : List α → List β} (keeps : ∀ slice, (f slice).length = slice.length) :
    ColourSized (colour.map f) := by
  refine ⟨by rw [List.length_map, h.1], fun slice mem => ?_⟩
  obtain ⟨old, before, rfl⟩ := List.mem_map.mp mem
  rw [keeps, h.2 old before]

/-- The same of a change that is told something of each slice. -/
theorem ColourSized.zipWith (h : ColourSized colour) {f : List α → β → List α} (keeps : ∀ slice b, (f slice b).length = slice.length)
    {told : List β} (all : told.length = 15) : ColourSized (List.zipWith f colour told) := by
  refine ⟨by rw [List.length_zipWith, h.1, all]; rfl, fun slice mem => ?_⟩
  obtain ⟨i, inside, rfl⟩ := List.getElem_of_mem mem
  rw [List.getElem_zipWith, keeps]
  exact h.2 _ (List.getElem_mem _)

end

/-- A change of every entry, made or not, keeps the number of entries. -/
theorem length_ite_map {α : Type} (c : Prop) [Decidable c] (f : α → α) (entries : List α) :
    (if c then entries.map f else entries).length = entries.length := by
  split
  · exact List.length_map _
  · rfl

/-! ### The tables -/

/-- Every table of grid memory has its size, and so has every held aim table. -/
structure Grid.Sized (g : Grid) : Prop where
  colour : ColourSized g.colour
  white : g.white.length = 576
  zones : g.zones.length = 144
  levels : g.levels.length = 5
  aims : g.aims.length = 16
  sticky : g.sticky.length = 16
  held : ∀ tag aims clamped, HeldItem.setAims tag aims clamped ∈ g.held → aims.length = 16

/-- A held item whose aim table, if it carries one, has its size (R8). -/
def HeldItem.Sized : HeldItem → Prop
  | .setAims _ aims _ => aims.length = 16
  | _ => True

theorem Grid.Sized.heldItem {g : Grid} (h : g.Sized) {item : HeldItem} (mem : item ∈ g.held) : item.Sized := by
  cases item with
  | setAims tag aims clamped => exact h.held tag aims clamped mem
  | setPin | ceiling => trivial

theorem State.shaped_iff (s : State) : s.Shaped ↔ s.grid.Sized ∧ s.region.slots.length = 8 ∧ s.checks.length = 16 :=
  ⟨fun h => ⟨⟨h.colour, h.white, h.zones, h.levels, h.aims, h.sticky, h.held⟩, h.slots, h.checks⟩,
    fun ⟨g, slots, checks⟩ => ⟨g.colour, g.white, g.zones, g.levels, g.aims, g.sticky, g.held, slots, checks⟩⟩

theorem stickyAfter_length (sticky : List Bool) (slice : Nat) (clamped : Bool) :
    (stickyAfter sticky slice clamped).length = sticky.length := by
  unfold stickyAfter
  split <;> simp

section
variable {g : Grid}

theorem Grid.Sized.retarget (h : g.Sized) {aims : List Nat} (sized : aims.length = 16) (ceiling : Option Nat) :
    (g.retarget aims ceiling).Sized :=
  have told : ((g.aimChanges aims ceiling).take 15).length = 15 := by
    rw [List.length_take, Grid.aimChanges, List.length_map, List.length_range]
    rfl
  { h with
    colour := h.colour.zipWith (fun _ _ => length_ite_map ..) told
    zones := (length_ite_map ..).trans h.zones
    aims := sized }

theorem Grid.Sized.putNode (h : g.Sized) (slice n : Nat) (r : NodeRec) : (g.putNode slice n r).Sized := by
  refine { h with colour := ⟨(List.length_set ..).trans h.colour.1, fun records mem => ?_⟩ }
  by_cases inside : slice < g.colour.length
  · obtain old | rfl := List.mem_or_eq_of_mem_set mem
    · exact h.colour.2 _ old
    · rw [List.length_set, Grid.slice, List.getD_eq_getElem _ _ inside]
      exact h.colour.2 _ (List.getElem_mem inside)
  · rw [Grid.putNode, List.set_eq_of_length_le (by omega)] at mem
    exact h.colour.2 _ mem

theorem Grid.Sized.restarted (h : g.Sized) (scope : RestartScope) : (g.restarted scope).Sized :=
  { h with
    colour := h.colour.zipWith (fun _ _ => length_ite_map ..) List.length_range
    white := (length_ite_map ..).trans h.white
    zones := (length_ite_map ..).trans h.zones
    sticky := by simp [Grid.restarted, h.sticky] }

/-- What is held joined by an item of its size (R13). -/
theorem Grid.Sized.hold (h : g.Sized) {item : HeldItem} (sized : item.Sized) : ({ g with held := g.held ++ [item] } : Grid).Sized := by
  refine { h with held := fun tag aims clamped mem => ?_ }
  obtain old | rfl := List.mem_append.mp mem |>.imp_right List.mem_singleton.mp
  · exact h.held tag aims clamped old
  · exact sized

theorem Grid.Sized.holdCeiling (h : g.Sized) (limit : Option Nat) : ({ g with held := Machine.holdCeiling limit g.held } : Grid).Sized := by
  refine { h with held := fun tag aims clamped mem => ?_ }
  obtain ceiling | old := mem_holdCeiling mem
  · cases ceiling
  · exact h.held tag aims clamped old

end

/-- A run of values read has the number asked for. -/
theorem valuesOf_length (n : Nat) (bytes : List Byte) : (valuesOf n bytes).length = n := by
  induction n generalizing bytes with
  | zero => rfl
  | succ n ih => rw [valuesOf, List.length_cons, ih]

/-- Whatever the grid record holds, the image read from it has its sizes (R20, 11.4). -/
theorem NvStore.loadedImage_sized (nv : NvStore) :
    ColourSized nv.loadedImage.gains ∧ nv.loadedImage.trims.length = 144 ∧ nv.loadedImage.levels.length = 5 := by
  unfold NvStore.loadedImage
  split
  · refine ⟨⟨by simp [GridImage.ofBytes], fun slice mem => ?_⟩, by simp [GridImage.ofBytes], valuesOf_length ..⟩
    obtain ⟨i, -, rfl⟩ := List.mem_map.mp mem
    exact valuesOf_length ..
  · refine ⟨⟨List.length_replicate, fun slice mem => ?_⟩, List.length_replicate, rfl⟩
    rw [List.eq_of_mem_replicate mem, List.length_replicate]

theorem Grid.fresh_sized : Grid.fresh.Sized where
  colour := ⟨List.length_replicate, fun slice mem => by rw [List.eq_of_mem_replicate mem, List.length_replicate]⟩
  white := List.length_replicate
  zones := List.length_replicate
  levels := rfl
  aims := List.length_replicate
  sticky := List.length_replicate
  held := nofun

/-- What start-up loads under mark CLOSED has its sizes, whatever the store holds (R20). -/
theorem Grid.loaded_sized (t : Tuning) (nv : NvStore) (ceiling : Option Nat) : (Grid.loaded t nv.loadedImage ceiling).Sized :=
  let ⟨gains, trims, levels⟩ := nv.loadedImage_sized
  { Grid.fresh_sized with
    colour := gains.map fun _ => List.length_map _
    zones := by simp [Grid.loaded, trims]
    levels := levels }

end Sys2Proof.Machine

/-! SUPPORT. Capacities and table sizes (R1, R49): a relation between two states that every operation of the part meets, whichever of the
sizes the first state has. -/

namespace Sys2Proof.Machine
open Sys2Proof

/-! ### The relation -/

/-- Each collection within its capacity, and each table of its size, in the one state is so in the other. -/
structure State.KeepsSizes (s t : State) : Prop where
  list : s.seq.list.length ≤ 16 → t.seq.list.length ≤ 16
  history : s.seq.history.length ≤ 4 → t.seq.history.length ≤ 4
  queue : s.intake.queue.length ≤ 8 → t.intake.queue.length ≤ 8
  reports : s.station.reports.length ≤ 16 → t.station.reports.length ≤ 16
  entries : s.keys.entries.length = 24 → t.keys.entries.length = 24
  grid : s.grid.Sized → t.grid.Sized
  slots : s.region.slots.length = 8 → t.region.slots.length = 8
  checks : s.checks.length = 16 → t.checks.length = 16

/-- A reply leaves the reports alone. -/
@[simp] theorem State.reply_reports (s : State) (p : Port) (kind tag : Byte) (status : Status) (fields : List Byte) :
    (s.reply p kind tag status fields).station.reports = s.station.reports := by
  cases p <;> rfl

section
variable {s t u : State}

theorem State.KeepsSizes.refl (s : State) : s.KeepsSizes s := ⟨id, id, id, id, id, id, id, id⟩

theorem State.KeepsSizes.trans (h : s.KeepsSizes t) (next : t.KeepsSizes u) : s.KeepsSizes u where
  list := next.list ∘ h.list
  history := next.history ∘ h.history
  queue := next.queue ∘ h.queue
  reports := next.reports ∘ h.reports
  entries := next.entries ∘ h.entries
  grid := next.grid ∘ h.grid
  slots := next.slots ∘ h.slots
  checks := next.checks ∘ h.checks

theorem State.KeepsSizes.withinCapacities (h : s.KeepsSizes t) (within : s.WithinCapacities) : t.WithinCapacities :=
  ⟨h.list within.list, h.history within.history, h.queue within.queue, h.reports within.reports, h.entries within.entries⟩

theorem State.KeepsSizes.shaped (h : s.KeepsSizes t) (shaped : s.Shaped) : t.Shaped := by
  rw [State.shaped_iff] at shaped ⊢
  obtain ⟨grid, slots, checks⟩ := shaped
  exact ⟨h.grid grid, h.slots slots, h.checks checks⟩

/-- A state alike in every block, with no report too many, has the same sizes. -/
theorem State.SameBlocks.keepsSizes (same : s.SameBlocks t) (reports : s.station.reports.length ≤ 16 → t.station.reports.length ≤ 16) :
    s.KeepsSizes t where
  list := by rw [same.seq]; exact id
  history := by rw [same.seq]; exact id
  queue := by rw [same.intake]; exact id
  reports := reports
  entries := by rw [same.keys]; exact id
  grid := by rw [same.grid]; exact id
  slots := by rw [same.region]; exact id
  checks := by rw [same.checks]; exact id

/-! ### Updates, replies and reports -/

theorem State.KeepsSizes.setGrid (h : s.KeepsSizes t) {g : Grid} (sized : t.grid.Sized → g.Sized) : s.KeepsSizes (t.setGrid g) :=
  { h with grid := sized ∘ h.grid }

theorem State.KeepsSizes.setIntake (h : s.KeepsSizes t) {i : Intake} (queue : i.queue.length ≤ t.intake.queue.length) :
    s.KeepsSizes (t.setIntake i) :=
  { h with queue := queue.trans ∘ h.queue }

theorem State.KeepsSizes.setSeq (h : s.KeepsSizes t) {q : Sequencer} (list : q.list.length ≤ t.seq.list.length)
    (history : q.history.length ≤ t.seq.history.length) : s.KeepsSizes (t.setSeq q) :=
  { h with list := list.trans ∘ h.list, history := history.trans ∘ h.history }

theorem State.KeepsSizes.setKeys (h : s.KeepsSizes t) {k : KeyTable} (entries : k.entries.length = t.keys.entries.length) :
    s.KeepsSizes (t.setKeys k) :=
  { h with entries := entries.trans ∘ h.entries }

theorem State.KeepsSizes.setRegion (h : s.KeepsSizes t) {r : Region} (slots : r.slots.length = t.region.slots.length) :
    s.KeepsSizes (t.setRegion r) :=
  { h with slots := slots.trans ∘ h.slots }

theorem State.KeepsSizes.setPower (h : s.KeepsSizes t) (x : Power) : s.KeepsSizes (t.setPower x) := { h with }
theorem State.KeepsSizes.setTiming (h : s.KeepsSizes t) (x : Timing) : s.KeepsSizes (t.setTiming x) := { h with }
theorem State.KeepsSizes.setApplier (h : s.KeepsSizes t) (x : Applier) : s.KeepsSizes (t.setApplier x) := { h with }
theorem State.KeepsSizes.setTrim (h : s.KeepsSizes t) (x : TrimOutput) : s.KeepsSizes (t.setTrim x) := { h with }
theorem State.KeepsSizes.setUnit (h : s.KeepsSizes t) (x : UnitCtl) : s.KeepsSizes (t.setUnit x) := { h with }
theorem State.KeepsSizes.setNv (h : s.KeepsSizes t) (x : NvStore) : s.KeepsSizes (t.setNv x) := { h with }
theorem State.KeepsSizes.setChoices (h : s.KeepsSizes t) (x : Nat) : s.KeepsSizes (t.setChoices x) := { h with }

theorem State.KeepsSizes.setMode (h : s.KeepsSizes t) (mode : ApplierMode) : s.KeepsSizes (t.setMode mode) :=
  (h.setApplier _).setTrim _

theorem State.KeepsSizes.beginWrite (h : s.KeepsSizes t) (place : NvPlace) (data : List Byte) : s.KeepsSizes (t.beginWrite place data) :=
  h.setNv _

theorem State.KeepsSizes.reply (h : s.KeepsSizes t) (p : Port) (kind tag : Byte) (status : Status) (fields : List Byte) :
    s.KeepsSizes (t.reply p kind tag status fields) :=
  h.trans (State.SameBlocks.keepsSizes (by constructor <;> simp) (by simp))

theorem State.KeepsSizes.report (h : s.KeepsSizes t) (kind : Byte) (payload : List Byte) : s.KeepsSizes (t.report kind payload) :=
  h.trans (State.SameBlocks.keepsSizes (by constructor <;> simp) (t.report_capacity kind payload))

theorem State.KeepsSizes.arbitrate (h : s.KeepsSizes t) : s.KeepsSizes t.arbitrate :=
  h.trans (State.SameBlocks.keepsSizes (by constructor <;> simp) t.arbitrate_shrinks.2.1.trans)

/-! ### What grid memory holds, and the next row (R13, R55) -/

theorem State.KeepsSizes.takeHeldItem (h : s.KeepsSizes t) {item : HeldItem} (fits : item.Sized) : s.KeepsSizes (t.takeHeldItem item) := by
  cases item with
  | setAims tag aims clamped =>
    rw [State.takeHeldItem, State.takeAims]
    exact (h.setGrid fun sized => sized.retarget fits _).reply ..
  | setPin tag slice node value =>
    have pinned : s.KeepsSizes (t.takePin slice node value) :=
      h.setGrid fun sized => { sized.putNode .. with sticky := (stickyAfter_length ..).trans sized.sticky }
    rw [State.takeHeldItem, State.takePinReplying]
    exact pinned.reply ..
  | ceiling limit => exact h.setGrid fun sized => sized.retarget sized.aims limit

/-- Held items of their sizes are taken one after another. -/
theorem State.KeepsSizes.takeHeldItems {items : List HeldItem} (fits : ∀ item ∈ items, item.Sized) (h : s.KeepsSizes t) :
    s.KeepsSizes (items.foldl State.takeHeldItem t) := by
  induction items generalizing t with
  | nil => exact h
  | cons item rest ih =>
    exact ih (fun other mem => fits other (List.mem_cons_of_mem _ mem)) (h.takeHeldItem (fits item List.mem_cons_self))

/-- Taking what is held sends no report. -/
theorem State.takeHeld_reports (s : State) : s.takeHeld.station.reports = s.station.reports := by
  have all : ∀ (items : List HeldItem) (u : State), (items.foldl State.takeHeldItem u).station.reports = u.station.reports := by
    intro items
    induction items with
    | nil => exact fun u => rfl
    | cons item rest ih => exact fun u => (ih _).trans (by cases item <;> rfl)
  exact all _ _

/-- What was held had its sizes if the other tables had theirs, so the tables keep theirs when it is taken. -/
theorem State.KeepsSizes.takeHeld (h : s.KeepsSizes t) : s.KeepsSizes t.takeHeld where
  list := by simpa using h.list
  history := by simpa using h.history
  queue := by simpa using h.queue
  reports := by simpa only [State.takeHeld_reports] using h.reports
  entries := by simpa using h.entries
  grid := fun before => by
    have sized := h.grid before
    have emptied : s.KeepsSizes (t.setGrid { t.grid with held := [] }) := h.setGrid fun g => { g with held := nofun }
    exact (emptied.takeHeldItems fun _ mem => sized.heldItem mem).grid before
  slots := by simpa using h.slots
  checks := by simpa using h.checks

theorem State.KeepsSizes.beginRow (h : s.KeepsSizes t) : s.KeepsSizes t.beginRow := by
  unfold State.beginRow
  split
  · exact h
  · rename_i row rest waiting
    exact h.setIntake (by simp [waiting])

theorem State.KeepsSizes.advanceRows (h : s.KeepsSizes t) : s.KeepsSizes t.advanceRows := by
  unfold State.advanceRows
  split
  · exact h
  · exact h.takeHeld.beginRow

theorem State.KeepsSizes.takeOrHold (h : s.KeepsSizes t) (kind tag : Byte) {item : HeldItem} (fits : item.Sized) :
    s.KeepsSizes (t.takeOrHold kind tag item) := by
  obtain ⟨-, e⟩ | ⟨-, -, e⟩ | ⟨-, -, e⟩ := t.takeOrHold_cases kind tag item <;> rw [e]
  · exact h.takeHeldItem fits
  · exact h.setGrid fun sized => sized.hold fits
  · exact h.reply ..

/-! ### The region unit (R113, R115 to R117) -/

theorem State.KeepsSizes.informReaders (h : s.KeepsSizes t) : s.KeepsSizes t.informReaders := by
  have rated : s.KeepsSizes (t.takeRate t.region.rate) := by
    unfold State.takeRate
    split <;> exact h.setTiming _
  unfold State.informReaders State.takeCeiling
  split
  · exact rated.takeHeldItem trivial
  · exact rated.setGrid fun sized => sized.holdCeiling _

theorem State.KeepsSizes.recomputeCurrent (h : s.KeepsSizes t) : s.KeepsSizes t.recomputeCurrent := by
  have computed : s.KeepsSizes (t.setRegion { t.region with current := t.region.computed }) := h.setRegion rfl
  unfold State.recomputeCurrent
  dsimp only
  (repeat' split)
  · exact computed.informReaders
  · exact computed
  · exact h

theorem State.KeepsSizes.recomputeUnknown (h : s.KeepsSizes t) : s.KeepsSizes t.recomputeUnknown := by
  unfold State.recomputeUnknown
  dsimp only
  split
  · exact (h.setRegion (by rfl)).report ..
  · exact h.setRegion rfl

theorem State.KeepsSizes.recomputeConflict (h : s.KeepsSizes t) : s.KeepsSizes t.recomputeConflict := by
  unfold State.recomputeConflict
  dsimp only
  split
  · exact (h.setRegion (by rfl)).report ..
  · exact h.setRegion rfl

theorem State.KeepsSizes.settleCurrent (h : s.KeepsSizes t) : s.KeepsSizes t.settleCurrent := h.recomputeCurrent.recomputeUnknown

theorem State.KeepsSizes.settleRegion (h : s.KeepsSizes t) : s.KeepsSizes t.settleRegion := h.settleCurrent.recomputeConflict

theorem State.KeepsSizes.writeGiven (h : s.KeepsSizes t) (code : Nat) : s.KeepsSizes (t.writeGiven code) :=
  (h.setRegion (by rfl)).settleRegion

/-! ### Restarts and tuning (R7, R16, R18) -/

/-- The DISCARDED replies of a restart (R57). -/
theorem State.KeepsSizes.replyDiscarded (h : s.KeepsSizes t) (rows : List Row) : s.KeepsSizes (rows.foldl State.replyDiscarded t) := by
  induction rows generalizing t with
  | nil => exact h
  | cons row rest ih => exact ih (h.reply ..)

theorem State.KeepsSizes.restartRecords (h : s.KeepsSizes t) (scope : RestartScope) : s.KeepsSizes (t.restartRecords scope) :=
  { h with
    history := (List.length_filter_le ..).trans ∘ h.history
    grid := fun before => (h.grid before).restarted scope }

theorem State.KeepsSizes.restart (h : s.KeepsSizes t) (scope : RestartScope) : s.KeepsSizes (t.restart scope) :=
  ((h.setIntake (by exact List.length_filter_le ..)).replyDiscarded _).restartRecords scope

theorem State.KeepsSizes.restartReplying (h : s.KeepsSizes t) (kind tag : Byte) (scope : RestartScope) :
    s.KeepsSizes (t.restartReplying kind tag scope) :=
  ((h.restart scope).reply ..).advanceRows

theorem State.KeepsSizes.retune (h : s.KeepsSizes t) (tuning : Tuning) : s.KeepsSizes (t.retune tuning) where
  __ := h
  grid before :=
    have sized := h.grid before
    { sized with
      colour := sized.colour.map fun _ => List.length_map _
      zones := (List.length_map _).trans sized.zones
      sticky := by simp [State.retune, Grid.reclampedSticky, sized.sticky, sized.colour.1] }

theorem State.KeepsSizes.clearLoopState (h : s.KeepsSizes t) : s.KeepsSizes t.clearLoopState where
  __ := h
  list _ := Nat.zero_le _
  history _ := Nat.zero_le _
  grid before :=
    have sized := h.grid before
    { sized with
      colour := sized.colour.map fun _ => List.length_map _
      white := (List.length_map _).trans sized.white
      zones := (List.length_map _).trans sized.zones
      sticky := (List.length_map _).trans sized.sticky }

/-! ### Counts and completions (R23, R25) -/

theorem State.KeepsSizes.takeCount (h : s.KeepsSizes t) (r : RowInProcess) : s.KeepsSizes (t.takeCount r).1 := by
  unfold State.takeCount State.takeWhiteCount State.takeColourCount
  dsimp only
  split
  · exact
      { h with
        grid := fun before =>
          have sized := h.grid before
          { sized with
            white := (List.length_set ..).trans sized.white
            zones := (List.length_set ..).trans sized.zones
            sticky := (stickyAfter_length ..).trans sized.sticky } }
  · exact h.setGrid fun sized => { sized.putNode .. with sticky := (stickyAfter_length ..).trans sized.sticky }

/-- A completion notice touches the current patch alone (R84). -/
theorem Sequencer.notice_collections (q : Sequencer) (tag shown row : Nat) :
    (q.notice tag shown row).list = q.list ∧ (q.notice tag shown row).history = q.history := by
  unfold Sequencer.notice
  (repeat' split) <;> exact ⟨rfl, rfl⟩

theorem State.KeepsSizes.completeRow (h : s.KeepsSizes t) (r : RowInProcess) : s.KeepsSizes (t.completeRow r) := by
  have noticed : ∀ u : State, s.KeepsSizes u → ∀ tag shown row, s.KeepsSizes (u.setSeq (u.seq.notice tag shown row)) :=
    fun u before tag shown row =>
      let ⟨list, history⟩ := u.seq.notice_collections tag shown row
      before.setSeq (by rw [list]) (by rw [history])
  have freed : ∀ u : State, s.KeepsSizes u → s.KeepsSizes (u.setIntake { u.intake with inProcess := none }) :=
    fun _ before => before.setIntake le_rfl
  unfold State.completeRow
  dsimp only
  split
  · exact (freed _ (noticed _ (h.reply ..) ..)).takeHeld
  · exact (freed _ (noticed _ (h.reply ..) ..)).advanceRows

theorem State.KeepsSizes.stepRow (h : s.KeepsSizes t) : s.KeepsSizes t.stepRow := by
  unfold State.stepRow
  split
  · exact h
  · rename_i r row
    have counted := h.takeCount r
    dsimp only
    split
    · exact counted.completeRow _
    · exact counted.setIntake le_rfl

end

end Sys2Proof.Machine

/-! SUPPORT. Capacities and table sizes through frame boundaries, markers, writes and requests, and through every command. -/

namespace Sys2Proof.Machine
open Sys2Proof

section
variable {s t : State}

/-! ### Frame boundaries and input lock (4.4, 4.5) -/

/-- The head of the list leaves it when its display begins (R80). -/
theorem Sequencer.beginDisplay_collections (q : Sequencer) :
    q.beginDisplay.list.length ≤ q.list.length ∧ q.beginDisplay.history = q.history := by
  unfold Sequencer.beginDisplay
  split
  · exact ⟨le_rfl, rfl⟩
  · rename_i p rest list
    exact ⟨by simp [list], rfl⟩

theorem State.KeepsSizes.beginDisplay (h : s.KeepsSizes t) {q : Sequencer} (list : q.list = t.seq.list)
    (history : q.history = t.seq.history) : s.KeepsSizes (t.setSeq q.beginDisplay) := by
  obtain ⟨shorter, same⟩ := q.beginDisplay_collections
  rw [list] at shorter
  rw [history] at same
  exact h.setSeq shorter (by rw [same])

theorem State.KeepsSizes.endRun (h : s.KeepsSizes t) (reason : RunEnd) : s.KeepsSizes (t.endRun reason) :=
  (((h.setSeq (by rfl) (by rfl)).setIntake (by rfl)).setTiming _).report ..

/-- At most four records stay in the history, the ended one among them (R68, R82). -/
theorem Sequencer.retire_history (q : Sequencer) (p : Patch) : (q.retire p).history.length ≤ 4 := by
  simp only [Sequencer.retire, List.length_drop, List.length_append, List.length_singleton]
  omega

theorem State.KeepsSizes.endPatch (h : s.KeepsSizes t) (p : Patch) (reason : EndReason) : s.KeepsSizes (t.endPatch p reason) := by
  have retired : s.KeepsSizes (t.setSeq (t.seq.retire { p with endReason := some reason })) :=
    { h with history := fun _ => Sequencer.retire_history .. }
  have done : s.KeepsSizes ((t.setSeq (t.seq.retire { p with endReason := some reason })).reportDone p reason) := retired.report ..
  unfold State.endPatch
  dsimp only
  split
  · exact done.endRun _
  split
  · exact done.endRun _
  split
  · exact done.endRun _
  split
  · exact done.endRun _
  · exact done.beginDisplay rfl rfl

theorem State.KeepsSizes.frameBoundary (h : s.KeepsSizes t) : s.KeepsSizes t.frameBoundary := by
  have boundary : s.KeepsSizes t.sequencerBoundary := by
    have does := t.sequencerBoundary_cases
    generalize t.sequencerBoundary = u at does ⊢
    cases does with
    | nothing => exact h
    | listEmpty armed start empty => exact (h.setSeq (by rfl) (by rfl)).report ..
    | begins armed start list => exact (h.beginDisplay (by rfl) (by rfl)).setIntake (by rfl)
    | ends p q reason run current same => exact h.endPatch q reason
    | counts p q run current same => exact h.setSeq le_rfl le_rfl
    | ready p q payload run current same => exact (h.setSeq (by rfl) (by rfl)).report ..
  have viewed : s.KeepsSizes t.sequencerBoundary.takeFrameView := boundary.setApplier _
  unfold State.frameBoundary State.examineTrim
  (repeat' split)
  · exact viewed
  · exact viewed.setTrim _
  · exact viewed.setTrim _

theorem State.KeepsSizes.markerLost (h : s.KeepsSizes t) : s.KeepsSizes t.markerLost :=
  (h.setRegion (by rfl)).report ..

theorem State.KeepsSizes.loseLock (h : s.KeepsSizes t) : s.KeepsSizes t.loseLock := by
  have unlocked := h.setTiming { t.timing with lock := false }
  have switched : s.KeepsSizes
      (if t.timing.source = .input then (t.setTiming { t.timing with lock := false }).switchToInternal
        else t.setTiming { t.timing with lock := false }) := by
    split
    · exact (unlocked.setTiming _).setSeq le_rfl le_rfl
    · exact unlocked
  unfold State.loseLock
  dsimp only
  generalize (if t.timing.source = .input then (t.setTiming { t.timing with lock := false }).switchToInternal
    else t.setTiming { t.timing with lock := false }) = u at switched ⊢
  have passed : s.KeepsSizes (u.setRegion { u.region with lineArmed := false }) := switched.setRegion rfl
  split
  · unfold State.choose
    split
    · exact ((passed.setChoices _).report ..).markerLost
    · exact (passed.setChoices _).markerLost.report ..
  · exact passed.report ..

theorem State.KeepsSizes.matchTotals (h : s.KeepsSizes t) (totals : Nat × Nat) : s.KeepsSizes (t.matchTotals totals) := by
  unfold State.matchTotals
  dsimp only
  generalize (if t.timing.reference = some totals then t.timing.matchCount + 1 else 1) = matched
  split
  · exact ((h.setTiming _).setTiming _).report ..
  · exact h.setTiming _

theorem State.KeepsSizes.takeTotals (h : s.KeepsSizes t) (totals : Nat × Nat) : s.KeepsSizes (t.takeTotals totals) := by
  unfold State.takeTotals
  dsimp only
  split
  · split
    · exact h
    · exact h.loseLock.setTiming _
  · exact h.matchTotals totals

theorem State.KeepsSizes.takeFrameStart (h : s.KeepsSizes t) (totals : Nat × Nat) : s.KeepsSizes (t.takeFrameStart totals) := by
  have timed := h.setTiming { t.timing with gapRunning := true }
  have counted : s.KeepsSizes
      (if t.timing.gapRunning then (t.setTiming { t.timing with gapRunning := true }).takeTotals totals
        else t.setTiming { t.timing with gapRunning := true }) := by
    split
    · exact timed.takeTotals totals
    · exact timed
  unfold State.takeFrameStart
  dsimp only
  generalize (if t.timing.gapRunning then (t.setTiming { t.timing with gapRunning := true }).takeTotals totals
    else t.setTiming { t.timing with gapRunning := true }) = u at counted ⊢
  have armed : s.KeepsSizes (u.setRegion { u.region with lineArmed := u.timing.lock }) := counted.setRegion rfl
  split
  · exact (armed.setTiming _).frameBoundary
  split
  · exact armed.frameBoundary
  · exact armed

theorem State.KeepsSizes.takeGapExpiry (h : s.KeepsSizes t) : s.KeepsSizes t.takeGapExpiry := by
  unfold State.takeGapExpiry
  dsimp only
  split
  · split
    · exact (h.setTiming _).loseLock
    · exact h.setTiming _
  · exact h

theorem State.KeepsSizes.takeTick (h : s.KeepsSizes t) : s.KeepsSizes t.takeTick := by
  unfold State.takeTick
  split
  · exact h
  · exact h.frameBoundary.setTiming _

theorem State.KeepsSizes.progressExpiry (h : s.KeepsSizes t) : s.KeepsSizes t.progressExpiry := by
  unfold State.progressExpiry
  dsimp only
  split
  · exact h
  split
  · exact h.setIntake le_rfl
  split
  · exact h.setIntake le_rfl
  · exact (h.setIntake (by rfl)).report ..

theorem State.KeepsSizes.completeTrim (h : s.KeepsSizes t) : s.KeepsSizes t.completeTrim := by
  unfold State.completeTrim
  split
  · exact h
  · exact h.setTrim _

/-! ### Markers (R121 to R125) -/

theorem State.KeepsSizes.markerAccepted (h : s.KeepsSizes t) (m : Marker) : s.KeepsSizes (t.markerAccepted m) := by
  have presence : s.KeepsSizes (t.markerPresence m) := by
    unfold State.markerPresence
    dsimp only
    split
    · exact h.setRegion rfl
    · exact (h.setRegion (by rfl)).report ..
  have region : ∀ u : State, s.KeepsSizes u → s.KeepsSizes (u.markerRegion m) := by
    intro u before
    have sensed : s.KeepsSizes (u.senseCode m) := ((before.setRegion (by rfl)).report ..).settleRegion
    unfold State.markerRegion
    dsimp only
    split
    · exact sensed.setRegion rfl
    · exact before.setRegion rfl
  have identity : ∀ u : State, s.KeepsSizes u → s.KeepsSizes (u.markerIdentity m) := by
    intro u before
    unfold State.markerIdentity State.takeIdentity
    (repeat' split)
    · exact before.setRegion rfl
    · exact before.setRegion rfl
    · exact ((before.setRegion (by rfl)).setRegion (by rfl)).report ..
    · exact before.setRegion rfl
  exact identity _ (region _ presence)

theorem State.KeepsSizes.takeMarkerRead (h : s.KeepsSizes t) (pixels : List Pixel) : s.KeepsSizes (t.takeMarkerRead pixels) := by
  have passed : s.KeepsSizes (t.setRegion { t.region with lineArmed := false }) := h.setRegion rfl
  obtain e | ⟨m, e⟩ | e := t.takeMarkerRead_cases pixels <;> rw [e]
  · exact h
  · exact passed.markerAccepted m
  · unfold State.markerMissed
    (repeat' split)
    · exact passed.markerLost
    · exact passed.setRegion rfl
    · exact passed

theorem State.KeepsSizes.beginDue (h : s.KeepsSizes t) (meets : Bool) : s.KeepsSizes (t.beginDue meets) := by
  unfold State.beginDue
  split
  · exact h.beginRow
  · exact h

/-! ### The key table (R128, R136 to R139) -/

/-- New content of one entry leaves the number of entries. -/
theorem KeyTable.put_length (k : KeyTable) (n : Nat) (e : Option KeyEntry) : (k.put n e).entries.length = k.entries.length :=
  List.length_set ..

/-- The table after a failed write has as many entries as before (R138). -/
theorem KeyTable.fixFailed_length (k : KeyTable) (step : FixStep) (start : Nat) (area : List Host.Cell) :
    (k.fixFailed step start area).entries.length = k.entries.length := by
  unfold KeyTable.fixFailed
  dsimp only
  (repeat' split) <;> exact List.length_map _

theorem State.KeepsSizes.beginFixStep (h : s.KeepsSizes t) (tag : Byte) (count n : Nat) (e : KeyEntry) (step : FixStep) (start : Nat) :
    s.KeepsSizes (t.beginFixStep tag count n e step start) := (h.setKeys (by rfl)).beginWrite ..

theorem State.KeepsSizes.nextFixKey (h : s.KeepsSizes t) (tag : Byte) (count : Nat) : s.KeepsSizes (t.nextFixKey tag count) := by
  unfold State.nextFixKey
  (repeat' split)
  · exact h.beginFixStep ..
  · exact h
  · exact ((h.setKeys (by rfl)).setUnit _).reply ..

theorem State.KeepsSizes.fixVerified (h : s.KeepsSizes t) (tag : Byte) (count n : Nat) (e : KeyEntry) (step : FixStep) (start : Nat) :
    s.KeepsSizes (t.fixVerified tag count n e step start) := by
  cases step with
  | spaceWord => exact (h.setKeys (by rfl)).beginFixStep ..
  | header | body => exact h.beginFixStep ..
  | mark => exact (h.setKeys (by exact KeyTable.put_length ..)).nextFixKey ..

theorem State.KeepsSizes.takeFixWrite (h : s.KeepsSizes t) (outcome : WriteOutcome) : s.KeepsSizes (t.takeFixWrite outcome) := by
  have ended := h.setNv (t.nv.endWrite outcome)
  unfold State.takeFixWrite State.failFix
  dsimp only
  (repeat' split)
  · exact ended.fixVerified ..
  · exact ((ended.setKeys (by exact KeyTable.fixFailed_length ..)).setUnit _).reply ..
  · exact h
  · exact h

theorem State.KeepsSizes.takeWithdrawWrite (h : s.KeepsSizes t) (outcome : WriteOutcome) : s.KeepsSizes (t.takeWithdrawWrite outcome) := by
  have ended := h.setNv (t.nv.endWrite outcome)
  unfold State.takeWithdrawWrite
  dsimp only
  (repeat' split)
  all_goals first
    | exact h
    | exact ((ended.setKeys (by exact KeyTable.put_length ..)).setUnit _).reply ..

/-! ### The unit's life (R165 to R173) -/

theorem State.KeepsSizes.enterOpen (h : s.KeepsSizes t) (given : Nat) : s.KeepsSizes (t.enterOpen given) :=
  (((h.setUnit _).writeGiven given).restart .all).setMode .working

theorem State.KeepsSizes.takeOpenWrite (h : s.KeepsSizes t) (outcome : WriteOutcome) : s.KeepsSizes (t.takeOpenWrite outcome) := by
  have ended := h.setNv (t.nv.endWrite outcome)
  unfold State.takeOpenWrite
  dsimp only
  (repeat' split)
  · exact ((ended.setUnit _).enterOpen _).reply ..
  · exact (ended.setUnit _).reply ..
  · exact h

theorem State.KeepsSizes.commitNext (h : s.KeepsSizes t) (tag : Byte) (step : CommitStep) : s.KeepsSizes (t.commitNext tag step) := by
  cases step with
  | closingMark | gridRecord | regionRecord | tuningRecord => exact (h.setUnit _).beginWrite ..
  | closedMark identity => exact h

theorem State.KeepsSizes.takeCommitWrite (h : s.KeepsSizes t) (outcome : WriteOutcome) : s.KeepsSizes (t.takeCommitWrite outcome) := by
  have ended := h.setNv (t.nv.endWrite outcome)
  unfold State.takeCommitWrite
  dsimp only
  split
  · split
    · split
      · exact ((((ended.setUnit _).setApplier _).setMode _).setRegion (by rfl)).reply ..
      · exact ended.commitNext ..
    · exact (ended.setUnit _).settleCurrent.reply ..
  · exact h

theorem State.KeepsSizes.takeReopenWrite (h : s.KeepsSizes t) (outcome : WriteOutcome) : s.KeepsSizes (t.takeReopenWrite outcome) := by
  have ended := h.setNv (t.nv.endWrite outcome)
  unfold State.takeReopenWrite
  dsimp only
  (repeat' split)
  · exact (((ended.setUnit _).clearLoopState.writeGiven _).setMode .working).reply ..
  · exact (ended.setUnit _).reply ..
  · exact h

end

end Sys2Proof.Machine

/-! SUPPORT. Capacities and table sizes through requests, resets and start-ups, and through every command. -/

namespace Sys2Proof.Machine
open Sys2Proof

section
variable {s t : State}

/-! ### Requests of grid memory and the intake -/

theorem State.KeepsSizes.takeSetTuning (h : s.KeepsSizes t) (tag : Byte) (f : TuningFields) : s.KeepsSizes (t.takeSetTuning tag f) := by
  unfold State.takeSetTuning
  dsimp only
  (repeat' split)
  · exact h.reply ..
  · exact h.reply ..
  · exact (h.retune _).reply ..

theorem State.KeepsSizes.takeSetLevels (h : s.KeepsSizes t) (tag : Byte) {codes : List Half} (five : codes.length = 5) :
    s.KeepsSizes (t.takeSetLevels tag codes) := by
  have levelled : s.KeepsSizes (t.setGrid { t.grid with levels := codes.map (·.toNat) }) :=
    h.setGrid fun sized => { sized with levels := (List.length_map _).trans five }
  unfold State.takeSetLevels
  (repeat' split)
  · exact h.reply ..
  · exact h.reply ..
  · exact h.reply ..
  · exact levelled.restartReplying ..

theorem State.KeepsSizes.takeSetAims (h : s.KeepsSizes t) (tag : Byte) {aims : List Half} (sixteen : aims.length = 16) :
    s.KeepsSizes (t.takeSetAims tag aims) := by
  unfold State.takeSetAims
  split
  · exact h.reply ..
  · exact h.takeOrHold _ _ ((List.length_map _).trans sixteen)

theorem State.KeepsSizes.takeSetPin (h : s.KeepsSizes t) (tag slice : Byte) (node : Half) (value : Byte) :
    s.KeepsSizes (t.takeSetPin tag slice node value) := by
  unfold State.takeSetPin
  (repeat' split)
  · exact h.reply ..
  · exact h.reply ..
  · exact h.takeOrHold _ _ trivial

theorem State.KeepsSizes.takeGridRestart (h : s.KeepsSizes t) (tag slice : Byte) : s.KeepsSizes (t.takeGridRestart tag slice) := by
  unfold State.takeGridRestart
  (repeat' split)
  · exact h.reply ..
  · exact h.reply ..
  · exact h.reply ..
  · exact h.restartReplying ..

/-- A received row touches the received sets alone (R54). -/
theorem Sequencer.receive_collections (q : Sequencer) (tag row : Nat) :
    (q.receive tag row).list = q.list ∧ (q.receive tag row).history.length = q.history.length :=
  ⟨rfl, List.length_map _⟩

/-- An accepted row joins a queue that held fewer than eight (R49, R51). -/
theorem State.KeepsSizes.takeMeasure (h : s.KeepsSizes t) (tag patchTag row : Byte) (counts : List Half) :
    s.KeepsSizes (t.takeMeasure tag patchTag row counts) := by
  unfold State.takeMeasure
  dsimp only
  split
  · exact h.reply ..
  split
  · exact h.reply ..
  split
  · exact h.reply ..
  split
  · exact h.reply ..
  split
  · exact h.reply ..
  split
  · exact h.reply ..
  split
  · exact h.reply ..
  · rename_i room
    obtain ⟨-, history⟩ := t.seq.receive_collections patchTag.toNat row.toNat
    have received : s.KeepsSizes (t.setSeq (t.seq.receive patchTag.toNat row.toNat)) := h.setSeq le_rfl history.le
    exact State.KeepsSizes.advanceRows { received with queue := fun _ => by simpa using Nat.lt_of_not_le room }

/-! ### Requests of the region unit, the sequencer, the key table and the checker -/

theorem State.KeepsSizes.takeLoadProfile (h : s.KeepsSizes t) (tag slot : Byte) (f : ProfileFields) :
    s.KeepsSizes (t.takeLoadProfile tag slot f) := by
  unfold State.takeLoadProfile
  dsimp only
  (repeat' split)
  · exact h.reply ..
  · exact h.reply ..
  · exact h.reply ..
  · exact h.reply ..
  · exact (h.setRegion (by exact List.length_set ..)).settleCurrent.reply ..

theorem State.KeepsSizes.takeSetRegion (h : s.KeepsSizes t) (tag : Byte) (code : Half) : s.KeepsSizes (t.takeSetRegion tag code) := by
  unfold State.takeSetRegion
  dsimp only
  (repeat' split)
  all_goals first
    | exact h.reply ..
    | exact (h.writeGiven _).reply ..

/-- The requests that move the sequencer leave its list and its history (R73 to R78). -/
theorem State.KeepsSizes.moveSequencer (h : s.KeepsSizes t) (tag : Byte) :
    s.KeepsSizes (t.takeArm tag) ∧ s.KeepsSizes (t.takeDisarm tag) ∧ s.KeepsSizes (t.takeStart tag) ∧ s.KeepsSizes (t.takeStop tag) ∧
      s.KeepsSizes (t.takeHalt tag) ∧ s.KeepsSizes (t.takeAdvance tag) := by
  unfold State.takeArm State.takeDisarm State.takeStart State.takeStop State.takeHalt State.takeAdvance
  refine ⟨?_, ?_, ?_, ?_, ?_, ?_⟩
  all_goals
    (repeat' split) <;> first
      | exact h.reply ..
      | exact (h.setSeq (by rfl) (by rfl)).reply ..

/-- An appended patch joins a list that held fewer than sixteen (R69). -/
theorem State.KeepsSizes.takePatchAppend (h : s.KeepsSizes t) (tag patchTag slice settle : Byte) (hold : Half) (auto : Byte) :
    s.KeepsSizes (t.takePatchAppend tag patchTag slice settle hold auto) := by
  unfold State.takePatchAppend
  dsimp only
  split
  · exact h.reply ..
  split
  · exact h.reply ..
  split
  · exact h.reply ..
  split
  · exact h.reply ..
  · rename_i room
    have appended : ∀ p, s.KeepsSizes (t.setSeq { t.seq with list := t.seq.list ++ [p] }) := fun p =>
      { h with list := fun _ => by simpa using Nat.lt_of_not_le room }
    exact (appended _).reply ..

theorem State.KeepsSizes.takePatchClear (h : s.KeepsSizes t) (tag : Byte) : s.KeepsSizes (t.takePatchClear tag) := by
  unfold State.takePatchClear
  split
  · exact h.reply ..
  · exact (h.setSeq (by exact Nat.zero_le _) (by rfl)).reply ..

theorem State.KeepsSizes.takeKeyBegin (h : s.KeepsSizes t) (tag : Byte) (id : Half) (cls : Byte) (length : Half) (check : Quad)
    (regions : List Half) : s.KeepsSizes (t.takeKeyBegin tag id cls length check regions) := by
  unfold State.takeKeyBegin
  (repeat' split)
  all_goals first
    | exact h.reply ..
    | exact (h.setKeys (by exact KeyTable.put_length ..)).reply ..

theorem State.KeepsSizes.takeKeyChunk (h : s.KeepsSizes t) (tag : Byte) (id offset : Half) (body : List Byte) :
    s.KeepsSizes (t.takeKeyChunk tag id offset body) := by
  have judged : ∀ u : State, s.KeepsSizes u → ∀ e, s.KeepsSizes (u.reportKeyState e) := by
    intro u before e
    unfold State.reportKeyState
    split
    · exact before.report ..
    · exact before
  unfold State.takeKeyChunk
  dsimp only
  (repeat' split)
  all_goals first
    | exact h.reply ..
    | exact (judged _ (h.setKeys (by exact KeyTable.put_length ..)) _).reply ..

theorem State.KeepsSizes.takeKeyDiscard (h : s.KeepsSizes t) (tag : Byte) (id : Half) : s.KeepsSizes (t.takeKeyDiscard tag id) := by
  unfold State.takeKeyDiscard
  (repeat' split)
  all_goals first
    | exact h.reply ..
    | exact (h.setKeys (by exact KeyTable.put_length ..)).reply ..

theorem State.KeepsSizes.takeKeyFix (h : s.KeepsSizes t) (tag : Byte) : s.KeepsSizes (t.takeKeyFix tag) := by
  unfold State.takeKeyFix
  (repeat' split)
  · exact h.reply ..
  · exact h.reply ..
  · exact h.reply ..
  · exact h.reply ..
  · exact ((h.setKeys (by exact List.length_map _)).setUnit _).nextFixKey ..

theorem State.KeepsSizes.takeKeyWithdraw (h : s.KeepsSizes t) (tag : Byte) (id : Half) : s.KeepsSizes (t.takeKeyWithdraw tag id) := by
  unfold State.takeKeyWithdraw
  (repeat' split)
  all_goals first
    | exact h.reply ..
    | exact ((h.setKeys (by rfl)).setUnit _).beginWrite ..

theorem State.KeepsSizes.takeSetCheck (h : s.KeepsSizes t) (tag slot : Byte) (f : CheckFields) :
    s.KeepsSizes (t.takeSetCheck tag slot f) := by
  have stored : ∀ n c, s.KeepsSizes (t.setChecks (t.checks.set n c)) := fun n c =>
    { h with checks := (List.length_set ..).trans ∘ h.checks }
  unfold State.takeSetCheck
  (repeat' split)
  · exact h.reply ..
  · exact h.reply ..
  · exact h.reply ..
  · exact (stored _ _).reply ..

/-! ### Requests of the unit controller -/

theorem State.KeepsSizes.takeOpen (h : s.KeepsSizes t) (tag : Byte) (given : Half) (serial : List Byte) :
    s.KeepsSizes (t.takeOpen tag given serial) := by
  unfold State.takeOpen
  (repeat' split)
  · exact h.reply ..
  · exact h.reply ..
  · exact h.reply ..
  · exact (h.setUnit _).beginWrite ..
  · exact h.reply ..
  · exact (h.enterOpen _).reply ..

theorem State.KeepsSizes.takeClose (h : s.KeepsSizes t) (tag : Byte) : s.KeepsSizes (t.takeClose tag) := by
  unfold State.takeClose
  split
  · exact h.reply ..
  · exact ((h.setUnit _).recomputeUnknown.setUnit _).beginWrite ..

theorem State.KeepsSizes.takeReopen (h : s.KeepsSizes t) (tag : Byte) : s.KeepsSizes (t.takeReopen tag) := by
  unfold State.takeReopen
  (repeat' split)
  · exact h.reply ..
  · exact h.reply ..
  · exact h.reply ..
  · exact (h.setUnit _).beginWrite ..

theorem State.KeepsSizes.takePartReset (h : s.KeepsSizes t) (tag : Byte) : s.KeepsSizes (t.takePartReset tag) := by
  unfold State.takePartReset
  split
  · exact h.reply ..
  · exact (h.setUnit _).reply ..

/-- The requests that only read pass a reply and nothing else. -/
theorem State.KeepsSizes.read (h : s.KeepsSizes t) (tag : Byte) :
    (∀ slice first count, s.KeepsSizes (t.takeReadNodes tag slice first count)) ∧
      (∀ first count, s.KeepsSizes (t.takeReadZones tag first count)) ∧
      (∀ id offset count, s.KeepsSizes (t.takeKeyFetch tag id offset count)) ∧ s.KeepsSizes (t.takeKeyList tag) ∧
      s.KeepsSizes (t.takeEvaluate tag) := by
  unfold State.takeReadNodes State.takeReadZones State.takeKeyFetch State.takeKeyList State.takeEvaluate
  refine ⟨fun _ _ _ => ?_, fun _ _ => ?_, fun _ _ _ => ?_, ?_, ?_⟩
  all_goals (repeat' split) <;> exact h.reply ..

/-- Every request whose length suits its kind keeps the sizes. -/
theorem State.KeepsSizes.takeRequest (h : s.KeepsSizes t) (p : Port) (tag : Byte) {r : Request} (suits : r.lengthSuits = true) :
    s.KeepsSizes (t.takeRequest p tag r) := by
  obtain ⟨arm, disarm, start, stop, halt, advance⟩ := h.moveSequencer tag
  obtain ⟨nodes, zones, fetch, keyList, evaluate⟩ := h.read tag
  cases r with
  | status => exact h.reply ..
  | readRegion => exact h.reply ..
  | keyFetch => exact fetch ..
  | openUnit => exact h.takeOpen ..
  | close => exact h.takeClose ..
  | reopen => exact h.takeReopen ..
  | partReset => exact h.takePartReset ..
  | setTuning => exact h.takeSetTuning ..
  | setLevels => exact h.takeSetLevels _ (of_decide_eq_true suits)
  | setAims => exact h.takeSetAims _ (of_decide_eq_true suits)
  | setPin => exact h.takeSetPin ..
  | gridRestart => exact h.takeGridRestart ..
  | readNodes => exact nodes ..
  | readZones => exact zones ..
  | measure => exact h.takeMeasure ..
  | arm => exact arm
  | disarm => exact disarm
  | start => exact start
  | stop => exact stop
  | halt => exact halt
  | advance => exact advance
  | patchAppend => exact h.takePatchAppend ..
  | patchClear => exact h.takePatchClear ..
  | loadProfile => exact h.takeLoadProfile ..
  | setRegion => exact h.takeSetRegion ..
  | keyBegin => exact h.takeKeyBegin ..
  | keyChunk => exact h.takeKeyChunk ..
  | keyDiscard => exact h.takeKeyDiscard ..
  | keyFix => exact h.takeKeyFix ..
  | keyWithdraw => exact h.takeKeyWithdraw ..
  | keyList => exact keyList
  | setCheck => exact h.takeSetCheck ..
  | evaluate => exact evaluate

/-! ### Resets and start-up (R161, R162) -/

/-- After a reset every collection is empty and every table has its size, whatever the state before. -/
theorem State.volatileReset_keepsSizes (s : State) (cause : ResetCause) (nv : NvStore) (pending : List Instr) (choices : Nat) :
    s.KeepsSizes (State.volatileReset cause nv pending choices) where
  list _ := Nat.zero_le _
  history _ := Nat.zero_le _
  queue _ := Nat.zero_le _
  reports _ := Nat.zero_le _
  entries _ := List.length_replicate
  grid _ := Grid.fresh_sized
  slots _ := List.length_replicate
  checks _ := List.length_replicate

/-- The rebuilt table has 24 entries, however many keys the area holds (R128, R141). -/
theorem KeyTable.rebuilt_length (area : List Host.Cell) : (KeyTable.rebuilt area).entries.length = 24 := by
  simp only [KeyTable.rebuilt, List.length_append, List.length_map, List.length_take, List.length_replicate]
  omega

theorem State.KeepsSizes.loadMark (h : s.KeepsSizes t) (cause : ResetCause) : s.KeepsSizes (t.loadMark cause) := by
  unfold State.loadMark
  split
  · exact h
  · split
    · exact h.setUnit _
    · exact h.setUnit _
    · dsimp only
      have loaded : ∀ {u : State}, s.KeepsSizes u → s.KeepsSizes (u.setRegion (Region.loaded t.nv.loadedProfile)) :=
        fun before => { before with slots := fun _ => List.length_replicate }
      exact (((loaded (h.setUnit _)).setGrid fun _ => Grid.loaded_sized ..).setApplier _).setTiming _

theorem State.startedUp_keepsSizes (s : State) (cause : ResetCause) : s.KeepsSizes (s.startedUp cause) := by
  have rebuilt : s.KeepsSizes (s.loading cause) := by
    unfold State.loading
    exact { s.volatileReset_keepsSizes cause s.nv s.pending s.choices with entries := fun _ => KeyTable.rebuilt_length _ }
  exact ((rebuilt.loadMark cause).setTiming _).setPower _

/-! ### Every command -/

theorem State.Event.keepsSizes {c : Instr} (event : s.Event c t) : s.KeepsSizes t := by
  have h := State.KeepsSizes.refl s
  cases event with
  | frameStart => exact h.takeFrameStart _
  | gapExpiry => exact h.takeGapExpiry
  | tick => exact h.takeTick
  | trimSent => exact h.completeTrim
  | progress => exact h.progressExpiry
  | marker line => exact (h.takeMarkerRead line.pixels).beginDue line.meets
  | count => exact h.stepRow
  | openWrite outcome => exact h.takeOpenWrite outcome
  | commitWrite outcome => exact h.takeCommitWrite outcome
  | reopenWrite outcome => exact h.takeReopenWrite outcome
  | fixWrite outcome => exact h.takeFixWrite outcome
  | withdrawWrite outcome => exact h.takeWithdrawWrite outcome

/-- Every command keeps the sizes. -/
theorem exec_keepsSizes {c : Instr} (run : exec c s = .next t) : s.KeepsSizes t := by
  cases exec_cases run with
  | nothing => exact .refl s
  | reset source cut command => exact s.volatileReset_keepsSizes ..
  | startup cause held command => exact s.startedUp_keepsSizes cause
  | requestedReset p running due command => exact (s.volatileReset_keepsSizes ..).arbitrate
  | ports u running only => exact (only.blocks.keepsSizes only.reports).arbitrate
  | request u p tag r running taken =>
    have reports : u.station.reports = s.station.reports := taken.same.reports .station
    have arrived := taken.same.blocks.keepsSizes (by rw [reports]; exact id)
    exact (arrived.takeRequest p tag taken.suits).arbitrate
  | event u running event => exact event.keepsSizes.arbitrate

/-- Every step keeps the sizes. -/
theorem step_keepsSizes (run : step s = .next t) : s.KeepsSizes t := by
  obtain ⟨-, rfl⟩ | ⟨c, rest, -, run⟩ := step_cases run
  · exact .refl t
  · exact (show s.KeepsSizes (s.setPending rest) from { State.KeepsSizes.refl s with }).trans (exec_keepsSizes run)

end

end Sys2Proof.Machine

/-! CERTIFICATE. Capacities and table sizes (O50). -/

namespace Sys2Proof
open Sys2Proof.Machine

/-- Settles O50: a step keeps each capacity and each table's size by itself, whatever the others are. -/
theorem collectionsKeepTheirSizes : Obligations.CollectionsKeepTheirSizes :=
  ⟨fun _ _ run => (step_keepsSizes run).withinCapacities, fun _ _ run => (step_keepsSizes run).shaped⟩

end Sys2Proof

/-! SUPPORT. MEASURE behind the unit's phase and the row's range (R51, R54), and what a progress timer's expiry sends (R64, R65). -/

namespace Sys2Proof.Machine
open Sys2Proof

section
variable {s : State} {tag patchTag row : Byte} {counts : List Half} {q : Patch}

/-- A MEASURE of 32 counts at an unclosed unit reaches the intake, and then the arbiters act (R171, R179). -/
theorem exec_measure (h : s.AdmitsUnclosed tag) (whole : counts.length = 32) :
    exec (.measure .station tag patchTag row counts) s = .next (s.takeMeasure tag patchTag row counts).arbitrate :=
  State.request_unclosed (r := .measure patchTag row counts) (by simp [Request.wellFormed, Request.payloadLength, whole])
    (decide_eq_true whole) h (by simp [Request.kind])

/-- MEASURE for a patch shown, past its first three checks (R51). -/
theorem State.takeMeasure_shown (opened : s.unit.phase = .opened) (inRange : row.toNat ≤ 17)
    (shown : s.seq.findShown patchTag.toNat = some q) :
    s.takeMeasure tag patchTag row counts =
      if q.ready = false then s.refuseMeasure tag patchTag row .notReady
      else if row.toNat ∈ q.received then s.refuseMeasure tag patchTag row .duplicateRow
      else if s.grid.aims.getD q.slice 0 = 0 then s.refuseMeasure tag patchTag row .noAim
      else if 8 ≤ s.intake.queue.length then s.refuseMeasure tag patchTag row .full
      else
        ((s.setSeq (s.seq.receive patchTag.toNat row.toNat)).setIntake
          { s.intake with
            queue :=
              s.intake.queue ++
                [{ frameTag := tag, patchTag := patchTag.toNat, showNumber := q.showNumber.getD 0, slice := q.slice,
                   row := row.toNat, counts := counts.map (·.toNat) }] }).advanceRows := by
  rw [State.takeMeasure, if_neg (not_not_intro opened), if_neg (Nat.not_lt.mpr inRange), shown]

end

/-- The progress timer's expiry at a running part is the report it sends, and then the arbiters act (R64). -/
theorem exec_progressTimerExpiry {s : State} (running : s.power = .running) :
    exec .progressTimerExpiry s = .next s.progressExpiry.arbitrate :=
  congrArg Host.Outcome.next (State.event_running running _)

/-- During a run the timer runs on, and a report goes out while some record of the current slice is SEEKING (R64, R65). -/
theorem State.progressExpiry_run {s : State} {ms : Nat} {q : Patch} (timer : s.intake.progress = some ms)
    (current : s.seq.current = some q) :
    s.progressExpiry =
      if s.grid.countState q.slice .seeking = 0 then
        s.setIntake { s.intake with progress := some (progressPeriod s.grid.tuning) }
      else
        (s.setIntake { s.intake with progress := some (progressPeriod s.grid.tuning) }).report 0x73
          (u8 q.slice ++ u16 (s.grid.countState q.slice .seeking) ++ u16 (s.grid.countState q.slice .locked) ++
            u16 (s.grid.countState q.slice .stalled) ++ u16 (s.grid.countState q.slice .pinned) ++ u32 s.seq.showNumber) := by
  rw [State.progressExpiry, timer]
  dsimp only
  rw [current]

end Sys2Proof.Machine

/-! CERTIFICATE. MEASURE (O23) and PROGRESS (O24). -/

namespace Sys2Proof
open Sys2Proof.Machine

/-- Settles O23: the seven checks one after another, each with those before it passed, and the acceptance past them all. -/
theorem measureChecksAndQueuesTheRow : Obligations.MeasureChecksAndQueuesTheRow := by
  refine ⟨fun s tag patchTag row counts q h whole inRange shown ready fresh aimed room => ?_, fun s tag patchTag row counts h whole => ?_⟩
  · have unclosed : s.AdmitsUnclosed tag := ⟨h.admits, by simp [h.opened]⟩
    rw [exec_measure unclosed whole, State.takeMeasure_shown h.opened inRange shown, if_neg (by simp [ready]), if_neg fresh, if_neg aimed,
      if_neg (Nat.not_le.mpr room)]
  · rw [exec_measure h whole]
    refine ⟨fun elsewhere => ?_, fun opened beyond => ?_, fun opened inRange unknown => ?_, fun q opened inRange shown => ?_⟩
    · rw [State.takeMeasure, if_pos elsewhere]
      rfl
    · rw [State.takeMeasure, if_neg (not_not_intro opened), if_pos beyond]
      rfl
    · rw [State.takeMeasure, if_neg (not_not_intro opened), if_neg (Nat.not_lt.mpr inRange), unknown]
      rfl
    · rw [State.takeMeasure_shown opened inRange shown]
      refine ⟨fun unready => ?_, fun ready twice => ?_, fun ready fresh unaimed => ?_, fun ready fresh aimed full => ?_⟩
      · rw [if_pos unready]
        rfl
      all_goals rw [if_neg (show ¬ q.ready = false by simp [ready])]
      · rw [if_pos twice]
        rfl
      all_goals rw [if_neg fresh]
      · rw [if_pos unaimed]
        rfl
      · rw [if_neg aimed, if_pos full]
        rfl

/-- Settles O24: the expiry with and without a SEEKING record. -/
theorem progressReportsTheCurrentSlice : Obligations.ProgressReportsTheCurrentSlice := by
  intro s ms q running timer current
  rw [exec_progressTimerExpiry running, State.progressExpiry_run timer current]
  refine ⟨fun still => ?_, fun seeking => ?_⟩
  · rw [if_pos still]
    rfl
  · rw [if_neg seeking]
    rfl

end Sys2Proof

/-! SUPPORT. The end of a patch (R82, R83), and what a frame carries by the sequencer's state and the applier's mode (R72, R85, R97,
R103). -/

namespace Sys2Proof.Machine
open Sys2Proof

/-! ### The end of a patch -/

/-- The current patch ended and reported, what follows still to be decided (R82). -/
def State.patchDone (s : State) (p : Patch) (reason : EndReason) : State :=
  (s.setSeq (s.seq.retire { p with endReason := some reason })).reportDone p reason

/-- Of a full history the oldest record makes room for the ended one (R82). -/
theorem Sequencer.retire_few {q : Sequencer} (few : q.history.length ≤ 4) (p : Patch) :
    q.retire p = { q with current := none, history := (if q.history.length = 4 then q.history.tail else q.history) ++ [p] } := by
  rw [Sequencer.retire]
  split
  · rename_i full
    rw [full, List.drop_append_of_le_length (by omega), List.drop_one]
  · rw [show q.history.length + 1 - 4 = 0 by omega, List.drop_zero]

/-- The end of a patch touches the sequencer, by the retirement, and the report queue alone (R82). -/
theorem State.patchDone_frame (s : State) (p : Patch) (reason : EndReason) :
    (s.patchDone p reason).seq = s.seq.retire { p with endReason := some reason } ∧ (s.patchDone p reason).intake = s.intake ∧
      (s.patchDone p reason).timing = s.timing := by
  simp [State.patchDone]

/-- What follows a patch's end, in the order of R83. -/
theorem State.endPatch_eq (s : State) (p : Patch) (reason : EndReason) :
    s.endPatch p reason =
      if s.seq.haltRequested = true then (s.patchDone p reason).endRun .halted
      else if s.seq.state = .stopping then (s.patchDone p reason).endRun .stopped
      else if s.seq.list = [] then (s.patchDone p reason).endRun .listEmpty
      else if maxShow ≤ s.seq.showNumber then (s.patchDone p reason).endRun .limit
      else (s.patchDone p reason).setSeq (s.seq.retire { p with endReason := some reason }).beginDisplay := by
  obtain ⟨seq, -⟩ := s.patchDone_frame p reason
  unfold State.endPatch
  dsimp only
  rw [← State.patchDone, seq]
  rfl

/-- The run's end once the patch has ended: the sequencer ARMED, the timer stopped, a deferred rate in force, SEQ_STOPPED (R83, R93). -/
theorem State.endRun_patchDone (s : State) (p : Patch) (reason : EndReason) (stop : RunEnd) :
    (s.patchDone p reason).endRun stop =
      ((((s.patchDone p reason).setSeq
        { s.seq.retire { p with endReason := some reason } with
          state := .armed, current := none, haltRequested := false, advanceRequested := false }).setIntake
            { s.intake with progress := none }).setTiming
              { s.timing with rate := s.timing.deferred.getD s.timing.rate, deferred := none }).report 0x72
        (u8 stop.code ++ u8 s.seq.list.length ++ u32 s.seq.showNumber) := by
  obtain ⟨seq, intake, timing⟩ := s.patchDone_frame p reason
  rw [State.endRun, seq, intake, timing]
  rfl

/-- The head of the list begins display under the next show number, while that is below its greatest (R71, R80). -/
theorem Sequencer.beginDisplay_cons {q : Sequencer} {p : Patch} {rest : List Patch} (list : q.list = p :: rest)
    (counts : q.showNumber < maxShow) :
    q.beginDisplay =
      { q with
        list := rest
        showNumber := q.showNumber + 1
        haltRequested := false
        advanceRequested := false
        current :=
          some
            { p with
              showNumber := some (q.showNumber + 1), subPhase := some .settle, settleCounter := p.settleFrames, holdCount := 0,
              ready := false, completed := [] } } := by
  rw [Sequencer.beginDisplay, list]
  dsimp only
  rw [Nat.min_eq_left counts]

/-! ### What a frame carries -/

/-- In a run the frame carries the current patch's picture (R85). -/
theorem State.framePicture_run {s : State} {p : Patch} (run : s.seq.inRun = true) (current : s.seq.current = some p) :
    s.framePicture = patchPicture s.grid p.slice := by
  have state : s.seq.state = .running ∨ s.seq.state = .stopping := of_decide_eq_true run
  unfold State.framePicture
  obtain state | state := state <;> rw [state] <;> dsimp only <;> rw [current]

/-- The five levels of each colour in turn, then white at the greatest level (R85). -/
theorem patchPicture_colour (g : Grid) {n : Nat} (level : n < 5) :
    patchPicture g n = .uniform (g.code n) 0 0 ∧ patchPicture g (5 + n) = .uniform 0 (g.code n) 0 ∧
      patchPicture g (10 + n) = .uniform 0 0 (g.code n) := by
  unfold patchPicture
  refine ⟨if_pos level, ?_, ?_⟩
  · rw [if_neg (by omega), if_pos (by omega), Nat.add_sub_cancel_left]
  · rw [if_neg (by omega), if_neg (by omega), if_pos (by omega), Nat.add_sub_cancel_left]

end Sys2Proof.Machine

/-! CERTIFICATE. The end of a patch, and what a frame carries (O28). -/

namespace Sys2Proof
open Sys2Proof.Machine

/-- Settles O28: the patch's end in its parts, then each of its five sequels; the frame by the sequencer's state and the applier's mode. -/
theorem endedPatchEntersTheHistory : Obligations.EndedPatchEntersTheHistory := by
  refine ⟨fun s q reason few run => ?_, fun s => ?_⟩
  · intro retired reported stopped
    have retire : s.seq.retire { q with endReason := some reason } = retired.seq := Sequencer.retire_few few _
    have done : s.patchDone q reason = reported := by
      rw [State.patchDone, retire]
      rfl
    have stops : ∀ stop : RunEnd, (s.patchDone q reason).endRun stop = stopped (BitVec.ofNat 8 stop.code) := fun stop => by
      rw [State.endRun_patchDone, retire, done]
      rfl
    rw [State.endPatch_eq]
    refine ⟨fun halt => ?_, fun on stopping => ?_, fun on running empty => ?_, fun on running more limit => ?_,
      fun p rest on running list counts => ?_⟩
    · rw [if_pos halt]
      exact stops .halted
    all_goals rw [if_neg (show ¬ s.seq.haltRequested = true by simp [on])]
    · rw [if_pos stopping]
      exact stops .stopped
    all_goals rw [if_neg (show ¬ s.seq.state = .stopping by simp [running])]
    · rw [if_pos empty]
      exact stops .listEmpty
    · rw [if_neg more, if_pos (show maxShow ≤ _ from limit)]
      exact stops .limit
    · rw [if_neg (by simp [list]), if_neg (show ¬ maxShow ≤ _ from Nat.not_le.mpr counts), retire, done]
      exact congrArg reported.setSeq (Sequencer.beginDisplay_cons (q := retired.seq) list counts)
  · intro level
    refine ⟨fun idle => ?_, fun armed => ?_, fun q run current => ?_, fun bypass => ?_, fun working => ?_, fun committed => ?_⟩
    · rw [State.framePicture, idle]
    · rw [State.framePicture, armed]
      rfl
    · rw [State.framePicture_run run current]
      refine ⟨fun n few => ?_, fun white => by rw [white]; rfl⟩
      obtain ⟨red, green, blue⟩ := patchPicture_colour s.grid few
      exact ⟨fun slice => slice ▸ red, fun slice => slice ▸ green, fun slice => slice ▸ blue⟩
    · rw [State.frameViewNow, State.trimSource, bypass]
      exact ⟨rfl, rfl⟩
    · rw [State.frameViewNow, State.trimSource, working]
      exact ⟨rfl, rfl⟩
    · rw [State.frameViewNow, State.trimSource, committed]
      exact ⟨rfl, rfl⟩

end Sys2Proof

/-! SUPPORT. The laws of the sequencer (R68, R72): what its requests, its frame boundaries and the rows of the intake do to the tags of
its records, and to current patch, progress timer and requests. -/

namespace Sys2Proof.Machine
open Sys2Proof

section
variable {s t u : State} {q : Sequencer} {p : Patch}

/-! ### Tags -/

/-- The tags of every record held, in order: list, current patch, history (R68). -/
def Sequencer.tags (q : Sequencer) : List Nat := q.records.map (·.tag)

theorem State.tagsUnique_iff (s : State) : s.TagsUnique ↔ s.seq.tags.Nodup := Iff.rfl

theorem Sequencer.tags_eq (q : Sequencer) :
    q.tags = q.list.map (·.tag) ++ ((q.current.map (·.tag)).toList ++ q.history.map (·.tag)) := by
  cases current : q.current <;> simp [Sequencer.tags, Sequencer.records, current]

/-- The same tags in place, but for records gone from list and history; the sequencer's state and requests are the same. -/
structure Sequencer.Narrows (q q' : Sequencer) : Prop where
  list : (q'.list.map (·.tag)).Sublist (q.list.map (·.tag))
  current : q'.current.map (·.tag) = q.current.map (·.tag)
  history : (q'.history.map (·.tag)).Sublist (q.history.map (·.tag))
  state : q'.state = q.state
  start : q'.startPending = q.startPending
  halt : q'.haltRequested = q.haltRequested
  advance : q'.advanceRequested = q.advanceRequested

theorem Sequencer.Narrows.refl (q : Sequencer) : q.Narrows q := ⟨.refl _, rfl, .refl _, rfl, rfl, rfl, rfl⟩

theorem Sequencer.Narrows.tags {q' : Sequencer} (h : q.Narrows q') : q'.tags.Sublist q.tags := by
  rw [q.tags_eq, q'.tags_eq, h.current]
  exact h.list.append (h.history.append_left _)

/-- The current patch, counted on or settled anew, is the patch it was (R81, R84, R91). -/
theorem Sequencer.Narrows.patched {f : Option Patch} (same : f.map (·.tag) = q.current.map (·.tag)) :
    q.Narrows { q with current := f } := { Sequencer.Narrows.refl q with current := same }

/-- A row received or completed changes no tag (R54, R84). -/
theorem Sequencer.receive_narrows (q : Sequencer) (tag row : Nat) : q.Narrows (q.receive tag row) := by
  have kept : (fun p : Patch => (if p.tag = tag then p.receive row else p).tag) = (·.tag) := by
    funext p
    split <;> rfl
  refine { Sequencer.Narrows.refl q with current := ?_, history := ?_ }
  · simp [Sequencer.receive, Function.comp_def, kept]
  · simp [Sequencer.receive, Function.comp_def, kept]

theorem Sequencer.notice_narrows (q : Sequencer) (tag shown row : Nat) : q.Narrows (q.notice tag shown row) := by
  unfold Sequencer.notice
  split
  · rename_i p current
    split
    · exact .patched (by rw [current]; rfl)
    · exact .refl q
  · exact .refl q

theorem Sequencer.resettled_narrows (q : Sequencer) : q.Narrows { q with current := q.current.map Patch.resettled } := by
  have kept : ∀ p : Patch, p.resettled.tag = p.tag := fun p => by
    unfold Patch.resettled
    split <;> rfl
  exact .patched (by simp [Function.comp_def, kept])

/-- A restart takes records out of the history (R16). -/
theorem Sequencer.restarted_narrows (q : Sequencer) (scope : RestartScope) : q.Narrows (q.restarted scope) :=
  { Sequencer.Narrows.refl q with history := List.filter_sublist.map _ }

/-- The record whose display begins leaves the list for the current patch (R80). -/
theorem Sequencer.beginDisplay_tags (more : q.list ≠ []) (unique : q.tags.Nodup) : q.beginDisplay.tags.Nodup := by
  obtain ⟨p, rest, list⟩ := List.exists_cons_of_ne_nil more
  have without : (p.tag :: (rest.map (·.tag) ++ q.history.map (·.tag))).Nodup := by
    refine unique.sublist ?_
    rw [q.tags_eq, list]
    exact ((List.sublist_append_right ..).append_left _).cons_cons _
  rw [Sequencer.tags_eq, Sequencer.beginDisplay, list]
  exact List.perm_middle.nodup_iff.mpr without

/-- The ended record moves from the current patch to the history, which forgets its oldest (R68, R82). -/
theorem Sequencer.retire_tags (current : q.current.map (·.tag) = some p.tag) (unique : q.tags.Nodup) : (q.retire p).tags.Nodup := by
  rw [q.tags_eq, current] at unique
  have joined : (q.list.map (·.tag) ++ (q.history ++ [p]).map (·.tag)).Nodup := by
    rw [List.map_append]
    exact (List.perm_append_comm.append_left _).nodup_iff.mpr unique
  refine joined.sublist ?_
  rw [(q.retire p).tags_eq]
  exact ((List.drop_sublist ..).map _).append_left _

/-! ### Both laws at once -/

/-- Nothing breaks the laws of the sequencer on the way from one state to another: no tag is held twice, and current patch, progress timer
and requests agree with the sequencer's state (R68, R72). -/
structure State.KeepsPatches (s t : State) : Prop where
  tags : s.TagsUnique → t.TagsUnique
  legal : s.SeqLegal → t.SeqLegal

theorem State.KeepsPatches.refl (s : State) : s.KeepsPatches s := ⟨id, id⟩

theorem State.KeepsPatches.trans (h : s.KeepsPatches t) (next : t.KeepsPatches u) : s.KeepsPatches u :=
  ⟨next.tags ∘ h.tags, next.legal ∘ h.legal⟩

theorem State.KeepsPatches.of_narrows (seq : s.seq.Narrows t.seq) (timer : t.intake.progress.isSome = s.intake.progress.isSome) :
    s.KeepsPatches t := by
  have run : t.seq.inRun = s.seq.inRun := by simp only [Sequencer.inRun, seq.state]
  have current : t.seq.current.isSome = s.seq.current.isSome := by
    simpa using congrArg Option.isSome seq.current
  refine ⟨fun unique => List.Nodup.sublist seq.tags unique, fun legal => ⟨?_, ?_, ?_, ?_, ?_⟩⟩
  · rw [current, run, legal.current]
  · rw [timer, run, legal.progress]
  · rw [seq.start, seq.state]
    exact legal.start
  · rw [seq.halt, run]
    exact legal.halt
  · rw [seq.advance, run]
    exact legal.advance

/-- What touches neither the sequencer nor the progress timer. -/
theorem State.KeepsPatches.of_same (seq : t.seq = s.seq) (timer : t.intake.progress = s.intake.progress) : s.KeepsPatches t :=
  .of_narrows (seq ▸ .refl _) (by rw [timer])

theorem State.KeepsPatches.still (h : s.KeepsPatches t) (seq : u.seq = t.seq) (timer : u.intake.progress = t.intake.progress) :
    s.KeepsPatches u := h.trans (.of_same seq timer)

/-- After a reset the sequencer is in IDLE, with no records and the timer stopped (R87). -/
theorem State.KeepsPatches.of_fresh (seq : t.seq = .fresh) (timer : t.intake.progress = none) : s.KeepsPatches t := by
  refine ⟨fun _ => ?_, fun _ => ⟨?_, ?_, ?_, ?_, ?_⟩⟩
  · rw [State.tagsUnique_iff, seq]
    exact List.nodup_nil
  · rw [seq]
    rfl
  · rw [seq, timer]
    rfl
  all_goals
    rw [seq]
    nofun

/-! ### Requests of the sequencer (R69, R70, R73 to R78) -/

/-- ARM, DISARM, START, and STOP or HALT of a pending start: outside a run, from IDLE and ARMED to these. -/
theorem State.KeepsPatches.rest (outside : s.seq.inRun = false) {state : SeqState} (rests : state = .idle ∨ state = .armed) {start : Bool}
    (armed : start = true → state = .armed) : s.KeepsPatches (s.setSeq { s.seq with state := state, startPending := start }) := by
  have still : ({ s.seq with state := state, startPending := start } : Sequencer).inRun = s.seq.inRun := by
    rw [outside]
    rcases rests with rfl | rfl <;> rfl
  refine ⟨id, fun legal => ⟨?_, ?_, armed, ?_, ?_⟩⟩ <;> rw [State.setSeq_seq, still]
  · exact legal.current
  · exact legal.progress
  · exact legal.halt
  · exact legal.advance

/-- STOP, HALT and ADVANCE during a run, which stays one. -/
theorem State.KeepsPatches.ask (run : s.seq.inRun = true) {state : SeqState} (runs : state = .running ∨ state = .stopping)
    (halt advance : Bool) :
    s.KeepsPatches (s.setSeq { s.seq with state := state, haltRequested := halt, advanceRequested := advance }) := by
  have still : ({ s.seq with state := state, haltRequested := halt, advanceRequested := advance } : Sequencer).inRun = true :=
    decide_eq_true runs
  have running : s.seq.state ≠ .armed := by
    rintro armed
    simp [Sequencer.inRun, armed] at run
  refine ⟨id, fun legal => ⟨?_, ?_, fun start => absurd (legal.start start) running, fun _ => still, fun _ => still⟩⟩ <;>
    rw [State.setSeq_seq, still, ← run]
  · exact legal.current
  · exact legal.progress

theorem Sequencer.inRun_of_state (state : q.state = .running ∨ q.state = .stopping) : q.inRun = true := decide_eq_true state

theorem Sequencer.inRun_of_rest (state : q.state = .idle ∨ q.state = .armed) : q.inRun = false := by
  rcases state with state | state <;> simp [Sequencer.inRun, state]

theorem State.KeepsPatches.reply (h : s.KeepsPatches t) (p : Port) (kind tag : Byte) (status : Status) (fields : List Byte) :
    s.KeepsPatches (t.reply p kind tag status fields) := h.still (by simp) (by simp)

theorem State.KeepsPatches.replySeq (h : s.KeepsPatches t) (kind tag : Byte) : s.KeepsPatches (t.replySeq kind tag) := h.reply ..

theorem State.takeArm_keepsPatches (s : State) (tag : Byte) : s.KeepsPatches (s.takeArm tag) := by
  unfold State.takeArm
  split
  · rename_i idle
    exact (State.KeepsPatches.rest (Sequencer.inRun_of_rest (.inl idle.1)) (.inr rfl) (fun _ => rfl)).replySeq ..
  · exact (State.KeepsPatches.refl s).reply ..

theorem State.takeDisarm_keepsPatches (s : State) (tag : Byte) : s.KeepsPatches (s.takeDisarm tag) := by
  unfold State.takeDisarm
  split
  · rename_i armed
    exact (State.KeepsPatches.rest (start := false) (Sequencer.inRun_of_rest (.inr armed)) (.inl rfl) nofun).replySeq ..
  all_goals exact (State.KeepsPatches.refl s).reply ..

theorem State.takeStart_keepsPatches (s : State) (tag : Byte) : s.KeepsPatches (s.takeStart tag) := by
  unfold State.takeStart
  split
  · exact (State.KeepsPatches.refl s).reply ..
  rename_i armed
  have armed : s.seq.state = .armed := Classical.not_not.mp armed
  (repeat' split)
  · exact (State.KeepsPatches.refl s).reply ..
  · exact (State.KeepsPatches.refl s).reply ..
  · exact (State.KeepsPatches.rest (Sequencer.inRun_of_rest (.inr armed)) (.inr armed) (fun _ => armed)).replySeq ..

/-- A pending start is taken back (R76, R77). -/
theorem State.KeepsPatches.unstart (armed : s.seq.state = .armed) : s.KeepsPatches (s.setSeq { s.seq with startPending := false }) :=
  .rest (Sequencer.inRun_of_rest (.inr armed)) (.inr armed) nofun

theorem State.takeStop_keepsPatches (s : State) (tag : Byte) : s.KeepsPatches (s.takeStop tag) := by
  have here := State.KeepsPatches.refl s
  unfold State.takeStop
  split
  · rename_i running
    exact (State.KeepsPatches.ask (Sequencer.inRun_of_state (.inl running)) (.inr rfl) _ _).replySeq ..
  · exact here.replySeq ..
  · rename_i armed
    split
    · exact (State.KeepsPatches.unstart armed).replySeq ..
    · exact here.reply ..
  · exact here.reply ..

theorem State.takeHalt_keepsPatches (s : State) (tag : Byte) : s.KeepsPatches (s.takeHalt tag) := by
  have here := State.KeepsPatches.refl s
  unfold State.takeHalt
  split
  · rename_i running
    exact (State.KeepsPatches.ask (Sequencer.inRun_of_state (.inl running)) (.inl running) _ _).replySeq ..
  · rename_i stopping
    exact (State.KeepsPatches.ask (Sequencer.inRun_of_state (.inr stopping)) (.inr stopping) _ _).replySeq ..
  · rename_i armed
    split
    · exact (State.KeepsPatches.unstart armed).replySeq ..
    · exact here.reply ..
  · exact here.reply ..

theorem State.takeAdvance_keepsPatches (s : State) (tag : Byte) : s.KeepsPatches (s.takeAdvance tag) := by
  have here := State.KeepsPatches.refl s
  unfold State.takeAdvance
  split
  · rename_i running
    exact (State.KeepsPatches.ask (Sequencer.inRun_of_state (.inl running)) (.inl running) _ _).replySeq ..
  · rename_i stopping
    exact (State.KeepsPatches.ask (Sequencer.inRun_of_state (.inr stopping)) (.inr stopping) _ _).replySeq ..
  all_goals exact here.reply ..

/-- A record under a tag that no record holds joins the list (R69). -/
theorem State.KeepsPatches.append (new : ∀ r ∈ s.seq.records, r.tag ≠ p.tag) :
    s.KeepsPatches (s.setSeq { s.seq with list := s.seq.list ++ [p] }) := by
  refine ⟨fun unique => ?_, fun ⟨current, progress, start, halt, advance⟩ => ⟨current, progress, start, halt, advance⟩⟩
  have added : (p.tag :: s.seq.tags).Nodup := List.nodup_cons.mpr ⟨by simpa [Sequencer.tags] using new, unique⟩
  rw [s.seq.tags_eq] at added
  rw [State.tagsUnique_iff, Sequencer.tags_eq]
  simpa using List.perm_middle.nodup_iff.mpr added

theorem State.takePatchAppend_keepsPatches (s : State) (tag patchTag slice settle : Byte) (hold : Half) (auto : Byte) :
    s.KeepsPatches (s.takePatchAppend tag patchTag slice settle hold auto) := by
  have here := State.KeepsPatches.refl s
  unfold State.takePatchAppend
  split
  · exact here.reply ..
  split
  · exact here.reply ..
  split
  · exact here.reply ..
  rename_i new
  split
  · exact here.reply ..
  · exact (State.KeepsPatches.append (by simpa [patchGiven] using new)).reply ..

theorem State.takePatchClear_keepsPatches (s : State) (tag : Byte) : s.KeepsPatches (s.takePatchClear tag) := by
  have cleared : s.seq.Narrows { s.seq with list := [] } := { Sequencer.Narrows.refl s.seq with list := List.nil_sublist _ }
  unfold State.takePatchClear
  split
  · exact (State.KeepsPatches.refl s).reply ..
  · exact (State.KeepsPatches.of_narrows (t := s.setSeq _) cleared rfl).reply ..

/-! ### Frame boundaries (R79 to R83) -/

/-- The first patch of a run begins display (R79, R80). -/
theorem State.KeepsPatches.begins (more : s.seq.list ≠ []) (period : Nat) :
    s.KeepsPatches
      ((s.setSeq ({ s.seq with startPending := false, state := .running } : Sequencer).beginDisplay).setIntake
        { s.intake with progress := some period }) := by
  refine ⟨fun unique => Sequencer.beginDisplay_tags (q := { s.seq with startPending := false, state := .running }) more unique,
    fun _ => ?_⟩
  obtain ⟨p, rest, list⟩ := List.exists_cons_of_ne_nil more
  constructor <;> simp [Sequencer.beginDisplay, list, Sequencer.inRun]

/-- The current patch ends, and the run with it, or the next patch begins display (R82, R83). -/
theorem State.KeepsPatches.endPatch (run : s.seq.state = .running ∨ s.seq.state = .stopping)
    (current : s.seq.current.map (·.tag) = some p.tag) (reason : EndReason) : s.KeepsPatches (s.endPatch p reason) := by
  refine ⟨fun unique => ?_, fun legal => ?_⟩
  · have retired := Sequencer.retire_tags (p := { p with endReason := some reason }) current unique
    rw [State.tagsUnique_iff, State.endPatch_seq]
    split
    · exact retired
    · rename_i next
      exact Sequencer.beginDisplay_tags (fun empty => next (.inr (.inr (.inl empty)))) retired
  · have notArmed : s.seq.state ≠ .armed := by rcases run with state | state <;> simp [state]
    have unstarted : s.seq.startPending = false := by simpa using mt legal.start notArmed
    have timer : s.intake.progress.isSome = true := legal.progress.trans (decide_eq_true run)
    by_cases ended : s.seq.haltRequested = true ∨ s.seq.state = .stopping ∨ s.seq.list = [] ∨ maxShow ≤ s.seq.showNumber
    · have seq := s.endPatch_seq p reason
      have intake := s.endPatch_progress p reason
      rw [if_pos ended] at seq intake
      constructor <;> simp [seq, intake, Sequencer.inRun]
    · have seq := s.endPatch_seq p reason
      have intake := s.endPatch_progress p reason
      obtain ⟨next, rest, list⟩ := List.exists_cons_of_ne_nil fun empty => ended (.inr (.inr (.inl empty)))
      rw [if_neg ended, Sequencer.beginDisplay, Sequencer.retire, list] at seq
      rw [if_neg ended] at intake
      constructor <;> simp [seq, intake, Sequencer.inRun, run, unstarted, timer]

theorem State.frameBoundary_keepsPatches (s : State) : s.KeepsPatches s.frameBoundary := by
  have boundary : s.KeepsPatches s.sequencerBoundary := by
    have does := s.sequencerBoundary_cases
    generalize s.sequencerBoundary = u at does ⊢
    cases does with
    | nothing => exact .refl s
    | listEmpty armed start empty => exact (State.KeepsPatches.unstart armed).still (by simp) (by simp)
    | begins armed start list => exact .begins list _
    | ends p q reason run current same => exact .endPatch run (by rw [current, same]; rfl) reason
    | counts p q run current same =>
      exact .of_narrows (.patched (by rw [current]; exact congrArg some same.1)) rfl
    | ready p q payload run current same =>
      have counted : s.KeepsPatches (s.setSeq { s.seq with current := some q }) :=
        .of_narrows (.patched (by rw [current]; exact congrArg some same.1)) rfl
      exact counted.still (by simp) (by simp)
  exact boundary.still (by simp [State.frameBoundary]) (by simp [State.frameBoundary])

/-! ### Rows (R54, R55, R84) -/

theorem State.advanceRows_progress (s : State) : s.advanceRows.intake.progress = s.intake.progress := by
  unfold State.advanceRows State.beginRow
  (repeat' split) <;> simp

theorem State.KeepsPatches.advanceRows (h : s.KeepsPatches t) : s.KeepsPatches t.advanceRows :=
  h.still (by simp) t.advanceRows_progress

theorem State.takeMeasure_keepsPatches (s : State) (tag patchTag row : Byte) (counts : List Half) :
    s.KeepsPatches (s.takeMeasure tag patchTag row counts) := by
  have here := State.KeepsPatches.refl s
  unfold State.takeMeasure
  (repeat' split)
  all_goals try exact here.reply ..
  exact State.KeepsPatches.advanceRows (.of_narrows (s.seq.receive_narrows ..) rfl)

theorem State.KeepsPatches.completeRow (h : s.KeepsPatches t) (r : RowInProcess) : s.KeepsPatches (t.completeRow r) := by
  have noticed : ∀ u : State, s.KeepsPatches u → ∀ tag shown row,
      s.KeepsPatches ((u.setSeq (u.seq.notice tag shown row)).setIntake { u.intake with inProcess := none }) :=
    fun u before tag shown row => before.trans (.of_narrows (u.seq.notice_narrows tag shown row) rfl)
  unfold State.completeRow
  dsimp only
  split
  · exact (noticed _ (h.reply ..) _ _ _).trans (.of_same (State.takeHeld_frame _).2.2.1 (by simp))
  · exact (noticed _ (h.reply ..) _ _ _).advanceRows

theorem State.takeCount_seq (s : State) (r : RowInProcess) : (s.takeCount r).1.seq = s.seq := by
  unfold State.takeCount State.takeWhiteCount State.takeColourCount
  dsimp only
  split <;> simp

theorem State.stepRow_keepsPatches (s : State) : s.KeepsPatches s.stepRow := by
  unfold State.stepRow
  split
  · exact .refl s
  · rename_i r row
    have counted : s.KeepsPatches (s.takeCount r).1 := .of_same (s.takeCount_seq r) (by rw [(s.takeCount_rows r).1])
    dsimp only
    split
    · exact counted.completeRow _
    · exact counted.still rfl rfl

theorem State.progressExpiry_keepsPatches (s : State) : s.KeepsPatches s.progressExpiry := by
  refine .of_narrows (by simpa using Sequencer.Narrows.refl s.seq) ?_
  unfold State.progressExpiry
  split
  · rfl
  · rename_i timer
    (repeat' split) <;> simp [timer]

/-! ### Restarts and the unit's life (R16, R87, R166, R173) -/

theorem State.restartReplying_keepsPatches (s : State) (kind tag : Byte) (scope : RestartScope) :
    s.KeepsPatches (s.restartReplying kind tag scope) := by
  obtain ⟨-, seq, intake, -⟩ := s.restart_parts scope
  have restarted : s.KeepsPatches (s.restart scope) :=
    .of_narrows (by rw [seq]; exact s.seq.restarted_narrows scope) (by rw [intake]; rfl)
  exact (restarted.reply ..).advanceRows

theorem State.enterOpen_keepsPatches (s : State) (given : Nat) : s.KeepsPatches (s.enterOpen given) := by
  obtain ⟨-, seq, intake, -⟩ := s.enterOpen_parts given
  exact .of_narrows (by rw [seq]; exact { Sequencer.Narrows.refl s.seq with history := List.nil_sublist _ }) (by rw [intake])

theorem State.takeOpenWrite_keepsPatches (s : State) (outcome : WriteOutcome) : s.KeepsPatches (s.takeOpenWrite outcome) := by
  unfold State.takeOpenWrite
  split
  · dsimp only
    split
    · exact (State.KeepsPatches.trans (.of_same (by simp) (by simp)) (State.enterOpen_keepsPatches _ _)).reply ..
    · exact .of_same (by simp) (by simp)
  · exact .refl s

theorem State.takeReopenWrite_keepsPatches (s : State) (outcome : WriteOutcome) : s.KeepsPatches (s.takeReopenWrite outcome) := by
  have cleared : s.seq.Narrows { s.seq with list := [], history := [], showNumber := 0 } :=
    { Sequencer.Narrows.refl s.seq with list := List.nil_sublist _, history := List.nil_sublist _ }
  unfold State.takeReopenWrite
  split
  · dsimp only
    split
    · refine .of_narrows ?_ (by simp)
      simpa [State.completeReopen, State.clearLoopState] using cleared
    · exact .of_same (by simp) (by simp)
  · exact .refl s

/-! ### Every command -/

/-- The requests that the sequencer owns: ARM to PATCH_CLEAR, by their kinds (R187). -/
def ownedBySequencer (r : Request) : Bool := decide (r.kind ∈ [0x31, 0x32, 0x33, 0x34, 0x35, 0x36, 0x37, 0x38])

/-- The requests of other owners that reach the sequencer's records: restarts, and MEASURE (R16, R54). -/
def reachesSequencer : Request → Bool
  | .setLevels _ | .gridRestart _ | .measure _ _ _ | .openUnit _ _ => true
  | _ => false

/-- Every other request leaves the sequencer and the intake as they are. -/
theorem State.takeRequest_keepsSeq (s : State) (p : Port) (tag : Byte) {r : Request} (other : ownedBySequencer r = false)
    (apart : reachesSequencer r = false) :
    (s.takeRequest p tag r).seq = s.seq ∧ (s.takeRequest p tag r).intake = s.intake := by
  cases r <;> simp [ownedBySequencer, Request.kind] at other <;> simp only [reachesSequencer, Bool.true_eq_false] at apart <;>
    simp only [State.takeRequest, State.takeStatus, State.takeReadRegion, State.takeKeyFetch, State.takeClose, State.beginCommit,
      State.takeReopen, State.takePartReset, State.takeReadNodes, State.takeReadZones, State.takeSetTuning, State.takeSetAims,
      State.takeSetPin, State.takeLoadProfile, State.takeSetRegion, State.takeKeyBegin, State.takeKeyChunk, State.takeKeyDiscard,
      State.takeKeyFix, State.takeKeyWithdraw, State.takeKeyList, State.takeSetCheck, State.takeEvaluate] <;>
    (repeat' split) <;> simp

theorem State.takeRequest_reaching_keepsPatches (s : State) (p : Port) (tag : Byte) {r : Request}
    (reaches : reachesSequencer r ≠ false) : s.KeepsPatches (s.takeRequest p tag r) := by
  have here := State.KeepsPatches.refl s
  cases r <;> simp only [reachesSequencer, not_true_eq_false, ne_eq] at reaches
  case measure => exact s.takeMeasure_keepsPatches ..
  case setLevels codes =>
    have levelled : s.KeepsPatches (s.setGrid { s.grid with levels := codes.map (·.toNat) }) := .of_same rfl rfl
    simp only [State.takeRequest, State.takeSetLevels]
    (repeat' split)
    · exact here.reply ..
    · exact here.reply ..
    · exact here.reply ..
    · exact levelled.trans (State.restartReplying_keepsPatches ..)
  case gridRestart =>
    simp only [State.takeRequest, State.takeGridRestart]
    (repeat' split)
    · exact here.reply ..
    · exact here.reply ..
    · exact here.reply ..
    · exact s.restartReplying_keepsPatches ..
  case openUnit =>
    simp only [State.takeRequest, State.takeOpen]
    (repeat' split)
    · exact here.reply ..
    · exact here.reply ..
    · exact here.reply ..
    · exact .of_same (by simp) (by simp)
    · exact here.reply ..
    · exact (s.enterOpen_keepsPatches _).reply ..

theorem State.takeRequest_keepsPatches (s : State) (p : Port) (tag : Byte) (r : Request) : s.KeepsPatches (s.takeRequest p tag r) := by
  by_cases other : ownedBySequencer r = false
  · by_cases apart : reachesSequencer r = false
    · obtain ⟨seq, intake⟩ := s.takeRequest_keepsSeq p tag other apart
      exact .of_same seq (by rw [intake])
    · exact s.takeRequest_reaching_keepsPatches p tag apart
  cases r <;> simp [ownedBySequencer, Request.kind] at other
  case arm => exact s.takeArm_keepsPatches tag
  case disarm => exact s.takeDisarm_keepsPatches tag
  case start => exact s.takeStart_keepsPatches tag
  case stop => exact s.takeStop_keepsPatches tag
  case halt => exact s.takeHalt_keepsPatches tag
  case advance => exact s.takeAdvance_keepsPatches tag
  case patchAppend => exact s.takePatchAppend_keepsPatches ..
  case patchClear => exact s.takePatchClear_keepsPatches tag

/-- A loss of lock may settle the current patch anew, and that is all (R91). -/
theorem State.KeepsPatches.of_resettled (seq : t.seq = s.seq ∨ t.seq = { s.seq with current := s.seq.current.map Patch.resettled })
    (timer : t.intake.progress = s.intake.progress) : s.KeepsPatches t := by
  rcases seq with seq | seq
  · exact .of_same seq timer
  · exact .of_narrows (by rw [seq]; exact s.seq.resettled_narrows) (by rw [timer])

theorem State.beginDue_progress (s : State) (meets : Bool) : (s.beginDue meets).intake.progress = s.intake.progress := by
  unfold State.beginDue State.beginRow
  (repeat' split) <;> rfl

theorem State.Event.keepsPatches {c : Instr} (event : s.Event c t) : s.KeepsPatches t := by
  cases event with
  | frameStart lines pixels =>
    obtain ⟨u, e, seq, -, -, -, intake, -⟩ := s.takeFrameStart_cases (lines.toNat, pixels.toNat)
    have locked : s.KeepsPatches u := .of_resettled seq (by rw [intake])
    rcases e with e | e <;> rw [e]
    · exact locked
    · exact locked.trans u.frameBoundary_keepsPatches
  | gapExpiry =>
    refine .of_resettled ?_ (by simp)
    unfold State.takeGapExpiry
    dsimp only
    (repeat' split)
    · exact State.loseLock_seq _
    · exact .inl rfl
    · exact .inl rfl
  | tick =>
    unfold State.takeTick
    split
    · exact .refl s
    · exact s.frameBoundary_keepsPatches.still rfl rfl
  | trimSent => exact .of_same (by simp) (by simp)
  | progress => exact s.progressExpiry_keepsPatches
  | marker line =>
    exact .of_same (by simp) (((s.takeMarkerRead line.pixels).beginDue_progress line.meets).trans (by simp))
  | count => exact s.stepRow_keepsPatches
  | openWrite outcome => exact s.takeOpenWrite_keepsPatches outcome
  | commitWrite outcome => exact .of_same (by simp) (by simp)
  | reopenWrite outcome => exact s.takeReopenWrite_keepsPatches outcome
  | fixWrite outcome => exact .of_same (by simp) (by simp)
  | withdrawWrite outcome => exact .of_same (by simp) (by simp)

theorem exec_keepsPatches {c : Instr} (run : exec c s = .next t) : s.KeepsPatches t := by
  have arbitrated : ∀ {u : State}, s.KeepsPatches u → s.KeepsPatches u.arbitrate := fun h => h.still (by simp) (by simp)
  cases exec_cases run with
  | nothing => exact .refl s
  | reset source cut command => exact .of_fresh rfl rfl
  | startup cause held command =>
    obtain ⟨-, -, -, seq, intake, -⟩ := (s.loading cause).loadMark_frame cause
    exact .of_fresh seq (congrArg Intake.progress intake)
  | requestedReset p running due command => exact arbitrated (.of_fresh rfl rfl)
  | ports u running only => exact arbitrated (.of_same only.blocks.seq (by rw [only.blocks.intake]))
  | request u p tag r running taken =>
    have arrived : s.KeepsPatches u := .of_same taken.same.blocks.seq (by rw [taken.same.blocks.intake])
    exact arbitrated (arrived.trans (u.takeRequest_keepsPatches p tag r))
  | event u running event => exact arbitrated event.keepsPatches

theorem step_keepsPatches (run : step s = .next t) : s.KeepsPatches t := by
  obtain ⟨-, rfl⟩ | ⟨c, rest, -, run⟩ := step_cases run
  · exact .refl t
  · exact State.KeepsPatches.trans (t := s.setPending rest) (.of_same rfl rfl) (exec_keepsPatches run)

end

end Sys2Proof.Machine

/-! CERTIFICATE. Patch tags (O51), and what each state of the sequencer means (O53). -/

namespace Sys2Proof
open Sys2Proof.Machine

/-- Settles O51: tags move from list to current patch to history, and a new one is none of those held. -/
theorem patchTagsStayUnique : Obligations.PatchTagsStayUnique := fun _ _ run => (step_keepsPatches run).tags

/-- Settles O53, by the same pass over the commands. -/
theorem sequencerStatesAreKept : Obligations.SequencerStatesAreKept := fun _ _ run => (step_keepsPatches run).legal

end Sys2Proof

/-! SUPPORT. The sequencer's requests where they are taken (R69, R70, R73 to R78), and what a phase other than OPEN does to one. -/

namespace Sys2Proof.Machine
open Sys2Proof

section
variable {s : State} {tag : Byte}

/-- In CLOSED the station port takes only the requests that change nothing there; every other is refused WRONG_PHASE (R171). -/
theorem State.request_closed {r : Request} (wf : r.wellFormed = true) (suits : r.lengthSuits = true) (h : s.Admits .station tag)
    (closed : s.unit.phase = .closed) (onStation : r.kind ≠ 0x03) (shut : r.kind ∉ closedKinds) :
    s.request .station tag r = .next (s.refuse .station r.kind tag .wrongPhase).arbitrate := by
  rw [State.request_running wf h.running, if_pos suits, State.arrive_screened h.room h.noReset, State.screen, if_neg (by simp),
    if_neg (not_not_intro (Request.kind_known r)), if_neg (fun e => onStation e.2), if_neg h.tagged]
  exact congrArg (Host.Outcome.next ∘ State.arbitrate) (if_pos ⟨rfl, closed, shut⟩)

/-! ### The six requests that move the sequencer, each where it is taken (R73 to R78) -/

theorem State.takeArm_idle (idle : s.seq.state = .idle) (opened : s.unit.phase = .opened) :
    s.takeArm tag = (s.setSeq { s.seq with state := .armed, startPending := false }).replySeq 0x31 tag := if_pos ⟨idle, opened⟩

theorem State.takeDisarm_armed (armed : s.seq.state = .armed) :
    s.takeDisarm tag = (s.setSeq { s.seq with state := .idle, startPending := false }).replySeq 0x32 tag := by
  rw [State.takeDisarm, armed]

theorem State.takeStart_armed (armed : s.seq.state = .armed) (queued : s.seq.list ≠ []) (counts : s.seq.showNumber < maxShow) :
    s.takeStart tag = (s.setSeq { s.seq with startPending := true }).replySeq 0x33 tag := by
  rw [State.takeStart, if_neg (not_not_intro armed), if_neg queued, if_neg (Nat.not_le.mpr counts)]

theorem State.takeStop_running (running : s.seq.state = .running) :
    s.takeStop tag = (s.setSeq { s.seq with state := .stopping }).replySeq 0x34 tag := by
  rw [State.takeStop, running]

theorem State.takeHalt_run (run : s.seq.inRun = true) :
    s.takeHalt tag = (s.setSeq { s.seq with haltRequested := true }).replySeq 0x35 tag := by
  obtain state | state : s.seq.state = .running ∨ s.seq.state = .stopping := of_decide_eq_true run <;> rw [State.takeHalt, state]

theorem State.takeAdvance_run (run : s.seq.inRun = true) :
    s.takeAdvance tag = (s.setSeq { s.seq with advanceRequested := true }).replySeq 0x36 tag := by
  obtain state | state : s.seq.state = .running ∨ s.seq.state = .stopping := of_decide_eq_true run <;> rw [State.takeAdvance, state]

/-- STOP and HALT take a pending start back (R76, R77). -/
theorem State.takeStop_pending (armed : s.seq.state = .armed) (pending : s.seq.startPending = true) :
    s.takeStop tag = (s.setSeq { s.seq with startPending := false }).replySeq 0x34 tag := by
  rw [State.takeStop, armed]
  exact if_pos pending

theorem State.takeHalt_pending (armed : s.seq.state = .armed) (pending : s.seq.startPending = true) :
    s.takeHalt tag = (s.setSeq { s.seq with startPending := false }).replySeq 0x35 tag := by
  rw [State.takeHalt, armed]
  exact if_pos pending

/-- In ARMED the reply of a sequencer request carries the state 1 and the start pending it leaves (R188). -/
theorem State.replySeq_armed (armed : s.seq.state = .armed) (start : Bool) (kind : Byte) :
    (s.setSeq { s.seq with startPending := start }).replySeq kind tag =
      (s.setSeq { s.seq with startPending := start }).reply .station kind tag .ok ([1] ++ flag start) := by
  rw [State.replySeq, State.setSeq_seq, armed]
  rfl

/-- PATCH_APPEND past its four refusals (R69). -/
theorem State.takePatchAppend_new {patchTag slice settle auto : Byte} {hold : Half} (opened : s.unit.phase = .opened)
    (inRange : patchTag ≠ 0 ∧ slice.toNat ≤ 15 ∧ auto.toNat ≤ 1) (new : ∀ q ∈ s.seq.records, q.tag ≠ patchTag.toNat)
    (room : s.seq.list.length < 16) :
    s.takePatchAppend tag patchTag slice settle hold auto =
      (s.setSeq { s.seq with list := s.seq.list ++ [patchGiven patchTag slice settle hold auto] }).reply .station 0x37 tag .ok
        (flag (patchClampedFlag settle hold) ++ u8 (clampNat 1 60 settle.toNat) ++ u16 (clampNat 1 1200 hold.toNat) ++
          u8 (s.seq.list.length + 1)) := by
  have allowed : ¬ (patchTag = 0 ∨ 15 < slice.toNat ∨ 1 < auto.toNat) := by
    obtain ⟨tagged, slices, autos⟩ := inRange
    rintro (zero | beyond | other)
    · exact tagged zero
    · omega
    · omega
  rw [State.takePatchAppend, if_neg (not_not_intro opened), if_neg allowed, if_neg (by simpa using new), if_neg (Nat.not_le.mpr room)]
  rfl

end

end Sys2Proof.Machine

/-! CERTIFICATE. The requests of the sequencer (O25, O26). -/

namespace Sys2Proof
open Sys2Proof.Machine

/-- Settles O25: each request by what its owner does where it is taken. -/
theorem sequencerRequestsMoveTheSequencer : Obligations.SequencerRequestsMoveTheSequencer := by
  intro s tag h
  have taken : ∀ {r : Request} {u : State}, r.wellFormed = true → r.lengthSuits = true → r.kind ≠ 0x03 →
      s.takeRequest .station tag r = u → s.request .station tag r = .next u.arbitrate := fun wf suits kind owner =>
    owner ▸ State.request_open wf suits h kind
  refine ⟨fun idle => ?_, fun armed => ?_, fun armed queued counts => ?_, fun running => ?_, fun run => ⟨?_, ?_⟩,
    fun armed pending => ⟨?_, ?_⟩⟩
  · exact taken (r := .arm) rfl rfl (by decide) (State.takeArm_idle idle h.opened)
  · exact taken (r := .disarm) rfl rfl (by decide) (State.takeDisarm_armed armed)
  · exact taken (r := .start) rfl rfl (by decide) ((State.takeStart_armed armed queued counts).trans (State.replySeq_armed armed _ _))
  · exact taken (r := .stop) rfl rfl (by decide) (State.takeStop_running running)
  · exact taken (r := .halt) rfl rfl (by decide) (State.takeHalt_run run)
  · exact taken (r := .advance) rfl rfl (by decide) (State.takeAdvance_run run)
  · exact taken (r := .stop) rfl rfl (by decide) ((State.takeStop_pending armed pending).trans (State.replySeq_armed armed _ _))
  · exact taken (r := .halt) rfl rfl (by decide) ((State.takeHalt_pending armed pending).trans (State.replySeq_armed armed _ _))

/-- Settles O26: PATCH_APPEND past its four refusals, PATCH_CLEAR in OPEN, and its refusal by screening in CLOSED and by its owner
elsewhere. -/
theorem patchRequestsChangeTheList : Obligations.PatchRequestsChangeTheList := by
  refine ⟨fun s tag patchTag slice settle auto hold h => ⟨fun tagged slices autos new room => ?_, ?_⟩, fun s tag h phase => ?_⟩
  · refine (State.request_open (r := .patchAppend patchTag slice settle hold auto) rfl rfl h (by simp [Request.kind])).trans ?_
    rw [State.takeRequest, State.takePatchAppend_new h.opened ⟨tagged, slices, autos⟩ new room, patchGiven, patchClampedFlag,
      clampNat_eq _ (by decide), clampNat_eq _ (by decide)]
  · refine (State.request_open (r := .patchClear) rfl rfl h (by decide)).trans ?_
    rw [State.takeRequest, State.takePatchClear, if_neg (not_not_intro h.opened)]
  · by_cases closed : s.unit.phase = .closed
    · exact State.request_closed (r := .patchClear) rfl rfl h closed (by decide) (by decide)
    · refine (State.request_unclosed (r := .patchClear) rfl rfl ⟨h, closed⟩ (by decide)).trans ?_
      rw [State.takeRequest, State.takePatchClear, if_pos phase]
      rfl

end Sys2Proof

/-! SUPPORT. A frame boundary at the sequencer, case by case (R79 to R81), and the tick that makes one (R88). -/

namespace Sys2Proof.Machine
open Sys2Proof

section
variable {s : State} {q : Patch}

/-- In a run a boundary advances the current patch (R81). -/
theorem State.sequencerBoundary_run (run : s.seq.inRun = true) (current : s.seq.current = some q) :
    s.sequencerBoundary = s.advancePatch q := by
  obtain state | state : s.seq.state = .running ∨ s.seq.state = .stopping := of_decide_eq_true run <;>
    simp [State.sequencerBoundary, state, current]

/-- In ARMED a boundary takes the pending start (R79). -/
theorem State.sequencerBoundary_start (armed : s.seq.state = .armed) (start : s.seq.startPending = true) :
    s.sequencerBoundary = s.takePendingStart := by
  rw [State.sequencerBoundary, armed]
  exact if_pos start

/-- A patch that neither HALT nor ADVANCE ends settles or holds by its sub-phase (R81). -/
theorem State.advancePatch_on (halt : s.seq.haltRequested = false) (advance : s.seq.advanceRequested = false) :
    (q.subPhase = some .settle → 2 ≤ q.settleCounter →
        s.advancePatch q = s.setSeq { s.seq with current := some { q with settleCounter := q.settleCounter - 1 } }) ∧
      (q.subPhase = some .settle → q.settleCounter = 1 →
        s.advancePatch q =
          (s.setSeq
            { s.seq with current := some { q with settleCounter := 0, subPhase := some .hold, holdCount := 0, ready := true } }).report
              0x70 (u8 q.tag ++ u32 (q.showNumber.getD 0) ++ u8 q.slice)) ∧
      (q.subPhase = some .hold →
        s.advancePatch q =
          if q.autoAdvance && q.allCompleted then s.endPatch { q with holdCount := q.holdCount + 1 } .complete
          else if q.holdLimit ≤ q.holdCount + 1 then s.endPatch { q with holdCount := q.holdCount + 1 } .timeout
          else s.setSeq { s.seq with current := some { q with holdCount := q.holdCount + 1 } }) := by
  unfold State.advancePatch
  rw [if_neg (by simp [halt]), if_neg (by simp [advance])]
  refine ⟨fun settle more => ?_, fun settle last => ?_, fun hold => ?_⟩
  · rw [if_pos settle, if_neg (Nat.not_le.mpr more)]
  · rw [if_pos settle, if_pos last.le]
  · rw [if_neg (by simp [hold])]
    rfl

theorem Patch.allCompleted_iff : q.allCompleted = true ↔ ∀ row < 18, row ∈ q.completed := by
  simp [Patch.allCompleted]

/-- A tick of the running generator makes a boundary, and the next interval takes the rate then in force (R88, R93). -/
theorem State.takeTick_running {rate : Nat} (generator : s.timing.generator = some rate) :
    s.takeTick = s.frameBoundary.setTiming { s.frameBoundary.timing with generator := some s.frameBoundary.timing.rate } := by
  rw [State.takeTick, generator]

theorem exec_internalGeneratorTick (running : s.power = .running) : exec .internalGeneratorTick s = .next s.takeTick.arbitrate :=
  congrArg Host.Outcome.next (State.event_running running _)

/-- A boundary's frame view and picture are those of the sequencer's state after its part (R85, R97). -/
theorem State.frameBoundary_applier (s : State) :
    s.frameBoundary.applier =
      { s.sequencerBoundary.applier with
        view := some s.sequencerBoundary.frameViewNow, picture := some s.sequencerBoundary.framePicture } := by
  rw [State.frameBoundary, (State.examineTrim_frame _).2.2.2.2.2.2.1]
  rfl

end

end Sys2Proof.Machine

/-! CERTIFICATE. The frame boundary at the sequencer (O27), and the generator's tick (O29). -/

namespace Sys2Proof
open Sys2Proof.Machine

/-- Settles O27: the pending start by the list, then the run's boundary by its requests, the sub-phase and the counters. -/
theorem boundaryStartsAndAdvancesTheRun : Obligations.BoundaryStartsAndAdvancesTheRun := by
  refine ⟨fun s q rest armed start counts => ?_, fun s q run current => ?_⟩
  · rw [State.sequencerBoundary_start armed start, State.takePendingStart]
    refine ⟨fun list => ?_, fun empty => ?_⟩
    · rw [if_neg (by simp [list])]
      rw [Sequencer.beginDisplay_cons (q := { s.seq with startPending := false, state := .running }) list counts]
      rfl
    · rw [if_pos empty, State.reportStopped, State.setSeq_seq, empty]
      rfl
  · rw [State.sequencerBoundary_run run current]
    refine ⟨fun halt => if_pos halt, fun on advance => ?_, fun on still => (State.advancePatch_on on still).1,
      fun on still => (State.advancePatch_on on still).2.1, fun on still hold => ?_⟩
    · rw [State.advancePatch, if_neg (by simp [on]), if_pos advance]
    · rw [(State.advancePatch_on on still).2.2 hold]
      have stays : (q.autoAdvance = false ∨ ∃ row < 18, row ∉ q.completed) → ¬ (q.autoAdvance && q.allCompleted) = true := by
        rw [Bool.and_eq_true, Patch.allCompleted_iff]
        rintro (manual | ⟨row, below, missing⟩) ⟨auto, all⟩
        · simp [manual] at auto
        · exact missing (all row below)
      refine ⟨fun auto all => ?_, fun unfinished limit => ?_, fun unfinished below => ?_⟩
      · rw [if_pos (by rw [auto, Patch.allCompleted_iff.mpr all]; rfl)]
      · rw [if_neg (stays unfinished), if_pos limit]
      · rw [if_neg (stays unfinished), if_neg (Nat.not_le.mpr below)]

/-- Settles O29: the tick is a boundary, whose view and picture the timing and the ports leave alone. -/
theorem generatorTickIsABoundary : Obligations.GeneratorTickIsABoundary := by
  intro s rate running generator
  refine ⟨_, exec_internalGeneratorTick running, by rw [State.takeTick_running generator], rfl, ?_, ?_⟩ <;>
    simp [State.takeTick_running generator, State.frameBoundary_applier]

end Sys2Proof

/-! SUPPORT. What a loss of input lock does block by block (R90, R91, R122), and a frame start by gap timer, lock and source (R89 to
R92). -/

namespace Sys2Proof.Machine
open Sys2Proof

/-! ### Reports and arbiters act on the station port by what stands there -/

section
variable {s t : State}

/-- A report at a port's record: it joins the queue, or is dropped when the queue holds 16 (R182). -/
def PortCtl.reported (c : PortCtl) (f : Frame) : PortCtl :=
  if c.reports.length < 16 then { c with reports := c.reports ++ [f] } else { c with dropped := true }

theorem State.report_reported (s : State) (kind : Byte) (payload : List Byte) :
    (s.report kind payload).station = s.station.reported { kind := kind, tag := 0, payload := payload } := by
  unfold State.report State.emit PortCtl.reported
  split <;> rfl

/-- The system port's arbiter leaves the station port alone, and the other way round. -/
theorem State.arbitratePort_other (s : State) :
    (s.arbitratePort .system).station = s.station ∧ (s.arbitratePort .station).system = s.system := by
  constructor
  · obtain ⟨e, -⟩ | ⟨-, -, e⟩ | ⟨no, -⟩ := s.arbitratePort_cases .system
    · rw [e]
    · rw [e, State.beginReply]
      split <;> rfl
    · cases no
  · obtain ⟨e, -⟩ | ⟨-, -, e⟩ | ⟨-, -, -, -, e⟩ := s.arbitratePort_cases .station
    · rw [e]
    · rw [e, State.beginReply]
      split <;> rfl
    · rw [e, State.beginReport]
      split <;> rfl

/-- The station port's arbiter goes by that port's record alone. -/
theorem State.arbitratePort_station_congr (s t : State) (c : PortCtl) :
    ((t.setStation c).arbitratePort .station).station = ((s.setStation c).arbitratePort .station).station := by
  obtain ⟨stage, buffer, gapRunning, replies, reports, dropped, sending⟩ := c
  cases sending with
  | some => rfl
  | none =>
    cases replies with
    | cons => rfl
    | nil => cases reports <;> rfl

theorem State.arbitrate_station_congr (same : t.station = s.station) : t.arbitrate.station = s.arbitrate.station := by
  have alike := State.arbitratePort_station_congr s t s.station
  rw [show t.setStation s.station = t by rw [← same]; rfl] at alike
  rw [State.arbitrate, (State.arbitratePort_other _).1, alike, State.arbitrate, (State.arbitratePort_other _).1]
  rfl

/-- With no reply waiting at a free system port, the arbiters leave that port alone. -/
theorem State.arbitrate_system_quiet (quiet : s.system.sending = none → s.system.replies = []) : s.arbitrate.system = s.system := by
  have other := s.arbitratePort_other.2
  rw [State.arbitrate]
  obtain ⟨e, -⟩ | ⟨free, waits, -⟩ | ⟨no, -⟩ := (s.arbitratePort .station).arbitratePort_cases .system
  · rw [e, other]
  · rw [State.port_system, other] at free waits
    exact absurd (quiet free) waits
  · cases no

end

/-! ### A loss of lock -/

section
variable {s t u : State}

/-- The report INPUT LOST, under the source INTERNAL that stands after it (R94). -/
def inputLostFrame : Frame := { kind := 0x74, tag := 0, payload := [0, 1, 0, 0, 0, 0, 0] }

/-- The report MARKER LOST, by what the region unit holds (R125). -/
def Region.markerLostFrame (r : Region) : Frame :=
  { kind := 0x75, tag := 0,
    payload :=
      [bitByte [r.identity.isSome, false], 1, 0] ++ u16 r.sensed ++ flag r.sensedValid ++ identityBytes r.identity ++ [0, 0, 0, 0] }

/-- The timing unit without lock: the source is INTERNAL, and the generator starts where the source was INPUT (R90, R91). -/
def Timing.unlocked (t : Timing) : Timing :=
  if t.source = .input then { t with lock := false, source := .internal, generator := some t.rate } else { t with lock := false }

theorem Timing.unlocked_source (t : Timing) : t.unlocked.source = .internal := by
  cases source : t.source <;> simp [Timing.unlocked, source]

/-- The loss of lock before its reports. -/
def State.unlocked (s : State) : State :=
  let s1 := s.setTiming { s.timing with lock := false }
  let s2 := if s.timing.source = .input then s1.switchToInternal else s1
  s2.setRegion { s2.region with lineArmed := false }

theorem State.unlocked_eq (s : State) :
    s.unlocked =
      ((s.setTiming s.timing.unlocked).setSeq
        { s.seq with
          current :=
            if s.timing.source = .input ∧ s.seq.inRun = true then s.seq.current.map Patch.resettled else s.seq.current }).setRegion
        { s.region with lineArmed := false } := by
  by_cases source : s.timing.source = .input
  · simp only [State.unlocked, Timing.unlocked, source, true_and]
    rfl
  · simp only [State.unlocked, Timing.unlocked, source, false_and, if_false]
    rfl

/-- The reports of the loss, of one block or of two in either order (log 8). -/
def State.reportLoss (s : State) : State :=
  if s.region.markerPresent then
    s.choose (fun t => (t.reportInput false false 0 0).markerLost) (fun t => t.markerLost.reportInput false false 0 0)
  else s.reportInput false false 0 0

theorem State.loseLock_eq (s : State) : s.loseLock = s.unlocked.reportLoss := rfl

theorem State.reportInput_lost (source : s.timing.source = .internal) :
    (s.reportInput false false 0 0).station = s.station.reported inputLostFrame := by
  rw [State.reportInput, source, State.report_reported]
  rfl

theorem State.markerLost_blocks (s : State) :
    s.markerLost.station = s.station.reported s.region.markerLostFrame ∧
      s.markerLost.region = { s.region with missCount := 0, markerPresent := false } := by
  rw [State.markerLost]
  exact ⟨(State.report_reported _ _ _).trans rfl, by simp⟩

/-- The reports of a loss of lock at the station port: INPUT LOST, and MARKER LOST with it where the marker was present, in either order
(R94, R122, log 8). -/
inductive State.LossReported (s t : State) : Prop
  | input (absent : s.region.markerPresent = false) (station : t.station = s.station.reported inputLostFrame)
  | inputFirst (present : s.region.markerPresent = true)
      (station : t.station = (s.station.reported inputLostFrame).reported s.region.markerLostFrame)
  | markerFirst (present : s.region.markerPresent = true)
      (station : t.station = (s.station.reported s.region.markerLostFrame).reported inputLostFrame)

theorem State.LossReported.congr {s' t' : State} (h : s.LossReported t) (before : s'.station = s.station)
    (present : s'.region.markerPresent = s.region.markerPresent) (frame : s'.region.markerLostFrame = s.region.markerLostFrame)
    (after : t'.station = t.station) : s'.LossReported t' := by
  cases h with
  | input absent e => exact .input (present.trans absent) (by rw [after, e, before])
  | inputFirst there e => exact .inputFirst (present.trans there) (by rw [after, e, before, frame])
  | markerFirst there e => exact .markerFirst (present.trans there) (by rw [after, e, before, frame])

/-- The reports touch marker presence and the station port. -/
theorem State.reportLoss_blocks (source : s.timing.source = .internal) :
    s.reportLoss.timing = s.timing ∧ s.reportLoss.seq = s.seq ∧
      s.reportLoss.region =
        { s.region with markerPresent := false, missCount := if s.region.markerPresent = true then 0 else s.region.missCount } ∧
      s.reportLoss.system = s.system ∧ s.SameBesideLock s.reportLoss ∧ s.LossReported s.reportLoss := by
  unfold State.reportLoss
  by_cases present : s.region.markerPresent = true
  · rw [if_pos present, State.choose]
    generalize chosen : s.setChoices (s.choices + 1) = u
    have same : u.station = s.station ∧ u.region = s.region ∧ u.timing = s.timing := by simp [← chosen]
    obtain ⟨station, region, timing⟩ := same
    split
    · obtain ⟨reported, marker⟩ := (u.reportInput false false 0 0).markerLost_blocks
      refine ⟨by simp [timing], by simp [← chosen], ?_, by simp [← chosen], by constructor <;> simp [← chosen], .inputFirst present ?_⟩
      · simp [marker, region]
      · rw [reported, State.reportInput_lost (timing ▸ source), station]
        simp [region]
    · obtain ⟨reported, marker⟩ := u.markerLost_blocks
      refine ⟨by simp [timing], by simp [← chosen], ?_, by simp [← chosen], by constructor <;> simp [← chosen], .markerFirst present ?_⟩
      · simp [marker, region]
      · rw [State.reportInput_lost (by simpa [timing] using source), reported, station, region]
  · have absent : s.region.markerPresent = false := by simpa using present
    have still : s.region = { s.region with markerPresent := false, missCount := s.region.missCount } := by rw [← absent]
    rw [if_neg present, if_neg present, ← still]
    exact ⟨by simp, by simp, by simp, by simp, by constructor <;> simp, .input absent (State.reportInput_lost source)⟩

/-- What a loss of lock does, the timing unit apart (R90, R91, R122). -/
structure State.LockLost (s t : State) : Prop where
  seq : t.seq =
    { s.seq with
      current := if s.timing.source = .input ∧ s.seq.inRun = true then s.seq.current.map Patch.resettled else s.seq.current }
  region : t.region =
    { s.region with
      lineArmed := false, markerPresent := false, missCount := if s.region.markerPresent = true then 0 else s.region.missCount }
  system : t.system = s.system
  same : s.SameBesideLock t
  reported : s.LossReported t

theorem State.loseLock_timing (s : State) : s.loseLock.timing = s.timing.unlocked := by
  have source : s.unlocked.timing.source = .internal := by
    rw [s.unlocked_eq]
    exact s.timing.unlocked_source
  rw [State.loseLock_eq, (State.reportLoss_blocks source).1, s.unlocked_eq]
  rfl

theorem State.loseLock_lost (s : State) : s.LockLost s.loseLock := by
  have source : s.unlocked.timing.source = .internal := by
    rw [s.unlocked_eq]
    exact s.timing.unlocked_source
  obtain ⟨-, seq, region, system, same, reported⟩ := State.reportLoss_blocks source
  rw [← State.loseLock_eq] at seq region system same reported
  rw [s.unlocked_eq] at seq region system same reported
  exact ⟨seq, region, system, { same with }, reported.congr rfl rfl rfl rfl⟩

/-- A loss of lock goes by the source alone of the timing unit, its timers and counts apart. -/
theorem State.loseLock_retimed {x : Timing} (source : x.source = s.timing.source) : s.LockLost (s.setTiming x).loseLock := by
  obtain ⟨seq, region, system, same, reported⟩ := (s.setTiming x).loseLock_lost
  refine ⟨?_, region, system, { same with }, reported.congr rfl rfl rfl rfl⟩
  rw [← source]
  exact seq

/-- A patch being settled is settled anew where the source switches during a run, and the sequencer is left alone else (R91). -/
theorem State.LockLost.seq_cases (h : s.LockLost t) :
    (s.timing.source = .input → ∀ q, s.seq.inRun = true → s.seq.current = some q → q.subPhase = some .settle →
        t.seq = { s.seq with current := some { q with settleCounter := q.settleFrames } }) ∧
      (s.seq.inRun = false ∨ (∀ q, s.seq.current = some q → q.subPhase ≠ some .settle) → t.seq = s.seq) ∧
      (s.timing.source = .internal → t.seq = s.seq) := by
  rw [h.seq]
  refine ⟨fun source q run current settle => ?_, ?_, fun source => by simp [source]⟩
  · rw [if_pos ⟨source, run⟩, current, Option.map_some, Patch.resettled, if_pos settle]
  · rintro (idle | settled)
    · simp [idle]
    · have same : s.seq.current.map Patch.resettled = s.seq.current := by
        cases current : s.seq.current with
        | none => rfl
        | some q => rw [Option.map_some, Patch.resettled, if_neg (settled q current)]
      rw [same, ite_self]

/-- A loss of lock stays one with another timing unit and the arbiters' work to come. -/
theorem State.LockLost.congr (h : s.LockLost t) (seq : u.seq = t.seq) (region : u.region = t.region) (system : u.system = t.system)
    (station : u.station = t.station) (same : t.SameBesideLock u) : s.LockLost u where
  seq := seq.trans h.seq
  region := region.trans h.region
  system := system.trans h.system
  same :=
    ⟨same.power.trans h.same.power, same.grid.trans h.same.grid, same.intake.trans h.same.intake, same.applier.trans h.same.applier,
      same.trim.trans h.same.trim, same.keys.trans h.same.keys, same.checks.trans h.same.checks, same.unit.trans h.same.unit,
      same.nv.trans h.same.nv, same.pending.trans h.same.pending⟩
  reported := h.reported.congr rfl rfl rfl station

/-- The ports at the end of the event that lost the lock. -/
theorem State.LockLost.ports (h : s.LockLost t) :
    (s.region.markerPresent = false → t.arbitrate.station = (s.report 0x74 inputLostFrame.payload).arbitrate.station) ∧
      (s.region.markerPresent = true →
        t.arbitrate.station =
            ((s.report 0x74 inputLostFrame.payload).report 0x75 s.region.markerLostFrame.payload).arbitrate.station ∨
          t.arbitrate.station =
            ((s.report 0x75 s.region.markerLostFrame.payload).report 0x74 inputLostFrame.payload).arbitrate.station) ∧
      (s.Quiet → t.arbitrate.system = s.system) := by
  refine ⟨fun absent => ?_, fun present => ?_, fun quiet => ?_⟩
  · cases h.reported with
    | input _ station => exact State.arbitrate_station_congr (by rw [station, State.report_reported]; rfl)
    | inputFirst present => simp [absent] at present
    | markerFirst present => simp [absent] at present
  · cases h.reported with
    | input absent => simp [absent] at present
    | inputFirst _ station =>
      exact .inl (State.arbitrate_station_congr (by rw [station, State.report_reported, State.report_reported]; rfl))
    | markerFirst _ station =>
      exact .inr (State.arbitrate_station_congr (by rw [station, State.report_reported, State.report_reported]; rfl))
  · rw [State.arbitrate_system_quiet (by rw [h.system]; exact quiet.2), h.system]

theorem State.SameBesideLock.arbitrate (h : s.SameBesideLock t) : s.SameBesideLock t.arbitrate := by
  constructor <;> simp [h.power, h.grid, h.intake, h.applier, h.trim, h.keys, h.checks, h.unit, h.nv, h.pending]

end

/-! ### Gap expiry and frame starts -/

section
variable {s : State} {totals : Nat × Nat}

theorem exec_inputGapExpiry (running : s.power = .running) : exec .inputGapExpiry s = .next s.takeGapExpiry.arbitrate :=
  congrArg Host.Outcome.next (State.event_running running _)

theorem exec_inputFrameStart (running : s.power = .running) (lines pixels : Half) :
    exec (.inputFrameStart lines pixels) s = .next (s.takeFrameStart (lines.toNat, pixels.toNat)).arbitrate :=
  congrArg Host.Outcome.next (State.event_running running _)

theorem State.takeGapExpiry_running (gap : s.timing.gapRunning = true) :
    s.takeGapExpiry =
      if s.timing.lock then (s.setTiming { s.timing with gapRunning := false, matchCount := 0, reference := none }).loseLock
      else s.setTiming { s.timing with gapRunning := false, matchCount := 0, reference := none } := if_pos gap

/-- A frame start once its totals are taken: the line armed under lock, then the return to input, the boundary, or nothing (R92, R119). -/
def State.beginFrame (s : State) (lockedBefore : Bool) : State :=
  let t := s.setRegion { s.region with lineArmed := s.timing.lock }
  if t.returnDue lockedBefore then t.returnToInput.frameBoundary else if t.timing.source = .input then t.frameBoundary else t

/-- A frame start completes a frame where the gap timer runs, and starts the timer where it does not (R89). -/
theorem State.takeFrameStart_eq (s : State) (totals : Nat × Nat) :
    s.takeFrameStart totals =
      (if s.timing.gapRunning then s.takeTotals totals else s.setTiming { s.timing with gapRunning := true }).beginFrame s.timing.lock := by
  cases gap : s.timing.gapRunning with
  | true =>
    have still : s.setTiming { s.timing with gapRunning := true } = s := by rw [← gap]; rfl
    simp only [State.takeFrameStart, State.beginFrame, gap, still, if_true]
  | false => simp only [State.takeFrameStart, State.beginFrame, gap, Bool.false_eq_true, if_false]

/-- Under the source INTERNAL a frame start is a boundary only where the source returns: under lock held before, outside a run (R92). -/
theorem State.beginFrame_internal {before : Bool} (source : s.timing.source = .internal)
    (stays : before = false ∨ s.timing.lock = false ∨ s.seq.inRun = true) :
    s.beginFrame before = s.setRegion { s.region with lineArmed := s.timing.lock } := by
  have due : (s.setRegion { s.region with lineArmed := s.timing.lock }).returnDue before = false := by
    rcases stays with h | h | h <;> simp [State.returnDue, h]
  unfold State.beginFrame
  dsimp only
  rw [due, if_neg (by simp), if_neg (by simp [source])]

theorem State.beginFrame_returns (source : s.timing.source = .internal) (lock : s.timing.lock = true) (outside : s.seq.inRun = false) :
    s.beginFrame true = (s.setRegion { s.region with lineArmed := true }).returnToInput.frameBoundary := by
  unfold State.beginFrame
  dsimp only
  rw [lock, if_pos (by simp [State.returnDue, source, lock, outside])]

theorem State.beginFrame_input {before : Bool} (source : s.timing.source = .input) :
    s.beginFrame before = (s.setRegion { s.region with lineArmed := s.timing.lock }).frameBoundary := by
  unfold State.beginFrame
  dsimp only
  rw [if_neg (by simp [State.returnDue, source]), if_pos (by simp [source])]

/-- The totals of a completed frame by lock, reference and match count (R89). -/
theorem State.takeTotals_same (lock : s.timing.lock = true) (same : s.timing.reference = some totals) : s.takeTotals totals = s := by
  rw [State.takeTotals, if_pos lock, if_pos same]

theorem State.takeTotals_changed (lock : s.timing.lock = true) (other : s.timing.reference ≠ some totals) :
    s.takeTotals totals = s.loseLock.setTiming { s.loseLock.timing with reference := some totals, matchCount := 1 } := by
  rw [State.takeTotals, if_pos lock, if_neg other]

theorem State.takeTotals_first (lock : s.timing.lock = false) (other : s.timing.reference ≠ some totals) :
    s.takeTotals totals = s.setTiming { s.timing with reference := some totals, matchCount := 1 } := by
  rw [State.takeTotals, if_neg (by simp [lock]), State.matchTotals, if_neg other]
  rfl

theorem State.takeTotals_again {n : Nat} (lock : s.timing.lock = false) (same : s.timing.reference = some totals)
    (count : s.timing.matchCount = n) (few : n + 1 < 3) : s.takeTotals totals = s.setTiming { s.timing with matchCount := n + 1 } := by
  rw [State.takeTotals, if_neg (by simp [lock]), State.matchTotals, if_pos same, count]
  dsimp only
  rw [if_neg (Nat.not_le.mpr few), ← same]

theorem State.takeTotals_third (lock : s.timing.lock = false) (source : s.timing.source = .internal)
    (same : s.timing.reference = some totals) (count : s.timing.matchCount = 2) :
    s.takeTotals totals =
      (s.setTiming { s.timing with matchCount := 3, lock := true }).report 0x74
        ([1, 1] ++ flag s.seq.inRun ++ u16 totals.1 ++ u16 totals.2) := by
  rw [State.takeTotals, if_neg (by simp [lock]), State.matchTotals, if_pos same, count]
  dsimp only
  rw [if_pos (by decide), ← same, State.reportInput, State.setTiming_timing, source]
  rfl

/-- A change of totals, at the end of the frame start: the lock lost, the totals the new reference, and no boundary (R90, R91). -/
def State.totalsChanged (s : State) (totals : Nat × Nat) : State :=
  (s.loseLock.setTiming { s.timing.unlocked with reference := some totals, matchCount := 1 }).setRegion
    { s.loseLock.region with lineArmed := false }

theorem State.takeFrameStart_changed (gap : s.timing.gapRunning = true) (lock : s.timing.lock = true)
    (other : s.timing.reference ≠ some totals) : s.takeFrameStart totals = s.totalsChanged totals := by
  have unlocked : s.timing.unlocked.lock = false := by
    unfold Timing.unlocked
    split <;> rfl
  rw [State.takeFrameStart_eq, if_pos gap, State.takeTotals_changed lock other, State.loseLock_timing,
    State.beginFrame_internal (by exact s.timing.unlocked_source) (.inr (.inl unlocked)), State.totalsChanged]
  exact congrArg (fun armed => State.setRegion _ { s.loseLock.region with lineArmed := armed }) unlocked

theorem State.totalsChanged_lost (s : State) (totals : Nat × Nat) : s.LockLost (s.totalsChanged totals) := by
  refine s.loseLock_lost.congr rfl ?_ rfl rfl (by constructor <;> rfl)
  rw [State.totalsChanged, s.loseLock_lost.region]
  rfl

/-- The bytes of a half read as a number and written again. -/
theorem u16_toNat (h : Half) : u16 h.toNat = h.bytes := by
  rw [u16, BitVec.ofNat_toNat, BitVec.setWidth_eq]

end

end Sys2Proof.Machine

/-! CERTIFICATE. Input lock, its loss, and frame starts (O30, O31). -/

namespace Sys2Proof
open Sys2Proof.Machine

/-- Settles O31: without lock the timing unit alone changes; with it, the expiry is a loss of lock. -/
theorem gapExpiryLosesTheLock : Obligations.GapExpiryLosesTheLock := by
  intro s running gap
  rw [exec_inputGapExpiry running, State.takeGapExpiry_running gap]
  refine ⟨fun lock => by rw [if_neg (by simp [lock])], fun lock => ?_⟩
  rw [if_pos lock]
  have lost : s.LockLost (s.setTiming { s.timing with gapRunning := false, matchCount := 0, reference := none }).loseLock :=
    State.loseLock_retimed rfl
  obtain ⟨settles, keeps, internal⟩ := lost.seq_cases
  obtain ⟨absent, present, system⟩ := lost.ports
  refine ⟨_, rfl, by simpa using lost.region, system, lost.same.arbitrate, fun source => ⟨?_, ?_, ?_⟩, fun source => ⟨?_, ?_⟩, absent,
    present⟩
  · simp [State.loseLock_timing, Timing.unlocked, source]
  · simpa using settles source
  · simpa using keeps
  · simp [State.loseLock_timing, Timing.unlocked, source]
  · simpa using internal source

/-- Settles O30: the frame start by its totals, then by lock, source and run. -/
theorem frameStartFollowsLockAndSource : Obligations.FrameStartFollowsLockAndSource := by
  refine ⟨fun s lines pixels running gap => ?_, fun s lines pixels running gap lock source => ?_⟩
  · rw [exec_inputFrameStart running]
    refine ⟨fun lock source other => ?_, fun lock source same count => ?_, fun lock source same count => ?_, fun lock source same => ?_,
      fun lock source outside same => ?_, fun lock source run same => ?_, fun lock other => ?_⟩
    · rw [State.takeFrameStart_eq, if_pos gap, State.takeTotals_first lock other,
        State.beginFrame_internal (by simpa using source) (.inl lock)]
      simp [lock]
    · rw [State.takeFrameStart_eq, if_pos gap, State.takeTotals_again lock same count (by decide),
        State.beginFrame_internal (by simpa using source) (.inl lock)]
      simp [lock]
    · rw [State.takeFrameStart_eq, if_pos gap, State.takeTotals_third lock source same count,
        State.beginFrame_internal (by simpa using source) (.inl lock), u16_toNat, u16_toNat]
      simp
    · rw [State.takeFrameStart_eq, if_pos gap, State.takeTotals_same lock same, State.beginFrame_input source, lock]
    · rw [State.takeFrameStart_eq, if_pos gap, State.takeTotals_same lock same, lock, State.beginFrame_returns source lock outside]
      rfl
    · rw [State.takeFrameStart_eq, if_pos gap, State.takeTotals_same lock same, State.beginFrame_internal source (.inr (.inr run)), lock]
    · intro inputLost markerLost
      rw [State.takeFrameStart_changed gap lock other]
      have lost := s.totalsChanged_lost (lines.toNat, pixels.toNat)
      obtain ⟨settles, keeps, internal⟩ := lost.seq_cases
      obtain ⟨absent, present, system⟩ := lost.ports
      refine ⟨_, rfl, fun source => ⟨?_, ?_⟩, fun source => ⟨?_, ?_, ?_⟩, by simpa using lost.region, absent, present, system,
        lost.same.arbitrate⟩
      · simp [State.totalsChanged, Timing.unlocked, source]
      · simpa using internal source
      · simp [State.totalsChanged, Timing.unlocked, source]
      · simpa using settles source
      · simpa using keeps
  · rw [exec_inputFrameStart running, State.takeFrameStart_eq, if_neg (by simp [gap]),
      State.beginFrame_internal (by simpa using source) (.inl lock)]
    simp [lock]

end Sys2Proof

/-! SUPPORT. The applier's arithmetic: rounding of values that are not negative, the spatial gain and the gain between levels, and the output
code (R98 to R101). -/

namespace Sys2Proof.Machine
open Sys2Proof

/-! ### Rounding (00 "Rounding") -/

/-- Rounding keeps a whole bound: a numerator up to `x` times the divisor rounds to `x` at most. -/
theorem roundNat_le {n d x : Nat} (h : 0 < d) (bound : n ≤ x * d) : roundNat n d ≤ x := by
  refine Nat.le_of_lt_succ ((Nat.div_lt_iff_lt_mul (by omega)).mpr ?_)
  have : x.succ * (2 * d) = 2 * (x * d) + 2 * d := by rw [Nat.succ_mul]; ring
  omega

theorem le_roundNat {n d x : Nat} (h : 0 < d) (bound : x * d ≤ n) : x ≤ roundNat n d := by
  refine (Nat.le_div_iff_mul_le (by omega)).mpr ?_
  have : x * (2 * d) = 2 * (x * d) := by ring
  omega

/-- A whole quotient is its own rounding. -/
theorem roundNat_whole (x : Nat) {d : Nat} (h : 0 < d) : roundNat (x * d) d = x :=
  le_antisymm (roundNat_le h le_rfl) (le_roundNat h le_rfl)

/-! ### The node interval of a pixel (R99) -/

section
variable (last : Nat)

/-- The interval's two nodes are nodes of the axis. -/
theorem nodeSpan_within (x : Nat) :
    (nodeSpan last x).first ≤ last ∧ (nodeSpan last x).second ≤ last ∧ (nodeSpan last x).weight ≤ 240 := by
  unfold nodeSpan
  dsimp only
  split
  · simp
  · dsimp only
    omega

/-- Up to the first node's centre every position has the interval of that centre. -/
theorem nodeSpan_before {x : Nat} (h : x ≤ 120) : nodeSpan last x = nodeSpan last 120 := by
  unfold nodeSpan
  rw [Nat.sub_eq_zero_of_le h]

/-- From the last node's centre on every position has the interval of that centre. -/
theorem nodeSpan_after {x : Nat} (h : 120 + 240 * last ≤ x) : nodeSpan last x = { first := last, second := last, weight := 0 } := by
  unfold nodeSpan
  exact if_pos (by omega)

/-- From a centre up to the next one the interval is that of the two nodes. -/
theorem nodeSpan_inside {i w : Nat} (inside : i < last) (w_lt : w < 240) :
    nodeSpan last (120 + 240 * i + w) = { first := i, second := i + 1, weight := w } := by
  have index : min ((120 + 240 * i + w - 120) / 240) last = i := by omega
  unfold nodeSpan
  dsimp only
  rw [index, if_neg (by omega)]
  congr
  omega

end

/-! ### The spatial gain (R99) -/

/-- The gains along one axis in proportion: between the two nodes, at the last node's centre that node's alone. -/
theorem nodeSpan_blend {last i w : Nat} (h : i < last ∧ w < 240 ∨ i = last ∧ w = 0) (gain : Nat → Nat) :
    gain (nodeSpan last (120 + 240 * i + w)).first * (240 - (nodeSpan last (120 + 240 * i + w)).weight) +
        gain (nodeSpan last (120 + 240 * i + w)).second * (nodeSpan last (120 + 240 * i + w)).weight =
      gain i * (240 - w) + gain (i + 1) * w := by
  rcases h with ⟨inside, w_lt⟩ | ⟨rfl, rfl⟩
  · rw [nodeSpan_inside last inside w_lt]
  · rw [nodeSpan_after i (x := 120 + 240 * i + 0) le_rfl]
    simp

/-- The gains of one row's two nodes around the pixel in proportion, times 240. -/
def rowBlend (slice : List Nat) (row : Nat) (c : NodeSpan) : Nat :=
  gainAt slice row c.first * (240 - c.weight) + gainAt slice row c.second * c.weight

/-- The spatial gain is a proportion of two proportions: along the rows, then between them. -/
theorem spatialGain_eq (slice : List Nat) (x y : Nat) :
    spatialGain slice x y =
      roundNat
        (rowBlend slice (nodeSpan 17 y).first (nodeSpan 31 x) * (240 - (nodeSpan 17 y).weight) +
          rowBlend slice (nodeSpan 17 y).second (nodeSpan 31 x) * (nodeSpan 17 y).weight)
        57600 := by
  unfold spatialGain rowBlend
  dsimp only
  congr 1
  ring

/-- At and after a node's centre the gains of the four nodes are taken in proportion (R99). -/
theorem spatialGain_centres (slice : List Nat) {i j wx wy : Nat} (columns : i < 31 ∧ wx < 240 ∨ i = 31 ∧ wx = 0)
    (rows : j < 17 ∧ wy < 240 ∨ j = 17 ∧ wy = 0) :
    spatialGain slice (120 + 240 * i + wx) (120 + 240 * j + wy) =
      roundNat
        (gainAt slice j i * (240 - wx) * (240 - wy) + gainAt slice j (i + 1) * wx * (240 - wy) +
          gainAt slice (j + 1) i * (240 - wx) * wy + gainAt slice (j + 1) (i + 1) * wx * wy)
        57600 := by
  have along (row : Nat) :
      rowBlend slice row (nodeSpan 31 (120 + 240 * i + wx)) = gainAt slice row i * (240 - wx) + gainAt slice row (i + 1) * wx :=
    nodeSpan_blend columns (gainAt slice row)
  rw [spatialGain_eq, nodeSpan_blend rows (fun row => rowBlend slice row _), along, along]
  congr 1
  ring

/-- At a node's centre the spatial gain is the node's gain (R99). -/
theorem spatialGain_centre (slice : List Nat) {row column : Nat} (rowInside : row < 18) (columnInside : column < 32) :
    spatialGain slice (120 + 240 * column) (120 + 240 * row) = gainAt slice row column := by
  have four := spatialGain_centres slice (i := column) (j := row) (wx := 0) (wy := 0) (by omega) (by omega)
  have whole : gainAt slice row column * 57600 = gainAt slice row column * (240 - 0) * (240 - 0) := by ring
  simp only [Nat.add_zero, Nat.mul_zero, Nat.zero_mul] at four
  rw [four, ← whole, roundNat_whole _ (by decide)]

/-- A proportion of two values lies between their bounds. -/
theorem blend_between {lo hi a b w : Nat} (ha : lo ≤ a ∧ a ≤ hi) (hb : lo ≤ b ∧ b ≤ hi) (w_le : w ≤ 240) :
    lo * 240 ≤ a * (240 - w) + b * w ∧ a * (240 - w) + b * w ≤ hi * 240 := by
  have share (g : Nat) : g * 240 = g * (240 - w) + g * w := by rw [← Nat.mul_add, Nat.sub_add_cancel w_le]
  rw [share lo, share hi]
  exact ⟨by gcongr <;> tauto, by gcongr <;> tauto⟩

/-- The spatial gain lies between the least and the greatest gain of its slice (R99). -/
theorem spatialGain_between {slice : List Nat} {lo hi : Nat} (sized : slice.length = 576) (bounds : ∀ g ∈ slice, lo ≤ g ∧ g ≤ hi)
    (x y : Nat) : lo ≤ spatialGain slice x y ∧ spatialGain slice x y ≤ hi := by
  obtain ⟨left, right, across⟩ := nodeSpan_within 31 x
  obtain ⟨above, below, down⟩ := nodeSpan_within 17 y
  have node {row column : Nat} (rowInside : row ≤ 17) (columnInside : column ≤ 31) :
      lo ≤ gainAt slice row column ∧ gainAt slice row column ≤ hi := by
    rw [gainAt, List.getD_eq_getElem _ _ (by omega)]
    exact bounds _ (List.getElem_mem _)
  have alongRow {row : Nat} (rowInside : row ≤ 17) :
      lo * 240 ≤ rowBlend slice row (nodeSpan 31 x) ∧ rowBlend slice row (nodeSpan 31 x) ≤ hi * 240 :=
    blend_between (node rowInside left) (node rowInside right) across
  obtain ⟨least, greatest⟩ := blend_between (alongRow above) (alongRow below) down
  rw [spatialGain_eq]
  exact ⟨le_roundNat (by decide) (by omega), roundNat_le (by decide) (by omega)⟩

/-! ### The gain between levels (R100) -/

section
variable {c : Nat} {levels : List (Nat × Nat)}

/-- Up to the first level's code its gain is taken. -/
theorem levelGain_first {code gain : Nat} {rest : List (Nat × Nat)} (h : c ≤ code) : levelGain c ((code, gain) :: rest) = gain := by
  cases rest with
  | nil => rfl
  | cons next rest => exact if_pos h

/-- From the first level's code up to the next one's the two gains are taken in proportion. -/
theorem levelGain_between {codeA gainA codeB gainB : Nat} {rest : List (Nat × Nat)} (reached : codeA ≤ c) (short : c < codeB) :
    levelGain c ((codeA, gainA) :: (codeB, gainB) :: rest) = betweenLevels codeA codeB gainA gainB c := by
  rcases reached.eq_or_lt with rfl | beyond
  · rw [levelGain_first le_rfl, betweenLevels, Nat.sub_self, Nat.mul_zero, Nat.add_zero, roundNat_whole _ (by omega)]
  · rw [levelGain, if_neg (by omega), if_pos short]

/-- From the second level's code on the first level does not count. -/
theorem levelGain_next {first next : Nat × Nat} {rest : List (Nat × Nat)} (rising : first.1 < next.1) (reached : next.1 ≤ c) :
    levelGain c (first :: next :: rest) = levelGain c (next :: rest) := by
  rw [levelGain, if_neg (by omega), if_neg (by omega)]

/-- From a level's code on the levels before it do not count. -/
theorem levelGain_from (rising : levels.Pairwise (fun a b => a.1 < b.1)) (k : Nat) (inside : k < levels.length)
    (reached : levels[k].1 ≤ c) : levelGain c levels = levelGain c (levels.drop k) := by
  induction k with
  | zero => rfl
  | succ k ih =>
    have step : levels[k].1 < levels[k + 1].1 := List.pairwise_iff_getElem.mp rising k (k + 1) (by omega) inside (by omega)
    rw [ih (by omega) (by omega), List.drop_eq_getElem_cons (by omega), List.drop_eq_getElem_cons inside, levelGain_next step reached]

/-- Levels of one gain give that gain to every code. -/
theorem levelGain_uniform {gain : Nat} (nonempty : levels ≠ []) (uniform : ∀ level ∈ levels, level.2 = gain) :
    levelGain c levels = gain := by
  induction levels using levelGain.induct (c := c) with
  | case1 => exact absurd rfl nonempty
  | case2 code g => exact uniform (code, g) (by simp)
  | case3 codeA gainA codeB gainB rest below => exact (levelGain_first below).trans (uniform (codeA, gainA) (by simp))
  | case4 codeA gainA codeB gainB rest beyond short =>
    obtain rfl : gainA = gain := uniform (codeA, gainA) (by simp)
    obtain rfl : gainB = gainA := uniform (codeB, gainB) (by simp)
    rw [levelGain_between (by omega) short, betweenLevels, ← Nat.mul_add, show codeB - c + (c - codeA) = codeB - codeA by omega,
      roundNat_whole _ (by omega)]
  | case5 codeA gainA codeB gainB rest beyond reached ih =>
    rw [levelGain, if_neg beyond, if_neg reached]
    exact ih (by simp) (fun level mem => uniform level (List.mem_cons_of_mem _ mem))

end

/-! ### The output code (R98, R101) -/

theorem corrected_le (c gain : Nat) : corrected c gain ≤ 1023 := min_le_left ..

/-- The gain 2048 leaves a code as it is (R101). -/
theorem corrected_unity {c : Nat} (h : c ≤ 1023) : corrected c 2048 = c := by
  rw [corrected, roundNat_whole c (by decide), min_eq_right h]

/-- Valid level codes are five, in rising order (R19). -/
theorem levelsValid_rising {codes : List Nat} (valid : levelsValid codes = true) : codes.length = 5 ∧ codes.Pairwise (· < ·) := by
  unfold levelsValid at valid
  split at valid
  · obtain ⟨-, ab, bc, cd, de, -⟩ := of_decide_eq_true valid
    exact ⟨rfl, List.isChain_iff_pairwise.mp (by simp [ab, bc, cd, de])⟩
  · exact absurd valid Bool.false_ne_true

section
variable (v : FrameView) (plane x y c : Nat)

/-- The spatial gain of one level of a view for a plane at a pixel (R99). -/
def FrameView.levelGainAt (level : Nat) : Nat := spatialGain (v.gains.getD (plane * 5 + level) []) x y

/-- A view's levels for a plane at a pixel: each level's code with its spatial gain. -/
def FrameView.levelsAt : List (Nat × Nat) :=
  List.zipWith (fun code level => (code, v.levelGainAt plane x y level)) v.levels (List.range 5)

theorem FrameView.gain_eq : v.gain plane x y c = levelGain c (v.levelsAt plane x y) := rfl

theorem FrameView.output_bypass (bypass : v.mode = .bypass) : v.output plane x y c = c := if_pos bypass

theorem FrameView.output_corrected (applied : v.mode ≠ .bypass) :
    v.output plane x y c = corrected c (v.gain plane x y c) := if_neg applied

theorem FrameView.output_le {c : Nat} (h : c ≤ 1023) : v.output plane x y c ≤ 1023 := by
  unfold FrameView.output
  split
  · exact h
  · exact corrected_le ..

section
variable {v} (valid : levelsValid v.levels = true)
include valid

theorem FrameView.levelsAt_length : (v.levelsAt plane x y).length = 5 := by
  simp [FrameView.levelsAt, (levelsValid_rising valid).1]

theorem FrameView.levelsAt_getElem {level : Nat} (h : level < (v.levelsAt plane x y).length) :
    (v.levelsAt plane x y)[level] = (v.levels.getD level 0, v.levelGainAt plane x y level) := by
  have inside : level < v.levels.length := by rwa [v.levelsAt_length plane x y valid, ← (levelsValid_rising valid).1] at h
  simp [FrameView.levelsAt, inside]

theorem FrameView.levelsAt_rising : (v.levelsAt plane x y).Pairwise (fun a b => a.1 < b.1) := by
  obtain ⟨five, rising⟩ := levelsValid_rising valid
  refine List.pairwise_iff_getElem.mpr fun i j hi hj before => ?_
  rw [v.levelsAt_length plane x y valid] at hi hj
  rw [FrameView.levelsAt_getElem _ _ _ valid, FrameView.levelsAt_getElem _ _ _ valid, List.getD_eq_getElem _ _ (by omega),
    List.getD_eq_getElem _ _ (by omega)]
  exact List.pairwise_iff_getElem.mp rising i j _ _ before

/-- A view's levels from one level on. -/
theorem FrameView.levelsAt_drop {level : Nat} (h : level < 5) :
    (v.levelsAt plane x y).drop level =
      (v.levels.getD level 0, v.levelGainAt plane x y level) :: (v.levelsAt plane x y).drop (level + 1) := by
  rw [List.drop_eq_getElem_cons (by rwa [v.levelsAt_length plane x y valid]), FrameView.levelsAt_getElem _ _ _ valid]

/-- From a level's code on the gain is that of the levels from there on (R100). -/
theorem FrameView.gain_from {level c : Nat} (h : level < 5) (reached : v.levels.getD level 0 ≤ c) :
    v.gain plane x y c =
      levelGain c ((v.levels.getD level 0, v.levelGainAt plane x y level) :: (v.levelsAt plane x y).drop (level + 1)) := by
  rw [FrameView.gain_eq, ← FrameView.levelsAt_drop plane x y valid h]
  refine levelGain_from (FrameView.levelsAt_rising plane x y valid) level (by rwa [v.levelsAt_length plane x y valid]) ?_
  rwa [FrameView.levelsAt_getElem _ _ _ valid]

theorem FrameView.gain_first {c : Nat} (below : c ≤ v.levels.getD 0 0) : v.gain plane x y c = v.levelGainAt plane x y 0 := by
  rw [FrameView.gain_eq, ← List.drop_zero (l := v.levelsAt plane x y), FrameView.levelsAt_drop plane x y valid (by decide),
    levelGain_first below]

theorem FrameView.gain_last {c : Nat} (reached : v.levels.getD 4 0 ≤ c) : v.gain plane x y c = v.levelGainAt plane x y 4 := by
  rw [FrameView.gain_from plane x y valid (by decide) reached,
    List.drop_eq_nil_of_le (by rw [v.levelsAt_length plane x y valid]), levelGain]

theorem FrameView.gain_at {level c : Nat} (h : level < 5) (same : c = v.levels.getD level 0) :
    v.gain plane x y c = v.levelGainAt plane x y level := by
  rw [FrameView.gain_from plane x y valid h same.ge, levelGain_first same.le]

theorem FrameView.gain_between {level c : Nat} (h : level < 4) (reached : v.levels.getD level 0 ≤ c)
    (short : c < v.levels.getD (level + 1) 0) :
    v.gain plane x y c =
      betweenLevels (v.levels.getD level 0) (v.levels.getD (level + 1) 0) (v.levelGainAt plane x y level)
        (v.levelGainAt plane x y (level + 1)) c := by
  rw [FrameView.gain_from plane x y valid (by omega) reached, FrameView.levelsAt_drop plane x y valid (by omega),
    levelGain_between reached short]

/-- A view whose levels share one spatial gain at a pixel gives that gain to every code. -/
theorem FrameView.gain_uniform {gain : Nat} (c : Nat) (uniform : ∀ level < 5, v.levelGainAt plane x y level = gain) :
    v.gain plane x y c = gain := by
  have five := v.levelsAt_length plane x y valid
  rw [FrameView.gain_eq]
  refine levelGain_uniform (List.ne_nil_of_length_pos (by rw [five]; decide)) fun level mem => ?_
  obtain ⟨i, inside, rfl⟩ := List.getElem_of_mem mem
  rw [FrameView.levelsAt_getElem _ _ _ valid]
  exact uniform i (five ▸ inside)

end

/-- In the unity view every level's spatial gain is 2048. -/
theorem FrameView.levelGainAt_unity {plane level : Nat} (unity : v.gains = List.replicate 15 (List.replicate 576 2048)) (h : plane < 3)
    (hl : level < 5) : v.levelGainAt plane x y level = 2048 := by
  have slice : v.gains.getD (plane * 5 + level) [] = List.replicate 576 2048 := by
    rw [unity, List.getD_replicate _ (by omega)]
  obtain ⟨least, greatest⟩ := spatialGain_between (lo := 2048) (hi := 2048) (List.length_replicate (n := 576) (a := 2048))
    (fun g mem => by simp [List.eq_of_mem_replicate mem]) x y
  rw [FrameView.levelGainAt, slice]
  exact le_antisymm greatest least

end

end Sys2Proof.Machine

/-! SUPPORT. The trim output's cases (R105, R106), and the bytes and bits of a trim frame (R107, R191). -/

namespace Sys2Proof.Machine
open Sys2Proof

/-! ### The frame boundary and the frame's end (R105, R106) -/

section
variable {s : State}

theorem State.examineTrim_rests (h : s.trim.dirty = false ∨ s.trim.inFlight.isSome = true) : s.examineTrim = s := if_pos h

theorem State.examineTrim_due (dirty : s.trim.dirty = true) (idle : s.trim.inFlight = none) :
    s.examineTrim =
      if s.trim.lastSent = some s.trimImage then s.setTrim { s.trim with dirty := false }
      else
        s.setTrim
          { s.trim with
            dirty := false
            inFlight := some { sequence := s.trim.sequence, image := s.trimImage }
            sequence := (s.trim.sequence + 1) % 256 } :=
  if_neg (by simp [dirty, idle])

theorem exec_trimFrameComplete (running : s.power = .running) : exec .trimFrameComplete s = .next s.completeTrim.arbitrate :=
  congrArg Host.Outcome.next (State.event_running running _)

theorem State.completeTrim_inFlight {f : TrimFrame} (flight : s.trim.inFlight = some f) :
    s.completeTrim = s.setTrim { s.trim with inFlight := none, lastSent := some f.image } := by
  rw [State.completeTrim, flight]

end

/-! ### The bytes of a trim frame (R107) -/

/-- The bytes of a trim frame that its check code covers. -/
def TrimFrame.covered (f : TrimFrame) : List Byte :=
  [BitVec.ofNat 8 f.sequence, f.image.mode.code] ++ f.image.trims.map (BitVec.ofNat 8)

theorem TrimFrame.wire_eq (f : TrimFrame) :
    f.wire = [0x5C] ++ f.covered ++ [(crc16 f.covered).extractLsb' 0 8, (crc16 f.covered).extractLsb' 8 8] := by
  have trims : f.image.trims.flatMap u8 = f.image.trims.map (BitVec.ofNat 8) := List.map_eq_flatMap.symm
  rw [TrimFrame.wire, trims]
  rfl

theorem TrimFrame.wire_length (f : TrimFrame) : f.wire.length = f.image.trims.length + 5 := by
  simp [TrimFrame.wire_eq, TrimFrame.covered]

/-! ### Bits of bytes (R191) -/

theorem bitsMsbFirst_length (b : Byte) : (bitsMsbFirst b).length = 8 := rfl

theorem bitsMsbFirst_getElem? (b : Byte) {j : Nat} (h : j < 8) : (bitsMsbFirst b)[j]? = some (b.getMsbD j) := by
  have bits : bitsMsbFirst b = (List.range 8).map b.getMsbD := rfl
  rw [bits, List.getElem?_map, List.getElem?_range h, Option.map_some]

theorem flatMap_bitsMsbFirst_length (bytes : List Byte) : (bytes.flatMap bitsMsbFirst).length = 8 * bytes.length := by
  simp [List.length_flatMap, bitsMsbFirst_length, Nat.mul_comm]

/-- Bit `j` of byte `i`, each byte's most significant bit first, is the line's bit `8 * i + j`. -/
theorem flatMap_bitsMsbFirst_getElem? {bytes : List Byte} {i j : Nat} (inside : i < bytes.length) (h : j < 8) :
    (bytes.flatMap bitsMsbFirst)[8 * i + j]? = some ((bytes.getD i 0).getMsbD j) := by
  induction bytes generalizing i with
  | nil => exact absurd inside (Nat.not_lt_zero i)
  | cons b rest ih =>
    rw [List.flatMap_cons]
    cases i with
    | zero =>
      rw [Nat.mul_zero, Nat.zero_add, List.getElem?_append_left (by rwa [bitsMsbFirst_length]), bitsMsbFirst_getElem? b h,
        List.getD_cons_zero]
    | succ i =>
      rw [List.getElem?_append_right (by rw [bitsMsbFirst_length]; omega), bitsMsbFirst_length,
        show 8 * (i + 1) + j - 8 = 8 * i + j by omega, ih (Nat.lt_of_succ_lt_succ inside), List.getD_cons_succ]

end Sys2Proof.Machine

/-! CERTIFICATE. The output code (O32) and the trim output (O33). -/

namespace Sys2Proof
open Sys2Proof.Machine

/-- Settles O32: the output is `corrected` of the view's gain, which is the levels' interpolation of the spatial gains. -/
theorem outputFollowsTheFrameView : Obligations.OutputFollowsTheFrameView := by
  unfold Obligations.OutputFollowsTheFrameView
  intro rounded
  refine ⟨fun v plane x y c code => ⟨v.output_le plane x y code, v.output_bypass plane x y c⟩, fun v plane x y c applied valid _ => ?_,
    fun slice i j wx wy columns rows => spatialGain_centres slice columns rows, fun slice x y => ⟨?_, ?_, ?_, ?_⟩,
    fun slice row column sized rowInside columnInside =>
      ⟨spatialGain_centre slice rowInside columnInside, fun lo hi x y bounds _ _ => spatialGain_between sized bounds x y⟩,
    fun v plane x y c planeInside _ _ small valid unity => ?_⟩
  · rw [v.output_corrected plane x y c applied]
    exact ⟨fun below => congrArg (corrected c) (FrameView.gain_first plane x y valid below),
      fun reached => congrArg (corrected c) (FrameView.gain_last plane x y valid reached),
      fun level inside same => congrArg (corrected c) (FrameView.gain_at plane x y valid inside same),
      fun level inside reached short => congrArg (corrected c) (FrameView.gain_between plane x y valid inside reached short)⟩
  · exact fun before => by rw [spatialGain, spatialGain, nodeSpan_before 31 before]
  · exact fun after => by rw [spatialGain, spatialGain, nodeSpan_after 31 after, nodeSpan_after 31 le_rfl]
  · exact fun before => by rw [spatialGain, spatialGain, nodeSpan_before 17 before]
  · exact fun after => by rw [spatialGain, spatialGain, nodeSpan_after 17 after, nodeSpan_after 17 le_rfl]
  · by_cases bypass : v.mode = .bypass
    · exact v.output_bypass plane x y c bypass
    · have gain : v.gain plane x y c = 2048 :=
        FrameView.gain_uniform plane x y valid c (fun level inside => v.levelGainAt_unity x y unity planeInside inside)
      rw [v.output_corrected plane x y c bypass, gain, corrected_unity small]

/-- Settles O33: the examination by the dirty flag, the line and the last-sent image; the bits of the line by byte. -/
theorem trimFramesFollowTheDirtyFlag : Obligations.TrimFramesFollowTheDirtyFlag := by
  refine ⟨fun s => ⟨State.examineTrim_rests, fun dirty idle other => ?_, fun dirty idle same => ?_, fun f running flight => ?_⟩,
    fun f all => ?_⟩
  · rw [State.examineTrim_due dirty idle, if_neg other]
  · rw [State.examineTrim_due dirty idle, if_pos same]
  · rw [exec_trimFrameComplete running, State.completeTrim_inFlight flight]
  · have bytes : f.wire.length = 149 := by rw [f.wire_length, all]
    intro mode covered
    have spelled : f.covered = covered := by
      have code : f.image.mode.code = mode := by
        simp only [mode]
        cases f.image.mode <;> rfl
      rw [TrimFrame.covered, code]
    rw [← spelled]
    exact ⟨f.wire_eq, bytes, by rw [TrimFrame.line, flatMap_bitsMsbFirst_length, bytes],
      fun i inside j bit => flatMap_bitsMsbFirst_getElem? (by omega) bit⟩

end Sys2Proof

/-! SUPPORT. The laws of the region unit through every command: CURRENT, the conflict flag and the unknown condition stay what GIVEN, SENSED
and the profiles make of them (R113, R116, R117), and SENSED moves at a confirming marker alone (R123). -/

namespace Sys2Proof.Machine
open Sys2Proof

section
variable {c : Instr} {s t u : State}

/-! ### Agreement (R113, R116, R117) -/

/-- Two region units alike in what their laws read: profiles, GIVEN, CURRENT, SENSED, the conflict flag and the unknown condition. -/
structure Region.Alike (r r' : Region) : Prop where
  slots : r'.slots = r.slots
  committed : r'.committed = r.committed
  given : r'.given = r.given
  current : r'.current = r.current
  sensed : r'.sensed = r.sensed
  valid : r'.sensedValid = r.sensedValid
  conflict : r'.conflict = r.conflict
  unknown : r'.unknown = r.unknown

theorem Region.Alike.refl (r : Region) : r.Alike r := ⟨rfl, rfl, rfl, rfl, rfl, rfl, rfl, rfl⟩

theorem Region.Alike.trans {r r' r'' : Region} (h : r.Alike r') (next : r'.Alike r'') : r.Alike r'' :=
  ⟨next.slots.trans h.slots, next.committed.trans h.committed, next.given.trans h.given, next.current.trans h.current,
    next.sensed.trans h.sensed, next.valid.trans h.valid, next.conflict.trans h.conflict, next.unknown.trans h.unknown⟩

/-- The decoder's own fields are the rest: presence, misses, the markers it remembers, the station identity, the line armed. -/
theorem Region.alike_decoding (r : Region) (present : Bool) (missed : Nat) (last high : Option Marker) (identity : Option StationId)
    (armed : Bool) :
    r.Alike
      { r with
        markerPresent := present, missCount := missed, lastMarker := last, pendingHigh := high, identity := identity, lineArmed := armed } :=
  ⟨rfl, rfl, rfl, rfl, rfl, rfl, rfl, rfl⟩

theorem Region.LikePresence.alike {r r' : Region} (like : r.LikePresence r') : r.Alike r' := by
  obtain ⟨_, _, _, rfl⟩ := like
  exact r.alike_decoding ..

theorem State.RegionAgrees.congr (h : s.RegionAgrees) (alike : s.region.Alike t.region) (phase : t.unit.phase = s.unit.phase) :
    t.RegionAgrees := by
  obtain ⟨slots, committed, given, current, sensed, valid, conflict, unknown⟩ := alike
  refine ⟨fun opened => ?_, ?_, ?_⟩
  · rw [current, Region.computed_congr slots committed given sensed valid]
    exact h.current (phase ▸ opened)
  · rw [conflict, given, sensed, valid]
    exact h.conflict
  · rw [unknown, phase, given, sensed, valid, Region.profileFor_congr slots committed]
    exact h.unknown

/-- A settling of CURRENT agrees where the conflict flag does, which it leaves alone. -/
theorem State.settleCurrent_agrees (conflict : s.region.conflict = conflictFlag s.region.given s.region.sensed s.region.sensedValid) :
    s.settleCurrent.RegionAgrees := by
  obtain ⟨-, -, -, -, -, -, -, unit, -⟩ := s.settleCurrent_frame
  refine ⟨fun opened => ?_, ?_, ?_⟩ <;> rw [State.settleCurrent_region]
  · rw [unit] at opened
    exact (if_pos opened).trans (Region.computed_congr rfl rfl rfl rfl rfl).symm
  · exact conflict
  · rw [unit]
    rfl

/-- A full settling agrees, whatever stood before it. -/
theorem State.settleRegion_agrees (s : State) : s.settleRegion.RegionAgrees := by
  obtain ⟨-, -, -, -, -, -, -, unit, -⟩ := s.settleRegion_frame
  refine ⟨fun opened => ?_, ?_, ?_⟩ <;> rw [State.settleRegion_region]
  · rw [unit] at opened
    exact (if_pos opened).trans (Region.computed_congr rfl rfl rfl rfl rfl).symm
  · rw [unit]
    rfl

/-- Outside OPEN the unknown condition is no, and CURRENT is free (R113, R117). -/
theorem State.RegionAgrees.of_unopened (unopened : s.unit.phase ≠ .opened) (unknown : s.region.unknown = false)
    (conflict : s.region.conflict = conflictFlag s.region.given s.region.sensed s.region.sensedValid) : s.RegionAgrees :=
  ⟨fun opened => absurd opened unopened, conflict, by simp [unknown, unknownCondition, unopened]⟩

/-! ### What a command does to the region unit -/

/-- The marker that the command reads and the last accepted one carry one region, and SENSED has moved to it (R123). -/
def State.Confirmed (c : Instr) (s t : State) : Prop :=
  ∃ pixels meets m last, c = .markerRead ⟨pixels, meets⟩ ∧ decodeMarker (cellValues pixels) = some m ∧ s.region.lastMarker = some last ∧
    last.code = m.code ∧ t.region.sensed = m.code ∧ 1 ≤ m.code ∧ m.code ≤ 999

/-- A commit is carried in phase CLOSING alone (R167). -/
def State.CommitsClosing (s : State) : Prop := ∀ tag step, s.unit.op = some (.commit tag step) → s.unit.phase = .closing

/-- Nothing breaks the laws of the region unit on the way from one state to another by this command: SENSED moves at a confirming marker
alone, and the agreement of CURRENT, conflict flag and unknown condition is kept. -/
structure State.KeepsRegion (c : Instr) (s t : State) : Prop where
  sensed : t.region.sensedValid = true → t.region.sensed ≠ s.region.sensed ∨ s.region.sensedValid = false → State.Confirmed c s t
  agrees : s.CommitsClosing → s.RegionAgrees → t.RegionAgrees

/-- What leaves SENSED alone. -/
theorem State.KeepsRegion.of_sensed (sensed : t.region.sensed = s.region.sensed) (valid : t.region.sensedValid = s.region.sensedValid)
    (agrees : s.CommitsClosing → s.RegionAgrees → t.RegionAgrees) : s.KeepsRegion c t := by
  refine ⟨fun now moved => ?_, agrees⟩
  rcases moved with moved | before
  · exact absurd sensed moved
  · rw [valid, before] at now
    cases now

/-- What touches of the region unit at most what its laws do not read. -/
theorem State.KeepsRegion.of_alike (alike : s.region.Alike t.region) (phase : t.unit.phase = s.unit.phase) : s.KeepsRegion c t :=
  .of_sensed alike.sensed alike.valid fun _ agreed => agreed.congr alike phase

theorem State.KeepsRegion.of_same (region : t.region = s.region) (phase : t.unit.phase = s.unit.phase) : s.KeepsRegion c t :=
  .of_alike (region ▸ .refl _) phase

theorem State.KeepsRegion.refl (c : Instr) (s : State) : s.KeepsRegion c s := .of_same rfl rfl

/-- After a reset SENSED is not valid, and the unit is in no phase that CURRENT is recomputed in (R109, R161). -/
theorem State.KeepsRegion.of_reset (valid : t.region.sensedValid = false) (agreed : t.RegionAgrees) : s.KeepsRegion c t :=
  ⟨fun now => by simp [valid] at now, fun _ _ => agreed⟩

theorem State.KeepsRegion.like (h : s.KeepsRegion c t) (alike : t.region.Alike u.region) (phase : u.unit.phase = t.unit.phase) :
    s.KeepsRegion c u := by
  refine ⟨fun now moved => ?_, fun commits agreed => (h.agrees commits agreed).congr alike phase⟩
  unfold State.Confirmed
  rw [alike.sensed] at moved ⊢
  exact h.sensed (alike.valid ▸ now) moved

theorem State.KeepsRegion.after (h : s.KeepsRegion c t) (region : u.region = t.region) (phase : u.unit.phase = t.unit.phase) :
    s.KeepsRegion c u := h.like (region ▸ .refl _) phase

theorem State.KeepsRegion.before (h : t.KeepsRegion c u) (region : t.region = s.region) (unit : t.unit = s.unit) :
    s.KeepsRegion c u := by
  refine ⟨fun now moved => ?_, fun commits agreed => h.agrees ?_ (agreed.congr (region ▸ .refl _) (by rw [unit]))⟩
  · unfold State.Confirmed
    rw [← region] at moved ⊢
    exact h.sensed now moved
  · unfold State.CommitsClosing
    rw [unit]
    exact commits

theorem State.KeepsRegion.reply (h : s.KeepsRegion c t) (p : Port) (kind tag : Byte) (status : Status) (fields : List Byte) :
    s.KeepsRegion c (t.reply p kind tag status fields) := h.after (by simp) (by simp)

/-! ### Requests (R111, R114, R165, R167) -/

/-- The requests that reach the region unit: OPEN, CLOSE, LOAD_PROFILE and SET_REGION. -/
def reachesRegion : Request → Bool
  | .openUnit _ _ | .close | .loadProfile _ _ | .setRegion _ => true
  | _ => false

/-- Every other request leaves the region unit and the phase as they are. -/
theorem State.takeRequest_region (s : State) (p : Port) (tag : Byte) {r : Request} (apart : reachesRegion r = false) :
    (s.takeRequest p tag r).region = s.region ∧ (s.takeRequest p tag r).unit.phase = s.unit.phase := by
  cases r <;> simp only [reachesRegion, Bool.true_eq_false] at apart <;>
    simp only [State.takeRequest, State.takeStatus, State.takeReadRegion, State.takeKeyFetch, State.takeReopen, State.takePartReset,
      State.takeSetTuning, State.takeSetLevels, State.takeSetAims, State.takeSetPin, State.takeGridRestart, State.takeReadNodes,
      State.takeReadZones, State.takeMeasure, State.takeArm, State.takeDisarm, State.takeStart, State.takeStop, State.takeHalt,
      State.takeAdvance, State.takePatchAppend, State.takePatchClear, State.takeKeyBegin, State.takeKeyChunk, State.takeKeyDiscard,
      State.takeKeyFix, State.takeKeyWithdraw, State.takeKeyList, State.takeSetCheck, State.takeEvaluate] <;>
    (repeat' split) <;> simp [State.nextFixKey_unit]

/-- A write of GIVEN settles the region unit (R112). -/
theorem State.KeepsRegion.writeGiven (region : t.region = s.region) (code : Nat) : s.KeepsRegion c (t.writeGiven code) := by
  have written : (t.writeGiven code).region.sensed = t.region.sensed ∧ (t.writeGiven code).region.sensedValid = t.region.sensedValid := by
    rw [State.writeGiven, State.settleRegion_region]
    exact ⟨rfl, rfl⟩
  rw [region] at written
  exact .of_sensed written.1 written.2 fun _ _ => State.settleRegion_agrees _

theorem State.takeLoadProfile_keepsRegion (c : Instr) (s : State) (tag slot : Byte) (f : ProfileFields) :
    s.KeepsRegion c (s.takeLoadProfile tag slot f) := by
  have here := State.KeepsRegion.refl c s
  have loaded : ∀ slots, s.KeepsRegion c (s.setRegion { s.region with slots := slots }).settleCurrent := fun slots =>
    .of_sensed (by rw [State.settleCurrent_region]; rfl) (by rw [State.settleCurrent_region]; rfl)
      fun _ agreed => State.settleCurrent_agrees agreed.conflict
  unfold State.takeLoadProfile
  split
  · exact here.reply ..
  split
  · exact here.reply ..
  split
  · exact here.reply ..
  split
  · exact here.reply ..
  · exact (loaded _).reply ..

theorem State.takeSetRegion_keepsRegion (c : Instr) (s : State) (tag : Byte) (code : Half) : s.KeepsRegion c (s.takeSetRegion tag code) := by
  have here := State.KeepsRegion.refl c s
  unfold State.takeSetRegion
  split
  · exact here.reply ..
  split
  · exact here.reply ..
  split
  · exact here.reply ..
  split
  · exact here.reply ..
  split
  · exact here.reply ..
  · exact (State.KeepsRegion.writeGiven rfl _).reply ..

theorem State.KeepsRegion.setMode (h : s.KeepsRegion c t) (mode : ApplierMode) : s.KeepsRegion c (t.setMode mode) :=
  h.after (by simp) (by simp)

/-- The entry to OPEN writes GIVEN (R166). -/
theorem State.KeepsRegion.enterOpen (region : t.region = s.region) (given : Nat) : s.KeepsRegion c (t.enterOpen given) := by
  have written := State.KeepsRegion.writeGiven (c := c) (s := s) (t := t.setUnit { t.unit with phase := .opened }) region given
  exact (written.after (by simp) (by simp)).setMode .working

theorem State.KeepsRegion.replyOpened (h : s.KeepsRegion c t) (tag : Byte) : s.KeepsRegion c (t.replyOpened tag) := h.reply ..

/-- The reopening writes GIVEN over a cleared loop state (R173). -/
theorem State.KeepsRegion.completeReopen (region : t.region = s.region) : s.KeepsRegion c t.completeReopen :=
  State.KeepsRegion.setMode (.writeGiven (by simpa using region) _) .working

theorem State.takeOpen_keepsRegion (c : Instr) (s : State) (tag : Byte) (given : Half) (serial : List Byte) :
    s.KeepsRegion c (s.takeOpen tag given serial) := by
  have here := State.KeepsRegion.refl c s
  unfold State.takeOpen
  split
  · exact here.reply ..
  split
  · exact here.reply ..
  split
  · exact here.reply ..
  split
  · exact .of_same (by simp) (by simp)
  split
  · exact here.reply ..
  · exact (State.KeepsRegion.enterOpen rfl _).replyOpened tag

/-- Leaving OPEN ends the unknown condition and leaves the conflict flag (R117, R167). -/
theorem State.beginCommit_keepsRegion (c : Instr) (s : State) (tag : Byte) : s.KeepsRegion c (s.beginCommit tag) := by
  unfold State.beginCommit
  refine .of_sensed (by simp) (by simp) fun _ agreed => .of_unopened ?_ ?_ ?_
  · simp [State.commitAt]
  · simp [unknownCondition]
  · simpa using agreed.conflict

theorem State.takeRequest_keepsRegion (c : Instr) (s : State) (p : Port) (tag : Byte) (r : Request) :
    s.KeepsRegion c (s.takeRequest p tag r) := by
  by_cases apart : reachesRegion r = false
  · obtain ⟨region, phase⟩ := s.takeRequest_region p tag apart
    exact .of_same region phase
  cases r <;> simp only [reachesRegion, not_true_eq_false] at apart
  case openUnit => exact s.takeOpen_keepsRegion ..
  case loadProfile => exact s.takeLoadProfile_keepsRegion ..
  case setRegion => exact s.takeSetRegion_keepsRegion ..
  case close =>
    simp only [State.takeRequest, State.takeClose]
    split
    · exact (State.KeepsRegion.refl c s).reply ..
    · exact s.beginCommit_keepsRegion c tag

/-! ### The unit's life (R165, R169, R170, R173) -/

theorem State.takeOpenWrite_keepsRegion (c : Instr) (s : State) (outcome : WriteOutcome) : s.KeepsRegion c (s.takeOpenWrite outcome) := by
  unfold State.takeOpenWrite
  split
  · dsimp only
    split
    · exact State.KeepsRegion.replyOpened (.enterOpen (by simp) _) _
    · exact .of_same (by simp) (by simp)
  · exact .refl c s

theorem State.takeReopenWrite_keepsRegion (c : Instr) (s : State) (outcome : WriteOutcome) :
    s.KeepsRegion c (s.takeReopenWrite outcome) := by
  unfold State.takeReopenWrite
  split
  · dsimp only
    split
    · exact State.KeepsRegion.reply (.completeReopen (by simp)) ..
    · exact .of_same (by simp) (by simp)
  · exact .refl c s

/-- The commit's writes are carried in one phase (R168). -/
theorem State.commitNext_phase (s : State) (tag : Byte) (step : CommitStep) : (s.commitNext tag step).unit.phase = s.unit.phase := by
  cases step <;> simp [State.commitNext, State.commitAt]

/-- The commit's end leaves CLOSING, where the unknown condition was no already (R117, R169). -/
theorem State.completeCommit_agrees (identity : Option StationId) (closing : s.unit.phase = .closing) (agreed : s.RegionAgrees) :
    (s.completeCommit identity).RegionAgrees := by
  refine .of_unopened ?_ ?_ agreed.conflict
  · simp [State.completeCommit, State.setMode]
  · exact agreed.unknown.trans (by simp [unknownCondition, closing])

theorem State.takeCommitWrite_keepsRegion (c : Instr) (s : State) (outcome : WriteOutcome) : s.KeepsRegion c (s.takeCommitWrite outcome) := by
  unfold State.takeCommitWrite
  split
  · rename_i tag step w op _
    dsimp only
    split
    · split
      · rename_i identity
        have done : s.KeepsRegion c ((s.setNv (s.nv.endWrite outcome)).completeCommit identity) :=
          .of_sensed rfl rfl fun commits agreed =>
            State.completeCommit_agrees identity (commits tag _ op) (agreed.congr (.refl _) rfl)
        exact done.after (by simp) (by simp)
      · exact .of_same (by simp) (State.commitNext_phase ..)
    · have failed :
          s.KeepsRegion c ((s.setNv (s.nv.endWrite outcome)).setUnit { s.unit with phase := .opened, op := none }).settleCurrent :=
        .of_sensed (by rw [State.settleCurrent_region]; rfl) (by rw [State.settleCurrent_region]; rfl)
          fun _ agreed => State.settleCurrent_agrees agreed.conflict
      exact failed.reply ..
  · exact .refl c s

/-! ### Resets and start-up (R109, R118, R162) -/

theorem State.volatileReset_keepsRegion (c : Instr) (s : State) (cause : ResetCause) (nv : NvStore) (pending : List Instr) (choices : Nat) :
    s.KeepsRegion c (State.volatileReset cause nv pending choices) :=
  .of_reset rfl (.of_unopened nofun rfl rfl)

/-- Start-up loading leaves the unit BLANK, PARKED or CLOSED, with SENSED not valid (R118, R161). -/
theorem State.startedUp_keepsRegion (c : Instr) (s : State) (cause : ResetCause) : s.KeepsRegion c (s.startedUp cause) := by
  have marked : s.KeepsRegion c ((s.loading cause).loadMark cause) := by
    unfold State.loadMark
    split
    · exact .of_reset rfl (.of_unopened nofun rfl rfl)
    · split
      · exact .of_reset rfl (.of_unopened nofun rfl rfl)
      · exact .of_reset rfl (.of_unopened nofun rfl rfl)
      · exact .of_reset rfl (.of_unopened nofun rfl rfl)
  exact marked.after rfl rfl

/-! ### Markers (R119, R121 to R124) -/

/-- A line 0 that is not read changes nothing (R119). -/
theorem State.takeMarkerRead_passed (passed : s.region.lineArmed = false) (pixels : List Pixel) : s.takeMarkerRead pixels = s := by
  rw [State.takeMarkerRead, if_neg (by simp [passed])]

theorem State.takeMarkerRead_accepted {pixels : List Pixel} {m : Marker} (armed : s.region.lineArmed = true)
    (decoded : decodeMarker (cellValues pixels) = some m) :
    s.takeMarkerRead pixels = (s.setRegion { s.region with lineArmed := false }).markerAccepted m := by
  rw [State.takeMarkerRead, if_pos armed, decoded]

theorem State.takeMarkerRead_rejected {pixels : List Pixel} (armed : s.region.lineArmed = true)
    (rejected : decodeMarker (cellValues pixels) = none) :
    s.takeMarkerRead pixels = (s.setRegion { s.region with lineArmed := false }).markerMissed := by
  rw [State.takeMarkerRead, if_pos armed, rejected]

/-- A rejected marker touches presence and the miss count of the region unit (R122). -/
theorem State.markerMissed_region (s : State) : s.region.LikePresence s.markerMissed.region := by
  unfold State.markerMissed
  split
  · split
    · exact ⟨_, _, _, s.markerLost_blocks.2⟩
    · exact ⟨_, _, _, rfl⟩
  · exact ⟨_, _, _, rfl⟩

theorem State.markerPresence_region (s : State) (m : Marker) :
    (s.markerPresence m).region = { s.region with missCount := 0, markerPresent := true } := by
  unfold State.markerPresence
  dsimp only
  split <;> simp

/-- A marker confirms where the last accepted one carries the same region (R123). -/
theorem Region.confirms_iff (r : Region) (m : Marker) :
    r.confirms m = true ↔ ∃ last, r.lastMarker = some last ∧ last.code = m.code ∧ 1 ≤ m.code ∧ m.code ≤ 999 := by
  unfold Region.confirms
  cases before : r.lastMarker with
  | none => simp
  | some last =>
    simp only [Marker.carries, Bool.and_eq_true, decide_eq_true_eq, Option.some.injEq, exists_eq_left']
    constructor
    · rintro ⟨⟨carries, -⟩, same⟩
      exact ⟨same, carries⟩
    · rintro ⟨same, carries⟩
      exact ⟨⟨carries, same ▸ carries⟩, same⟩

/-- A confirmed code that SENSED does not hold moves it (R123). -/
theorem State.markerRegion_moves {m : Marker} (confirms : s.region.confirms m = true)
    (other : ¬(s.region.sensedValid = true ∧ s.region.sensed = m.code)) :
    s.markerRegion m = (s.senseCode m).setRegion { (s.senseCode m).region with lastMarker := some m } := by
  have moves : (s.region.confirms m && !(s.region.sensedValid && decide (s.region.sensed = m.code))) = true := by
    simpa [confirms, imp_iff_not_or] using other
  rw [State.markerRegion, moves]
  rfl

/-- Any other marker becomes the last accepted one, and that is all (R123). -/
theorem State.markerRegion_stays {m : Marker}
    (still : ¬(s.region.confirms m = true ∧ ¬(s.region.sensedValid = true ∧ s.region.sensed = m.code))) :
    s.markerRegion m = s.setRegion { s.region with lastMarker := some m } := by
  have stays : (s.region.confirms m && !(s.region.sensedValid && decide (s.region.sensed = m.code))) = false := by
    simpa using still
  rw [State.markerRegion, stays]
  rfl

/-- A moved SENSED settles the region unit (R113, R116, R117, R123). -/
theorem State.senseCode_agrees (s : State) (m : Marker) : (s.senseCode m).RegionAgrees := State.settleRegion_agrees _

theorem State.senseCode_sensed (s : State) (m : Marker) :
    (s.senseCode m).region.sensed = m.code ∧ (s.senseCode m).region.sensedValid = true := by
  rw [State.senseCode, State.settleRegion_region]
  simp

theorem State.takeIdentity_region (s : State) (m : Marker) (i : StationId) :
    (s.takeIdentity m i).region = { s.region with identity := some i } := by
  unfold State.takeIdentity
  split
  · rename_i held
    rw [← held]
  · simp

/-- The station byte touches the pending high byte and the identity (R124). -/
theorem State.markerIdentity_alike (s : State) (m : Marker) : s.region.Alike (s.markerIdentity m).region := by
  unfold State.markerIdentity
  split
  · exact s.region.alike_decoding ..
  · split
    · rw [State.takeIdentity_region]
      exact s.region.alike_decoding ..
    · exact s.region.alike_decoding ..

/-- SENSED moves to the code that an accepted marker confirms (R123). -/
theorem State.KeepsRegion.markerRegion {m : Marker} {line : LineRead} (alike : s.region.Alike u.region)
    (remembered : u.region.lastMarker = s.region.lastMarker) (phase : u.unit.phase = s.unit.phase)
    (decoded : decodeMarker (cellValues line.pixels) = some m) : s.KeepsRegion (.markerRead line) (u.markerRegion m) := by
  by_cases moves : u.region.confirms m = true ∧ ¬(u.region.sensedValid = true ∧ u.region.sensed = m.code)
  · obtain ⟨confirms, other⟩ := moves
    obtain ⟨last, held, code, carries⟩ := (u.region.confirms_iff m).mp confirms
    have sensed : s.KeepsRegion (.markerRead line) (u.senseCode m) :=
      ⟨fun _ _ => ⟨line.pixels, line.meets, m, last, rfl, decoded, remembered ▸ held, code, (u.senseCode_sensed m).1, carries⟩,
        fun _ _ => u.senseCode_agrees m⟩
    rw [State.markerRegion_moves confirms other]
    exact sensed.like (Region.alike_decoding ..) rfl
  · rw [State.markerRegion_stays moves]
    exact .of_alike (alike.trans (Region.alike_decoding ..)) phase

theorem State.takeMarkerRead_keepsRegion (s : State) (line : LineRead) :
    s.KeepsRegion (.markerRead line) (s.takeMarkerRead line.pixels) := by
  cases armed : s.region.lineArmed with
  | false =>
    rw [State.takeMarkerRead_passed armed]
    exact .refl _ s
  | true =>
    cases decoded : decodeMarker (cellValues line.pixels) with
    | none =>
      rw [State.takeMarkerRead_rejected armed decoded]
      have passed : s.region.Alike (s.setRegion { s.region with lineArmed := false }).region := s.region.alike_decoding ..
      exact .of_alike (passed.trans (State.markerMissed_region _).alike) (by simp)
    | some m =>
      rw [State.takeMarkerRead_accepted armed decoded]
      have region := (s.setRegion { s.region with lineArmed := false }).markerPresence_region m
      have sensed := State.KeepsRegion.markerRegion (s := s) (by rw [region]; exact s.region.alike_decoding ..) (by rw [region]; rfl)
        (by simp) decoded
      exact sensed.like (State.markerIdentity_alike _ m) (by simp [State.markerAccepted])

/-! ### Every command -/

/-- A count touches neither the region unit nor the unit controller. -/
theorem State.takeCount_region (s : State) (r : RowInProcess) : (s.takeCount r).1.region = s.region := by
  unfold State.takeCount State.takeWhiteCount State.takeColourCount
  dsimp only
  split <;> simp

theorem State.stepRow_keepsRegion (c : Instr) (s : State) : s.KeepsRegion c s.stepRow := by
  unfold State.stepRow
  split
  · exact .refl c s
  · rename_i r row
    have counted : s.KeepsRegion c (s.takeCount r).1 := .of_same (s.takeCount_region r) (by rw [(s.takeCount_frame r).2.2])
    dsimp only
    split
    · exact counted.after (by simp) (by simp)
    · exact counted.after rfl rfl

theorem State.Event.keepsRegion (event : s.Event c t) : s.KeepsRegion c t := by
  cases event with
  | frameStart lines pixels =>
    obtain ⟨u, e, -, region, -, -, -, -, -, -, -, unit, -⟩ := s.takeFrameStart_cases (lines.toNat, pixels.toNat)
    have locked : s.KeepsRegion (.inputFrameStart lines pixels) u := .of_alike region.alike (by rw [unit])
    rcases e with e | e <;> rw [e]
    · exact locked
    · exact locked.after (by simp) (by simp)
  | gapExpiry =>
    refine .of_alike ?_ (by simp)
    unfold State.takeGapExpiry
    dsimp only
    split
    · split
      · obtain ⟨present, missed, region⟩ := State.loseLock_region
          (s.setTiming { s.timing with gapRunning := false, matchCount := 0, reference := none })
        exact Region.LikePresence.alike ⟨present, missed, false, region⟩
      · exact .refl _
    · exact .refl _
  | tick =>
    unfold State.takeTick
    split
    · exact .refl _ s
    · exact .of_same (by simp) (by simp)
  | trimSent => exact .of_same (by simp) (by simp)
  | progress => exact .of_same (by simp) (by simp)
  | marker line => exact (s.takeMarkerRead_keepsRegion line).after (by simp) (by simp)
  | count => exact s.stepRow_keepsRegion _
  | openWrite outcome => exact State.takeOpenWrite_keepsRegion _ s outcome
  | commitWrite outcome => exact State.takeCommitWrite_keepsRegion _ s outcome
  | reopenWrite outcome => exact State.takeReopenWrite_keepsRegion _ s outcome
  | fixWrite outcome => exact .of_same (by simp) (s.takeFixWrite_phase outcome)
  | withdrawWrite outcome => exact .of_same (by simp) (s.takeWithdrawWrite_phase outcome)

theorem exec_keepsRegion (run : exec c s = .next t) : s.KeepsRegion c t := by
  have arbitrated : ∀ {u : State}, s.KeepsRegion c u → s.KeepsRegion c u.arbitrate := fun h => h.after (by simp) (by simp)
  cases exec_cases run with
  | nothing => exact .refl c s
  | reset source cut command => exact State.volatileReset_keepsRegion ..
  | startup cause held command => exact State.startedUp_keepsRegion ..
  | requestedReset p running due command => exact arbitrated (State.volatileReset_keepsRegion ..)
  | ports u running only => exact arbitrated (.of_same only.blocks.region (by rw [only.blocks.unit]))
  | request u p tag r running taken =>
    exact arbitrated ((State.takeRequest_keepsRegion c u p tag r).before taken.same.blocks.region taken.same.blocks.unit)
  | event u running event => exact arbitrated event.keepsRegion

theorem step_keeps_regionAgrees (run : step s = .next t) (ops : s.OpsAgree) (agreed : s.RegionAgrees) : t.RegionAgrees := by
  obtain ⟨-, rfl⟩ | ⟨c, rest, -, run⟩ := step_cases run
  · exact agreed
  · have commits : (s.setPending rest).CommitsClosing := fun _ _ op => (ops.commit op).1
    exact (exec_keepsRegion run).agrees commits (agreed.congr (.refl _) rfl)

end

end Sys2Proof.Machine

/-! CERTIFICATE. The laws of the region unit (O37, O58). -/

namespace Sys2Proof
open Sys2Proof.Machine

/-- Settles O37: of all commands a marker read alone moves SENSED, and only where it confirms the last accepted marker. -/
theorem sensedMovesOnlyOnAConfirmingPair : Obligations.SensedMovesOnlyOnAConfirmingPair := fun _ _ _ run => (exec_keepsRegion run).sensed

/-- Settles O58, by the same pass over the commands. -/
theorem regionStaysInAgreement : Obligations.RegionStaysInAgreement := fun _ _ => step_keeps_regionAgrees

end Sys2Proof

/-! SUPPORT. The bits of line 0: the cells that a word's bits draw, read back as the word (R119, R120). -/

namespace Sys2Proof.Machine
open Sys2Proof

section
variable {w v : Nat}

/-- A word's bits in the order of a marker's cells, the most significant first (R120). -/
def cellsOf (x : BitVec w) : List Bool := (List.range w).map x.getMsbD

theorem cellsOf_length (x : BitVec w) : (cellsOf x).length = w := by simp [cellsOf]

/-- The cells of two words end to end are the cells of the longer word. -/
theorem cellsOf_append (x : BitVec w) (y : BitVec v) : cellsOf (x ++ y) = cellsOf x ++ cellsOf y := by
  refine List.ext_getElem (by simp [cellsOf]) (fun i _ _ => ?_)
  by_cases first : i < w
  · simp [cellsOf, BitVec.getMsbD_append, first]
  · simp [cellsOf, BitVec.getMsbD_append, List.getElem_append, first]

/-- A cell behind others doubles what they spell (R120). -/
theorem fieldValue_concat (cells : List Bool) (c : Bool) : fieldValue (cells ++ [c]) = 2 * fieldValue cells + c.toNat := by
  cases c <;> simp [fieldValue]

/-- The first cells of a word spell its upper bits. -/
theorem fieldValue_msbs (x : BitVec w) {n : Nat} (inside : n ≤ w) :
    fieldValue ((List.range n).map x.getMsbD) = x.toNat >>> (w - n) := by
  induction n with
  | zero => simp [fieldValue, Nat.shiftRight_eq_zero _ _ x.isLt]
  | succ n ih =>
    have bit : x.getMsbD n = (x.toNat >>> (w - (n + 1))).testBit 0 := by
      rw [BitVec.getMsbD, decide_eq_true (by omega), Bool.true_and, BitVec.getLsbD, Nat.testBit_shiftRight]
      congr 1
      omega
    have upper : x.toNat >>> (w - n) = x.toNat >>> (w - (n + 1)) / 2 := by
      rw [show w - n = w - (n + 1) + 1 by omega, Nat.shiftRight_succ]
    rw [List.range_succ, List.map_append, List.map_singleton, fieldValue_concat, ih (by omega), bit, upper, Nat.toNat_testBit]
    omega

/-- The cells of a word spell the word (R120). -/
theorem fieldValue_cellsOf (x : BitVec w) : fieldValue (cellsOf x) = x.toNat := by
  rw [cellsOf, fieldValue_msbs x le_rfl, Nat.sub_self, Nat.shiftRight_zero]

/-- The marker of the given fields, with sync word and check code, decodes to its fields (R120). -/
theorem decodeMarker_cellsOf (frameIndex : BitVec 2) (line : BitVec 4) (code : BitVec 10) (stationByte : Byte) :
    decodeMarker
        (cellsOf (0x6C35#16 ++ (frameIndex ++ line ++ code ++ stationByte) ++ crc8 (cellsOf (frameIndex ++ line ++ code ++ stationByte)))) =
      some { frameIndex := frameIndex.toNat, line := line.toNat, code := code.toNat, stationByte := stationByte.toNat } := by
  have message : cellsOf (frameIndex ++ line ++ code ++ stationByte) =
      cellsOf frameIndex ++ (cellsOf line ++ (cellsOf code ++ cellsOf stationByte)) := by
    simp only [cellsOf_append, List.append_assoc]
  generalize checked : crc8 (cellsOf (frameIndex ++ line ++ code ++ stationByte)) = check
  rw [message] at checked
  rw [cellsOf_append, cellsOf_append, message, decodeMarker]
  simp (disch := simp [cellsOf_length]) [List.take_append, List.drop_append, List.take_of_length_le, List.drop_of_length_le, cellsOf_length,
    fieldValue_cellsOf, checked]

end

/-! ### Pixels (R119) -/

/-- A pixel of the generator: white or black. -/
def drawnPixel (bit : Bool) : Pixel := if bit then { r := 1023, g := 1023, b := 1023 } else { r := 0, g := 0, b := 0 }

theorem luma_drawn (bit : Bool) : luma (drawnPixel bit) = if bit then 1023 else 0 := by
  cases bit <;> rfl

/-- A cell whose sixteen pixels show one bit reads as that bit. -/
theorem cellValue_drawn {pixels : List Pixel} {i : Nat} {bit : Bool} (drawn : ∀ j < 16, pixels[16 * i + j]? = some (drawnPixel bit)) :
    cellValue pixels i = bit := by
  have cell : (pixels.drop (16 * i)).take 16 = List.replicate 16 (drawnPixel bit) := by
    refine List.ext_getElem? (fun j => ?_)
    by_cases inside : j < 16
    · rw [List.getElem?_take_of_lt inside, List.getElem?_drop, drawn j inside, List.getElem?_replicate, if_pos inside]
    · simp [inside]
  rw [cellValue, cell, List.map_replicate, List.sum_replicate, luma_drawn]
  cases bit <;> decide

end Sys2Proof.Machine

/-! CERTIFICATE. The drawn marker (O35). -/

namespace Sys2Proof
open Sys2Proof.Machine

/-- Settles O35: the sixteen pixels of a cell read as the bit they show, and the cells of the 48 bits decode field by field. -/
theorem drawnMarkerIsDecoded : Obligations.DrawnMarkerIsDecoded := by
  intro frameIndex line code stationByte pixels drawn
  rw [← decodeMarker_cellsOf]
  refine congrArg decodeMarker (List.map_congr_left fun i inside => cellValue_drawn fun j small => ?_)
  obtain ⟨px, held, shown⟩ := drawn (16 * i + j) (by simp at inside; omega)
  rw [held, shown, show (16 * i + j) / 16 = i by omega]
  rfl

end Sys2Proof

/-! SUPPORT. What a settling of the region unit tells its readers and reports (R93, R113, R115 to R117), in OPEN and outside it. -/

namespace Sys2Proof.Machine
open Sys2Proof

section
variable {s : State}

/-! ### The readers of CURRENT (R93, R115) -/

/-- The internal rate that CURRENT asks for: its mains rate, 60 when unset (R93). -/
theorem Region.rate_eq (r : Region) : r.rate = (r.current.map (·.profile.mains)).getD 60 := by
  unfold Region.rate
  cases r.current <;> rfl

/-- A new rate takes force at once outside a run; during one it is deferred, unless it is the one in force (R93). -/
theorem State.takeRate_timing (s : State) (rate : Nat) :
    (s.takeRate rate).timing =
      if s.seq.inRun = true then { s.timing with deferred := if rate = s.timing.rate then none else some rate }
      else { s.timing with rate := rate, deferred := none } := by
  unfold State.takeRate
  cases state : s.seq.state <;> simp [Sequencer.inRun, state]

/-- A region change goes past the requests that are held (R13). -/
theorem holdCeiling_append {before : List HeldItem} (requests : ∀ limit, HeldItem.ceiling limit ∉ before) (limit : Option Nat)
    (rest : List HeldItem) : holdCeiling limit (before ++ rest) = before ++ holdCeiling limit rest := by
  induction before with
  | nil => rfl
  | cons item later ih =>
    have past := ih fun limit held => requests limit (List.mem_cons_of_mem _ held)
    cases item with
    | ceiling old => exact absurd (List.mem_cons_self ..) (requests old)
    | setAims => exact congrArg (List.cons _) past
    | setPin => exact congrArg (List.cons _) past

/-- With a row in process a change of CURRENT in OPEN is held (R13, R115). -/
theorem State.settleCurrent_grid_busy (opened : s.unit.phase = .opened) (busy : s.intake.inProcess.isSome = true)
    (changed : currentChanged s.region.current s.region.computed = true) :
    s.settleCurrent.grid =
      { s.grid with held := Machine.holdCeiling (s.region.computed.map (·.profile.ceiling)) s.grid.held } := by
  unfold State.settleCurrent State.recomputeCurrent State.informReaders
  simp only [State.recomputeUnknown_frame, opened, changed, if_true]
  rw [State.takeCeiling, if_neg (by simpa [Option.isSome_iff_ne_none] using busy), State.holdCeiling]
  simp [Region.ceiling]

/-- A change of CURRENT in OPEN reaches the frame timing unit (R93, R115). -/
theorem State.settleCurrent_timing_changed (opened : s.unit.phase = .opened)
    (changed : currentChanged s.region.current s.region.computed = true) :
    s.settleCurrent.timing = (s.takeRate ((s.region.computed.map (·.profile.mains)).getD 60)).timing := by
  unfold State.settleCurrent State.recomputeCurrent State.informReaders
  simp only [State.recomputeUnknown_frame, State.takeCeiling_frame, opened, changed, if_true]
  rw [State.takeRate_timing, State.takeRate_timing, Region.rate_eq]
  rfl

/-- Where CURRENT does not change, the frame timing unit hears nothing (R115). -/
theorem State.settleCurrent_timing_unchanged (same : currentChanged s.region.current s.region.computed = false) :
    s.settleCurrent.timing = s.timing := by
  unfold State.settleCurrent State.recomputeCurrent
  simp only [State.recomputeUnknown_frame, same]
  split <;> rfl

/-! ### The unknown condition and the conflict flag (R116, R117) -/

theorem conflictFlag_eq (given sensed : Nat) (valid : Bool) :
    conflictFlag given sensed valid = decide (given ≠ 0 ∧ valid = true ∧ sensed ≠ given) := by
  rw [conflictFlag, Bool.eq_iff_iff]
  simp [and_assoc]

/-- The rise of the unknown condition is reported; a settling of CURRENT passes no other frame (R117). -/
theorem State.settleCurrent_station (opened : s.unit.phase = .opened) :
    s.settleCurrent.station =
      if decide (s.region.given = 0 ∧ s.region.sensedValid = true ∧ s.region.profileFor s.region.sensed = none) = true ∧
          s.region.unknown = false then
        (s.report 0x77 ([bitByte [s.region.identity.isSome]] ++ u16 s.region.sensed ++ identityBytes s.region.identity)).station
      else s.station := by
  obtain ⟨-, -, -, -, -, -, -, unit, -⟩ := s.recomputeCurrent_frame
  have region : s.recomputeCurrent.region = { s.region with current := s.region.computed } := by
    rw [State.recomputeCurrent_region, if_pos opened]
  have profiles : ({ s.region with current := s.region.computed } : Region).profileFor = s.region.profileFor := Region.profileFor_congr rfl rfl
  rw [← unknownCondition_opened, State.settleCurrent, State.recomputeUnknown, region, unit, opened]
  dsimp only
  rw [profiles]
  generalize unknownCondition .opened s.region.given s.region.sensedValid _ = unknown
  cases unknown <;> cases s.region.unknown <;> simp [State.report_reported]

/-- Outside OPEN a settling of CURRENT ends the unknown condition, and that is all (R113, R117). -/
theorem State.settleCurrent_unopened (unopened : s.unit.phase ≠ .opened) :
    s.settleCurrent = s.setRegion { s.region with unknown := false } := by
  have no : unknownCondition s.unit.phase s.region.given s.region.sensedValid (s.region.profileFor s.region.sensed).isSome = false := by
    simp [unknownCondition, unopened]
  rw [State.settleCurrent, State.recomputeCurrent, if_neg unopened, State.recomputeUnknown, no]
  rfl

/-- A full settling recomputes the conflict flag after CURRENT, and reports its rise (R116). -/
theorem State.settleRegion_eq (s : State) :
    s.settleRegion =
      (let conflict : Bool := decide (s.region.given ≠ 0 ∧ s.region.sensedValid = true ∧ s.region.sensed ≠ s.region.given)
       let u := s.settleCurrent.setRegion { s.settleCurrent.region with conflict := conflict }
       if conflict = true ∧ s.region.conflict = false then
         u.report 0x76
           ([bitByte [s.region.identity.isSome]] ++ u16 s.region.given ++ u16 s.region.sensed ++ identityBytes s.region.identity)
        else u) := by
  obtain ⟨given, sensed, valid, conflict, identity⟩ :
      s.settleCurrent.region.given = s.region.given ∧ s.settleCurrent.region.sensed = s.region.sensed ∧
        s.settleCurrent.region.sensedValid = s.region.sensedValid ∧ s.settleCurrent.region.conflict = s.region.conflict ∧
        s.settleCurrent.region.identity = s.region.identity := by
    rw [State.settleCurrent_region]
    exact ⟨rfl, rfl, rfl, rfl, rfl⟩
  rw [State.settleRegion, State.recomputeConflict, given, sensed, valid, conflict, identity, conflictFlag_eq]
  simp [given, sensed, valid, identity]

end

end Sys2Proof.Machine

/-! SUPPORT. What a marker read does, stage by stage: presence, SENSED, the station identity (R121 to R124). -/

namespace Sys2Proof.Machine
open Sys2Proof

section
variable {s : State} {m high : Marker}

/-! ### A rejected marker (R122) -/

theorem State.markerMissed_absent (absent : s.region.markerPresent = false) : s.markerMissed = s := by
  rw [State.markerMissed, if_neg (by simp [absent])]

theorem State.markerMissed_counts (present : s.region.markerPresent = true) (few : s.region.missCount < 99) :
    s.markerMissed = s.setRegion { s.region with missCount := s.region.missCount + 1 } := by
  rw [State.markerMissed, if_pos present, if_neg (by omega)]

/-- The hundredth miss in a row ends presence. -/
theorem State.markerMissed_ends (present : s.region.markerPresent = true) (hundredth : s.region.missCount = 99) :
    s.markerMissed = s.markerLost := by
  rw [State.markerMissed, if_pos present, if_pos (by omega)]

theorem exec_markerRead_rejected {u : State} {pixels : List Pixel} (running : s.power = .running) (count : pixels.length = 768)
    (armed : s.region.lineArmed = true) (rejected : decodeMarker (cellValues pixels) = none)
    (missed : (s.setRegion { s.region with lineArmed := false }).markerMissed = u) (meets : Bool) :
    exec (.markerRead ⟨pixels, meets⟩) s = .next (u.beginDue meets).arbitrate := by
  rw [exec_markerRead running count, State.takeMarkerRead_rejected armed rejected, missed]

/-! ### An accepted marker (R121, R123, R124) -/

/-- Presence, the line being read (R119, R121). -/
def State.foundMarker (s : State) (m : Marker) : State := (s.setRegion { s.region with lineArmed := false }).markerPresence m

theorem State.foundMarker_region (s : State) (m : Marker) :
    (s.foundMarker m).region = { s.region with lineArmed := false, markerPresent := true, missCount := 0 } :=
  State.markerPresence_region _ m

/-- An accepted marker is taken stage by stage (R120 to R124). -/
theorem exec_markerRead_accepted {pixels : List Pixel} (running : s.power = .running) (count : pixels.length = 768)
    (armed : s.region.lineArmed = true) (decoded : decodeMarker (cellValues pixels) = some m) (meets : Bool) :
    exec (.markerRead ⟨pixels, meets⟩) s =
      .next ((((s.foundMarker m).markerRegion m).markerIdentity m).beginDue meets).arbitrate := by
  rw [exec_markerRead running count, State.takeMarkerRead_accepted armed decoded]
  rfl

/-- The marker confirms a code that SENSED does not hold (R123). -/
def Region.Moves (r : Region) (m : Marker) : Prop := r.confirms m = true ∧ ¬(r.sensedValid = true ∧ r.sensed = m.code)

theorem Region.moves_iff (r : Region) (m : Marker) :
    r.Moves m ↔
      (∃ last, r.lastMarker = some last ∧ last.code = m.code ∧ 1 ≤ m.code ∧ m.code ≤ 999) ∧
        ¬(r.sensedValid = true ∧ r.sensed = m.code) := by
  rw [Region.Moves, Region.confirms_iff]

/-- SENSED is settled where the marker moves it, and then the marker is the last accepted one (R123). -/
theorem State.markerRegion_settled (s : State) (m : Marker) :
    ∃ settled : State, (s.region.Moves m → settled = s.senseCode m) ∧ (¬ s.region.Moves m → settled = s) ∧
      s.markerRegion m = settled.setRegion { settled.region with lastMarker := some m } := by
  by_cases moves : s.region.Moves m
  · exact ⟨_, fun _ => rfl, fun stays => absurd moves stays, State.markerRegion_moves moves.1 moves.2⟩
  · exact ⟨_, fun moved => absurd moved moves, fun _ => rfl, State.markerRegion_stays moves⟩

/-- A moved SENSED: CURRENT, the unknown condition and the conflict flag follow (R113, R116, R117, R123). -/
theorem State.senseCode_region (s : State) (m : Marker) :
    (s.senseCode m).region =
      (let r : Region := { s.region with sensed := m.code, sensedValid := true }
       { r with
         current := if s.unit.phase = .opened then r.computed else r.current
         unknown := unknownCondition s.unit.phase r.given true (r.profileFor m.code).isSome
         conflict := conflictFlag r.given m.code true }) := by
  rw [State.senseCode, State.settleRegion_region, (State.reportMarker_frame ..).2.2.2.2.2.1,
    (State.reportMarker_frame ..).2.2.2.2.2.2.2.2.2.2.1]
  rfl

/-- What a settling leaves of the region unit, and the last accepted marker (R123). -/
theorem State.markerRegion_region (s : State) (m : Marker) :
    ∃ sensed valid current conflict unknown, (s.markerRegion m).region =
      { s.region with
        lastMarker := some m, sensed := sensed, sensedValid := valid, current := current, conflict := conflict, unknown := unknown } := by
  by_cases moves : s.region.Moves m
  · rw [State.markerRegion_moves moves.1 moves.2, State.setRegion_region, State.senseCode_region]
    exact ⟨_, _, _, _, _, rfl⟩
  · rw [State.markerRegion_stays moves]
    exact ⟨_, _, _, _, _, rfl⟩

/-- An identity that the unit holds already changes nothing (R124). -/
theorem State.takeIdentity_held {i : StationId} (held : s.region.identity = some i) (m : Marker) : s.takeIdentity m i = s := by
  rw [State.takeIdentity, if_pos held]

/-- A new one is taken and reported (R124). -/
theorem State.takeIdentity_new {i : StationId} (new : s.region.identity ≠ some i) (m : Marker) :
    s.takeIdentity m i = (s.setRegion { s.region with identity := some i }).reportMarker .identity (some m) := by
  rw [State.takeIdentity, if_neg new]

/-- The low byte that a pending high byte waits for completes the identity (R124). -/
theorem State.markerIdentity_follows (pending : s.region.pendingHigh = some high) (next : m.frameIndex = high.frameIndex + 1)
    (line : m.line = high.line) :
    s.markerIdentity m =
      (s.setRegion { s.region with pendingHigh := none }).takeIdentity m
        { line := m.line, station := high.stationByte * 256 + m.stationByte } := by
  rw [State.markerIdentity, pending]
  exact if_pos (decide_eq_true ⟨next, line⟩)

/-- With no high byte that waits for it, a byte of index 0 or 2 is pending itself (R124). -/
theorem State.markerIdentity_apart
    (apart : ∀ high, s.region.pendingHigh = some high → m.frameIndex ≠ high.frameIndex + 1 ∨ m.line ≠ high.line) :
    s.markerIdentity m =
      s.setRegion { s.region with pendingHigh := if m.frameIndex = 0 ∨ m.frameIndex = 2 then some m else none } := by
  rw [State.markerIdentity]
  cases pending : s.region.pendingHigh with
  | none => rfl
  | some high =>
    have other : m.follows high = false := decide_eq_false fun ⟨next, line⟩ => (apart high pending).elim (absurd next) (absurd line)
    simp only [other, Bool.false_eq_true, if_false]
    rfl

/-- The station byte touches the pending high byte and the identity (R124). -/
theorem State.markerIdentity_region (s : State) (m : Marker) :
    ∃ pending identity, (s.markerIdentity m).region = { s.region with pendingHigh := pending, identity := identity } := by
  unfold State.markerIdentity
  split
  · exact ⟨_, _, rfl⟩
  · split
    · exact ⟨_, _, State.takeIdentity_region ..⟩
    · exact ⟨_, _, rfl⟩

end

end Sys2Proof.Machine

/-! CERTIFICATE. Marker reads (O36). -/

namespace Sys2Proof
open Sys2Proof.Machine

/-- Settles O36: a rejected marker by presence and misses, an accepted one by its stages. -/
theorem markerReadsCountPresence : Obligations.MarkerReadsCountPresence := by
  intro s pixels meets running count
  refine ⟨fun passed => ?_, fun armed rejected absent => ?_, fun armed rejected present few => ?_, fun armed rejected present hundredth => ?_,
    fun m armed decoded => ?_⟩
  · rw [exec_markerRead running count, State.takeMarkerRead_passed passed]
  · exact exec_markerRead_rejected running count armed rejected (State.markerMissed_absent absent) meets
  · exact exec_markerRead_rejected running count armed rejected (State.markerMissed_counts present few) meets
  · exact exec_markerRead_rejected running count armed rejected (State.markerMissed_ends present hundredth) meets
  · intro shown moves found
    have region := s.foundMarker_region m
    have movesIff : moves ↔ (s.foundMarker m).region.Moves m := by rw [Region.moves_iff, region]
    obtain ⟨settled, sensed, still, kept⟩ := (s.foundMarker m).markerRegion_settled m
    obtain ⟨_, _, _, _, _, keptRegion⟩ := (s.foundMarker m).markerRegion_region m
    obtain ⟨_, _, takenRegion⟩ := ((s.foundMarker m).markerRegion m).markerIdentity_region m
    rw [keptRegion, region] at takenRegion
    rw [region] at keptRegion
    refine ⟨settled, (s.foundMarker m).markerRegion m, ((s.foundMarker m).markerRegion m).markerIdentity m,
      exec_markerRead_accepted running count armed decoded meets, fun moved => sensed (movesIff.mp moved),
      fun stays => still (mt movesIff.mpr stays), kept, fun high pending next line => ?_, fun apart => ?_, ?_⟩
    · have waits : ((s.foundMarker m).markerRegion m).region.pendingHigh = some high := by rw [keptRegion]; exact pending
      have held : ((s.foundMarker m).markerRegion m).region.identity = s.region.identity := by rw [keptRegion]
      rw [State.markerIdentity_follows waits next line]
      refine ⟨fun same => State.takeIdentity_held (by exact held.trans same) m, fun new => ?_⟩
      rw [State.takeIdentity_new (by rw [State.setRegion_region, held]; exact new)]
      rfl
    · exact State.markerIdentity_apart (by rw [keptRegion]; exact apart)
    · rw [takenRegion]
      refine ⟨rfl, rfl, rfl, rfl, rfl, rfl, ?_⟩
      constructor <;> simp [State.foundMarker]

end Sys2Proof

/-! SUPPORT. What an accepted marker leaves for CURRENT, its readers and the flags (R113, R116, R123). -/

namespace Sys2Proof.Machine
open Sys2Proof

section
variable {s : State} {m : Marker}

/-- Outside OPEN a moved SENSED leaves CURRENT and its readers (R113). -/
theorem State.senseCode_unopened (unopened : s.unit.phase ≠ .opened) (m : Marker) :
    (s.senseCode m).region.current = s.region.current ∧ (s.senseCode m).grid = s.grid ∧ (s.senseCode m).timing = s.timing := by
  have settled := State.settleCurrent_unopened
    (s := (s.setRegion { s.region with sensed := m.code, sensedValid := true }).reportMarker .sensed (some m)) (by simpa using unopened)
  rw [State.senseCode, State.settleRegion, State.recomputeConflict_region, (State.recomputeConflict_frame _).2.1,
    (State.recomputeConflict_frame _).2.2.2.2.1, settled]
  simp

/-- Where a marker moves SENSED, the conflict flag follows it, and CURRENT in OPEN; outside OPEN CURRENT and its readers stay (R113, R116,
R123). -/
theorem State.markerRegion_moved (moves : s.region.Moves m) :
    (s.markerRegion m).region.sensed = m.code ∧ (s.markerRegion m).region.sensedValid = true ∧
      (s.markerRegion m).region.conflict = decide (s.region.given ≠ 0 ∧ m.code ≠ s.region.given) ∧
      (s.unit.phase = .opened → (s.markerRegion m).region.current = (s.markerRegion m).region.computed) ∧
      (s.unit.phase ≠ .opened →
        (s.markerRegion m).region.current = s.region.current ∧ (s.markerRegion m).grid = s.grid ∧
          (s.markerRegion m).timing = s.timing) := by
  have kept := State.markerRegion_moves moves.1 moves.2
  have agreed : (s.markerRegion m).RegionAgrees := by
    rw [kept]
    exact (s.senseCode_agrees m).congr (Region.alike_decoding ..) rfl
  refine ⟨?_, ?_, ?_, fun opened => agreed.current (by simpa using opened), fun unopened => ?_⟩
  · simp [kept, s.senseCode_sensed m]
  · simp [kept, s.senseCode_sensed m]
  · simp [kept, s.senseCode_region m, conflictFlag_eq]
  · simpa [kept] using s.senseCode_unopened unopened m

/-- Where it does not, SENSED, CURRENT with its readers and the conflict flag stay (R123). -/
theorem State.markerRegion_unmoved (still : ¬ s.region.Moves m) :
    (s.markerRegion m).region.sensed = s.region.sensed ∧ (s.markerRegion m).region.sensedValid = s.region.sensedValid ∧
      (s.markerRegion m).region.current = s.region.current ∧ (s.markerRegion m).region.conflict = s.region.conflict ∧
      (s.markerRegion m).grid = s.grid ∧ (s.markerRegion m).timing = s.timing := by
  rw [State.markerRegion_stays still]
  exact ⟨rfl, rfl, rfl, rfl, rfl, rfl⟩

/-- What the unit shows after an accepted marker: the reports, the arbiters and the row that begins leave region unit, grid memory and
frame timing unit as the marker's stages left them. -/
theorem exec_markerRead_shows {pixels : List Pixel} (running : s.power = .running) (count : pixels.length = 768)
    (armed : s.region.lineArmed = true) (decoded : decodeMarker (cellValues pixels) = some m) (meets : Bool) :
    ∃ t, exec (.markerRead ⟨pixels, meets⟩) s = .next t ∧
      t.region = (((s.foundMarker m).markerRegion m).markerIdentity m).region ∧ t.grid = ((s.foundMarker m).markerRegion m).grid ∧
      t.timing = ((s.foundMarker m).markerRegion m).timing :=
  ⟨_, exec_markerRead_accepted running count armed decoded meets, by simp, by simp, by simp⟩

end

end Sys2Proof.Machine

/-! CERTIFICATE. The requests of the region unit, and what follows for CURRENT (O34). -/

namespace Sys2Proof
open Sys2Proof.Machine

/-- Settles O34: the two requests by their checks, a settling by the phase, an accepted marker by whether it moves SENSED. -/
theorem regionRequestsRecomputeCurrent : Obligations.RegionRequestsRecomputeCurrent := by
  refine ⟨fun s tag slot f h low valid => ?_, fun s tag code h range rests => ?_, fun s opened => ?_, fun s unopened => ?_,
    fun s pixels meets m running count armed decoded => ?_, fun s m i => ⟨fun held => ?_, fun new => ?_⟩⟩
  · intro t
    have owner : exec (.loadProfile .station tag slot f) s = .next (s.takeLoadProfile tag slot f).arbitrate :=
      State.request_open (r := .loadProfile slot f) rfl rfl h (by simp [Request.kind])
    rw [owner, State.takeLoadProfile, if_neg (by simp [h.opened]), if_neg (by simp [valid]; omega)]
    refine ⟨fun elsewhere => ?_, fun free inUse => ?_, fun free unused => ?_⟩
    · rw [if_pos elsewhere]
      rfl
    · rw [if_neg (by simp [free]), if_pos inUse]
      rfl
    · rw [if_neg (by simp [free]), if_neg (by simp [unused])]
      simp only [Region.currentCode_eq, currentChanged]
      rfl
  · intro t shown
    have fields : ∀ r : Region, r.setFields = shown r := fun r => by rw [Region.setFields, Region.currentCode_eq]
    have owner : exec (.setRegion .station tag code) s = .next (s.takeSetRegion tag code).arbitrate :=
      State.request_open (r := .setRegion code) rfl rfl h (by simp [Request.kind])
    have resting : ¬(s.seq.state = .running ∨ s.seq.state = .stopping) := of_decide_eq_false rests
    rw [owner, State.takeSetRegion, if_neg (by simp [h.opened]), if_neg (by omega), if_neg resting]
    have profiled : code.toNat = 0 ∨ (s.region.profileFor code.toNat).isSome = true →
        ¬(code.toNat ≠ 0 ∧ (s.region.profileFor code.toNat).isNone = true) := by
      rintro (zero | known) ⟨nonzero, missing⟩
      · exact nonzero zero
      · rw [Option.isNone_iff_eq_none.mp missing] at known
        cases known
    refine ⟨fun nonzero missing => ?_, fun known same => ?_, fun known other => ?_⟩
    · rw [if_pos ⟨nonzero, by rw [missing]; rfl⟩]
      rfl
    · rw [if_neg (profiled known), if_pos same, fields]
    · rw [if_neg (profiled known), if_neg other]
      simp only [fields]
      rfl
  · intro t current unknown conflict changed rate ceiling
    have region : t.region = { s.region with current := current, unknown := unknown } := State.settleCurrent_region_opened opened
    have same_iff : currentChanged s.region.current s.region.computed = decide changed := rfl
    obtain ⟨-, -, -, -, -, -, -, -, -, system, -⟩ := s.settleCurrent_frame
    refine ⟨s.settleCurrent_beside, system, region, State.settleCurrent_station opened, fun same => ?_, fun moved => ?_, s.settleRegion_eq⟩
    · have still := same_iff.trans (decide_eq_false same)
      exact ⟨State.settleCurrent_grid_unchanged still, State.settleCurrent_timing_unchanged still⟩
    · have told := same_iff.trans (decide_eq_true moved)
      have timing : t.timing = (s.takeRate rate).timing := State.settleCurrent_timing_changed opened told
      rw [s.takeRate_timing] at timing
      refine ⟨fun rests => ?_, fun runs new => ?_, fun runs same => ?_, fun idle => State.settleCurrent_grid_changed opened idle told,
        fun busy => ?_⟩
      · rw [timing, if_neg (by simp [rests])]
      · rw [timing, if_pos runs, if_neg new]
      · rw [timing, if_pos runs, if_pos same]
      · have grid : t.grid = { s.grid with held := holdCeiling ceiling s.grid.held } := State.settleCurrent_grid_busy opened busy told
        refine ⟨fun requests => ?_, fun before old after requests held => ?_⟩
        · have last := holdCeiling_append requests ceiling []
          rw [List.append_nil] at last
          rw [grid, last]
          rfl
        · rw [grid, held, holdCeiling_append requests]
          rfl
  · intro conflict
    have settled := State.settleCurrent_unopened unopened
    refine ⟨settled, ?_⟩
    rw [s.settleRegion_eq, settled]
    rfl
  · intro confirms
    obtain ⟨t, run, region, grid, timing⟩ := exec_markerRead_shows running count armed decoded meets
    have found := s.foundMarker_region m
    have movesIff : (s.foundMarker m).region.Moves m ↔ confirms ∧ ¬(s.region.sensedValid = true ∧ s.region.sensed = m.code) := by
      rw [Region.moves_iff, found]
    have phase : (s.foundMarker m).unit.phase = s.unit.phase := by simp [State.foundMarker]
    have readers : (s.foundMarker m).grid = s.grid ∧ (s.foundMarker m).timing = s.timing := by simp [State.foundMarker]
    have shown : ((s.foundMarker m).markerRegion m).region.Alike t.region := region ▸ State.markerIdentity_alike _ m
    obtain ⟨_, _, _, _, _, kept⟩ := (s.foundMarker m).markerRegion_region m
    rw [found] at kept
    refine ⟨t, run, ?_⟩
    rw [grid, timing, shown.sensed, shown.valid, shown.current, shown.conflict,
      Region.computed_congr shown.slots shown.committed shown.given shown.sensed shown.valid]
    have unmoved (still : ¬(confirms ∧ ¬(s.region.sensedValid = true ∧ s.region.sensed = m.code))) :=
      State.markerRegion_unmoved (mt movesIff.mp still)
    simp only [found, readers] at unmoved
    refine ⟨fun pair => ?_, fun other => ?_, fun still => ?_, fun high pending next line => ?_, fun apart => ?_⟩
    · by_cases holds : s.region.sensedValid = true ∧ s.region.sensed = m.code
      · obtain ⟨sensed, valid, current, -, gridStays, timingStays⟩ := unmoved fun moved => moved.2 holds
        exact ⟨sensed.trans holds.2, valid.trans holds.1, fun new => absurd holds (by simpa [imp_iff_not_or] using new),
          fun _ => ⟨current, gridStays, timingStays⟩⟩
      · obtain ⟨sensed, valid, conflict, current, unopened⟩ := State.markerRegion_moved (movesIff.mpr ⟨pair, holds⟩)
        rw [found] at conflict unopened
        rw [phase] at current unopened
        rw [readers.1, readers.2] at unopened
        exact ⟨sensed, valid, fun _ => ⟨conflict, current⟩, unopened⟩
    · obtain ⟨sensed, valid, -⟩ := unmoved fun moved => other moved.1
      exact ⟨sensed, valid⟩
    · obtain ⟨-, -, stays⟩ := unmoved fun moved => still.elim (fun other => other moved.1) moved.2
      exact stays
    · rw [region, State.markerIdentity_follows (by rw [kept]; exact pending) next line, State.takeIdentity_region]
      exact ⟨rfl, rfl⟩
    · rw [region, State.markerIdentity_apart (by rw [kept]; exact apart), State.setRegion_region, kept]
      exact ⟨rfl, rfl⟩
  · exact State.takeIdentity_held held m
  · exact (State.takeIdentity_new new m).trans rfl

end Sys2Proof

/-! SUPPORT. The key area through every command (R133): a command leaves it as it is, or ends the write that is in flight. -/

namespace Sys2Proof.Machine
open Sys2Proof

section
variable {s t : State}

/-! ### What leaves the key area alone -/

@[simp] theorem State.beginWrite_keyArea (s : State) (place : NvPlace) (data : List Byte) :
    (s.beginWrite place data).nv.keyArea = s.nv.keyArea := rfl

@[simp] theorem State.beginRecord_keyArea (s : State) (mark : Mark) (rework : Nat) (serial : List Byte) (identity : Option StationId) :
    (s.beginRecord mark rework serial identity).nv.keyArea = s.nv.keyArea := rfl

@[simp] theorem State.beginFixStep_keyArea (s : State) (tag : Byte) (count n : Nat) (e : KeyEntry) (step : FixStep) (start : Nat) :
    (s.beginFixStep tag count n e step start).nv.keyArea = s.nv.keyArea := rfl

@[simp] theorem State.nextFixKey_keyArea (s : State) (tag : Byte) (count : Nat) : (s.nextFixKey tag count).nv.keyArea = s.nv.keyArea := by
  unfold State.nextFixKey
  (repeat' split) <;> simp

@[simp] theorem State.fixVerified_keyArea (s : State) (tag : Byte) (count n : Nat) (e : KeyEntry) (step : FixStep) (start : Nat) :
    (s.fixVerified tag count n e step start).nv.keyArea = s.nv.keyArea := by
  cases step <;> simp [State.fixVerified]

@[simp] theorem State.commitNext_keyArea (s : State) (tag : Byte) (step : CommitStep) :
    (s.commitNext tag step).nv.keyArea = s.nv.keyArea := by
  cases step <;> rfl

/-- A request begins writes and ends none, so the key area stays (R133). -/
theorem State.takeRequest_keyArea (s : State) (p : Port) (tag : Byte) (r : Request) :
    (s.takeRequest p tag r).nv.keyArea = s.nv.keyArea := by
  by_cases still : movesUnit r = false
  · rw [(s.takeRequest_keepsUnit p tag still).1]
  cases r <;> simp only [movesUnit, not_true_eq_false] at still <;>
    simp only [State.takeRequest, State.takeOpen, State.takeClose, State.beginCommit, State.takeReopen, State.takeKeyFix,
      State.takeKeyWithdraw] <;>
    (repeat' split) <;> simp

/-! ### Every command -/

/-- The key area of the second store is that of the first, or what the end of the first one's write in flight leaves of it. -/
def NvStore.AreaKept (nv nv' : NvStore) : Prop :=
  nv'.keyArea = nv.keyArea ∨ ∃ outcome, nv'.keyArea = (nv.endWrite outcome).keyArea

theorem NvStore.AreaKept.wf {nv nv' : NvStore} (h : nv.AreaKept nv') (wf : Cells.wf nv.keyArea = true) : Cells.wf nv'.keyArea = true := by
  obtain e | ⟨outcome, e⟩ := h <;> rw [e]
  · exact wf
  · exact nv.endWrite_wf outcome wf

theorem NvStore.AreaKept.written {nv nv' : NvStore} (h : nv.AreaKept nv') {x : Nat} (written : Cells.read nv.keyArea x ≠ blank) :
    Cells.read nv'.keyArea x ≠ blank := by
  obtain e | ⟨outcome, e⟩ := h <;> rw [e]
  · exact written
  · exact nv.endWrite_written outcome x written

/-- The completions of writes end the write in flight; no other event reaches the key area (R133). -/
theorem State.Event.areaKept {c : Instr} (event : s.Event c t) : s.nv.AreaKept t.nv := by
  cases event with
  | frameStart => exact .inl (by simp)
  | gapExpiry => exact .inl (by simp)
  | tick => exact .inl (by simp)
  | trimSent => exact .inl (by simp)
  | progress => exact .inl (by simp)
  | marker => exact .inl (by simp)
  | count =>
    left
    unfold State.stepRow
    split
    · rfl
    · dsimp only
      split <;> simp [State.takeCount_frame]
  | openWrite outcome =>
    unfold State.takeOpenWrite
    split
    · refine .inr ⟨outcome, ?_⟩
      dsimp only
      split <;> simp
    · exact .inl rfl
  | commitWrite outcome =>
    unfold State.takeCommitWrite
    split
    · refine .inr ⟨outcome, ?_⟩
      dsimp only
      (repeat' split) <;> simp
    · exact .inl rfl
  | reopenWrite outcome =>
    unfold State.takeReopenWrite
    split
    · refine .inr ⟨outcome, ?_⟩
      dsimp only
      split <;> simp
    · exact .inl rfl
  | fixWrite outcome =>
    unfold State.takeFixWrite
    split
    · split
      · refine .inr ⟨outcome, ?_⟩
        dsimp only
        split <;> simp
      · exact .inl rfl
    · exact .inl rfl
  | withdrawWrite outcome =>
    unfold State.takeWithdrawWrite
    split
    · split
      · exact .inr ⟨outcome, by simp⟩
      · exact .inl rfl
    · exact .inl rfl

/-- Every command leaves the key area as it is, or ends the write in flight; so does a reset, and start-up only reads it (R133, R162). -/
theorem exec_areaKept {c : Instr} (run : exec c s = .next t) : s.nv.AreaKept t.nv := by
  cases exec_cases run with
  | nothing => exact .inl rfl
  | reset source cut command => exact .inr ⟨cut, rfl⟩
  | startup cause held command =>
    left
    rw [State.startedUp_eq]
    obtain ⟨-, -, nv, -⟩ := (s.loading cause).loadMark_frame cause
    exact congrArg NvStore.keyArea nv
  | requestedReset p running due command => exact .inl (by simp; rfl)
  | ports u running only => exact .inl (by simp [only.blocks.nv])
  | request u p tag r running taken => exact .inl (by simp [State.takeRequest_keyArea, taken.same.blocks.nv])
  | event u running event => simpa using event.areaKept

end

end Sys2Proof.Machine

/-! CERTIFICATE. The key area (O49). -/

namespace Sys2Proof
open Sys2Proof.Machine

/-- Settles O49: a step leaves the key area as it is or ends a write, and no write breaks the form or blanks a byte. -/
theorem keyAreaStaysCanonicalAndWritten : Obligations.KeyAreaStaysCanonicalAndWritten := by
  intro s t run
  obtain ⟨-, rfl⟩ | ⟨c, rest, -, run⟩ := step_cases run
  · exact ⟨id, fun _ => id⟩
  · have kept : s.nv.AreaKept t.nv := exec_areaKept (s := s.setPending rest) run
    exact ⟨kept.wf, fun _ => kept.written⟩

end Sys2Proof

/-! SUPPORT. The key table's entries through every command (R129, R130, R141): the ids stay apart, and a key in the area keeps its entry. -/

namespace Sys2Proof.Machine
open Sys2Proof

section
variable {s t : State} {entries later : List (Option KeyEntry)}

/-! ### Looking up an entry (R128, R130) -/

theorem findKey_some {id first n : Nat} {e : KeyEntry} (h : findKey id first entries = some (n, e)) :
    first ≤ n ∧ entries[n - first]? = some (some e) ∧ e.id = id := by
  induction entries generalizing first with
  | nil => cases h
  | cons x rest ih =>
    have further : findKey id (first + 1) rest = some (n, e) → first ≤ n ∧ (x :: rest)[n - first]? = some (some e) ∧ e.id = id := by
      intro h
      obtain ⟨later, found, same⟩ := ih h
      rw [show n - first = n - (first + 1) + 1 by omega]
      exact ⟨by omega, found, same⟩
    cases x with
    | none => exact further h
    | some d =>
      rw [findKey] at h
      split at h
      · rename_i same
        cases h
        exact ⟨Nat.le_refl _, by simp, same⟩
      · exact further h

theorem KeyTable.find_some {k : KeyTable} {id n : Nat} {e : KeyEntry} (h : k.find id = some (n, e)) :
    k.entries[n]? = some (some e) ∧ e.id = id := (findKey_some h).2

theorem findKey_none {id first : Nat} (h : findKey id first entries = none) {e : KeyEntry} (mem : some e ∈ entries) : e.id ≠ id := by
  induction entries generalizing first with
  | nil => cases mem
  | cons x rest ih =>
    cases x with
    | none => exact ih h (by simpa using mem)
    | some d =>
      rw [findKey] at h
      split at h
      · cases h
      · rename_i other
        obtain same | mem := List.mem_cons.mp mem
        · cases same
          exact other
        · exact ih h mem

theorem KeyTable.firstEmpty_some {k : KeyTable} {n : Nat} (h : k.firstEmpty = some n) : k.entries[n]? = some none := by
  obtain ⟨inside, empty, -⟩ := List.findIdx?_eq_some_iff_getElem.mp h
  rw [List.getElem?_eq_getElem inside]
  simpa using empty

/-- An entry read by its number is there and not EMPTY. -/
theorem getD_none_eq_some {n : Nat} {e : KeyEntry} : entries.getD n none = some e ↔ entries[n]? = some (some e) := by
  rw [List.getD_eq_getElem?_getD]
  cases entries[n]? <;> simp

/-! ### Ids apart, and keys of the area in their places -/

/-- The key ids that the entries hold (R130). -/
def keyIds (entries : List (Option KeyEntry)) : List Nat := entries.filterMap (fun e => e.map (·.id))

theorem State.keyIdsUnique_iff (s : State) : s.KeyIdsUnique ↔ (keyIds s.keys.entries).Nodup := Iff.rfl

/-- New content of one entry replaces its id among the ids, or leaves it out. -/
theorem keyIds_set {n : Nat} {x : Option KeyEntry} (h : entries[n]? = some x) :
    ∃ front back, keyIds entries = front ++ (x.map (·.id)).toList ++ back ∧
      ∀ y : Option KeyEntry, keyIds (entries.set n y) = front ++ (y.map (·.id)).toList ++ back := by
  obtain ⟨inside, rfl⟩ := List.getElem?_eq_some_iff.mp h
  have split : ∀ (front back : List (Option KeyEntry)) y,
      keyIds (front ++ y :: back) = keyIds front ++ (y.map (·.id)).toList ++ keyIds back :=
    fun front back y => by cases y <;> simp [keyIds]
  refine ⟨keyIds (entries.take n), keyIds (entries.drop (n + 1)), ?_, fun y => ?_⟩
  · rw [← split, List.getElem_cons_drop, List.take_append_drop]
  · rw [← split, List.set_eq_take_append_cons_drop, if_pos inside]

/-- From one content of the table to a later one the ids stay apart, and a key of the area stays in it, under its id, at its entry (R129,
R130, R141). -/
structure KeepsEntries (entries later : List (Option KeyEntry)) : Prop where
  unique : (keyIds entries).Nodup → (keyIds later).Nodup
  stays : ∀ (n : Nat) (e : KeyEntry), entries[n]? = some (some e) → e.inArea = true →
    ∃ e', later[n]? = some (some e') ∧ e'.inArea = true ∧ e'.id = e.id

theorem KeepsEntries.refl (entries : List (Option KeyEntry)) : KeepsEntries entries entries :=
  ⟨id, fun _ e at_n area => ⟨e, at_n, area, rfl⟩⟩

theorem KeepsEntries.of_eq (same : later = entries) : KeepsEntries entries later := same ▸ .refl entries

/-- One entry takes new content, which keeps a key of the area as one. -/
theorem KeepsEntries.set {n : Nat} {x y : Option KeyEntry} (at_n : entries[n]? = some x)
    (unique : (keyIds entries).Nodup → (keyIds (entries.set n y)).Nodup)
    (stays : ∀ e, x = some e → e.inArea = true → ∃ e', y = some e' ∧ e'.inArea = true ∧ e'.id = e.id) :
    KeepsEntries entries (entries.set n y) := by
  refine ⟨unique, fun k e at_k area => ?_⟩
  by_cases here : n = k
  · subst here
    obtain ⟨e', rfl, kept⟩ := stays e (Option.some.inj (at_n.symm.trans at_k)) area
    exact ⟨e', List.getElem?_set_self (List.getElem?_eq_some_iff.mp at_n).1, kept⟩
  · exact ⟨e, by rw [List.getElem?_set_ne here, at_k], area, rfl⟩

/-- A key changes in its entry, and does not leave the area. -/
theorem KeepsEntries.rewrite {n : Nat} {e e' : KeyEntry} (at_n : entries[n]? = some (some e)) (same : e'.id = e.id)
    (area : e.inArea = true → e'.inArea = true) : KeepsEntries entries (entries.set n (some e')) := by
  refine .set at_n (fun unique => ?_) (fun d isE inArea => ?_)
  · obtain ⟨front, back, before, after⟩ := keyIds_set at_n
    rwa [after, Option.map_some, same, ← Option.map_some (f := KeyEntry.id), ← before]
  · cases isE
    exact ⟨e', rfl, area inArea, same⟩

/-- A key that is not in the area leaves its entry EMPTY (R134). -/
theorem KeepsEntries.discard {n : Nat} {e : KeyEntry} (at_n : entries[n]? = some (some e)) (ram : e.inArea = false) :
    KeepsEntries entries (entries.set n none) := by
  refine .set at_n (fun unique => ?_) (fun d isE inArea => ?_)
  · obtain ⟨front, back, before, after⟩ := keyIds_set at_n
    rw [before] at unique
    rw [after]
    exact unique.sublist (by simp)
  · cases isE
    simp [ram] at inArea

/-- An EMPTY entry takes a key whose id no entry holds (R130). -/
theorem KeepsEntries.begin {n : Nat} {e : KeyEntry} (at_n : entries[n]? = some none) (new : ∀ d, some d ∈ entries → d.id ≠ e.id) :
    KeepsEntries entries (entries.set n (some e)) := by
  refine .set at_n (fun unique => ?_) (fun d isE => nomatch isE)
  obtain ⟨front, back, before, after⟩ := keyIds_set at_n
  have absent : e.id ∉ keyIds entries := fun mem => by
    obtain ⟨x, held, isId⟩ := List.mem_filterMap.mp mem
    obtain ⟨d, rfl, same⟩ := Option.map_eq_some_iff.mp isId
    exact new d held same
  rw [before] at unique absent
  rw [after, Option.map_some, Option.toList_some, List.append_assoc, List.singleton_append, List.nodup_middle]
  exact List.nodup_cons.mpr ⟨by simpa using absent, by simpa using unique⟩

/-- Every key changes, but for its id and its state (R136, R138). -/
theorem KeepsEntries.map {f : KeyEntry → KeyEntry} (same : ∀ e, (f e).id = e.id) (state : ∀ e, (f e).state = e.state) :
    KeepsEntries entries (entries.map (Option.map f)) := by
  refine ⟨fun unique => ?_, fun n e at_n area => ⟨f e, by simp [at_n], ?_, same e⟩⟩
  · have ids : keyIds (entries.map (Option.map f)) = keyIds entries := by
      simp [keyIds, List.filterMap_map, Function.comp_def, same]
    rwa [ids]
  · rwa [KeyEntry.inArea, state]

theorem KeyTable.fixSet_keeps (k : KeyTable) : KeepsEntries k.entries k.fixSet :=
  .map (fun e => by split <;> rfl) (fun e => by split <;> rfl)

theorem KeyTable.unpended_keeps (k : KeyTable) : KeepsEntries k.entries k.unpended := .map (fun _ => rfl) (fun _ => rfl)

/-! ### The operations of the key table -/

/-- The next key's first write, or the end of the operation, changes no entry (R137). -/
@[simp] theorem State.nextFixKey_entries (s : State) (tag : Byte) (count : Nat) :
    (s.nextFixKey tag count).keys.entries = s.keys.entries := by
  unfold State.nextFixKey
  (repeat' split) <;> simp [State.beginFixStep]

/-- A failed write takes every entry out of the fix set, and changes no other field of one (R138). -/
theorem KeyTable.fixFailed_entries (k : KeyTable) (step : FixStep) (start : Nat) (area : List Host.Cell) :
    (k.fixFailed step start area).entries = k.unpended := by
  unfold KeyTable.fixFailed
  dsimp only
  (repeat' split) <;> rfl

/-- The completion check judges the state alone (R132). -/
theorem KeyEntry.completed_id (e : KeyEntry) : e.completed.id = e.id := by
  unfold KeyEntry.completed
  split <;> rfl

theorem State.takeKeyBegin_keepsEntries (s : State) (tag : Byte) (id : Half) (cls : Byte) (length : Half) (check : Quad)
    (regions : List Half) : KeepsEntries s.keys.entries (s.takeKeyBegin tag id cls length check regions).keys.entries := by
  unfold State.takeKeyBegin
  split
  · exact .of_eq (by simp)
  split
  · exact .of_eq (by simp)
  split
  · exact .of_eq (by simp)
  split
  · exact .of_eq (by simp)
  rename_i absent
  split
  · exact .of_eq (by simp)
  · rename_i n empty
    simpa using! KeepsEntries.begin (KeyTable.firstEmpty_some empty) (fun d => findKey_none absent)

theorem State.takeKeyChunk_keepsEntries (s : State) (tag : Byte) (id offset : Half) (body : List Byte) :
    KeepsEntries s.keys.entries (s.takeKeyChunk tag id offset body).keys.entries := by
  unfold State.takeKeyChunk
  split
  · exact .of_eq (by simp)
  split
  · exact .of_eq (by simp)
  rename_i n e found
  split
  · exact .of_eq (by simp)
  rename_i ram
  split
  · exact .of_eq (by simp)
  split
  · exact .of_eq (by simp)
  · simpa using! KeepsEntries.rewrite (KeyTable.find_some found).1 (e.appended body).completed_id (fun area => absurd area ram)

theorem State.takeKeyDiscard_keepsEntries (s : State) (tag : Byte) (id : Half) :
    KeepsEntries s.keys.entries (s.takeKeyDiscard tag id).keys.entries := by
  unfold State.takeKeyDiscard
  split
  · exact .of_eq (by simp)
  split
  · exact .of_eq (by simp)
  rename_i n e found
  split
  · exact .of_eq (by simp)
  rename_i ram
  split
  · exact .of_eq (by simp)
  · simpa using! KeepsEntries.discard (KeyTable.find_some found).1 (by simpa using ram)

theorem State.takeKeyFix_keepsEntries (s : State) (tag : Byte) : KeepsEntries s.keys.entries (s.takeKeyFix tag).keys.entries := by
  unfold State.takeKeyFix
  split
  · exact .of_eq (by simp)
  split
  · exact .of_eq (by simp)
  split
  · exact .of_eq (by simp)
  split
  · exact .of_eq (by simp)
  · simpa using s.keys.fixSet_keeps

/-- KEY_WITHDRAW changes no entry before its write's completion (R139). -/
theorem State.takeKeyWithdraw_entries (s : State) (tag : Byte) (id : Half) : (s.takeKeyWithdraw tag id).keys.entries = s.keys.entries := by
  unfold State.takeKeyWithdraw State.beginWrite
  (repeat' split) <;> simp

/-- The requests that the key table owns and that can change it: KEY_BEGIN to KEY_WITHDRAW, by their kinds (R187). -/
def movesKeys (r : Request) : Bool := decide (r.kind ∈ [0x50, 0x51, 0x52, 0x53, 0x54])

/-- Every other request leaves the key table as it is. -/
theorem State.takeRequest_keepsKeys (s : State) (p : Port) (tag : Byte) {r : Request} (still : movesKeys r = false) :
    (s.takeRequest p tag r).keys = s.keys := by
  cases r <;> simp [movesKeys, Request.kind] at still <;>
    simp only [State.takeRequest, State.takeStatus, State.takeReadRegion, State.takeKeyFetch, State.takeOpen, State.takeClose,
      State.beginCommit, State.takeReopen, State.takePartReset, State.takeSetTuning, State.takeSetLevels, State.takeSetAims,
      State.takeSetPin, State.takeGridRestart, State.takeReadNodes, State.takeReadZones, State.takeMeasure, State.takeArm,
      State.takeDisarm, State.takeStart, State.takeStop, State.takeHalt, State.takeAdvance, State.takePatchAppend,
      State.takePatchClear, State.takeLoadProfile, State.takeSetRegion, State.takeKeyList, State.takeSetCheck, State.takeEvaluate] <;>
    (repeat' split) <;> simp

theorem State.takeRequest_keepsEntries (s : State) (p : Port) (tag : Byte) (r : Request) :
    KeepsEntries s.keys.entries (s.takeRequest p tag r).keys.entries := by
  by_cases still : movesKeys r = false
  · exact .of_eq (by rw [s.takeRequest_keepsKeys p tag still])
  cases r <;> simp [movesKeys, Request.kind] at still
  case keyBegin => exact s.takeKeyBegin_keepsEntries ..
  case keyChunk => exact s.takeKeyChunk_keepsEntries ..
  case keyDiscard => exact s.takeKeyDiscard_keepsEntries ..
  case keyFix => exact s.takeKeyFix_keepsEntries tag
  case keyWithdraw => exact .of_eq (s.takeKeyWithdraw_entries ..)

/-! ### Completions of the key table's writes (R137 to R139) -/

/-- The mark's write brings its key into the area; the three before it change no entry (R137). -/
theorem State.fixVerified_keepsEntries (tag : Byte) {n : Nat} {e : KeyEntry} (at_n : s.keys.entries[n]? = some (some e)) (count : Nat)
    (step : FixStep) (start : Nat) : KeepsEntries s.keys.entries (s.fixVerified tag count n e step start).keys.entries := by
  cases step with
  | spaceWord => exact .refl _
  | header => exact .refl _
  | body => exact .refl _
  | mark =>
    have fixed : KeepsEntries s.keys.entries (s.keys.entries.set n (some (e.asFixed start))) := .rewrite at_n rfl (fun _ => rfl)
    simpa [State.fixVerified] using! fixed

theorem State.takeFixWrite_keepsEntries (s : State) (outcome : WriteOutcome) :
    KeepsEntries s.keys.entries (s.takeFixWrite outcome).keys.entries := by
  unfold State.takeFixWrite
  split
  · split
    · rename_i e at_n
      dsimp only
      split
      · exact State.fixVerified_keepsEntries (s := s.setNv (s.nv.endWrite outcome)) _ (getD_none_eq_some.mp at_n) ..
      · simpa [State.failFix, KeyTable.fixFailed_entries] using s.keys.unpended_keeps
    · exact .refl _
  · exact .refl _

/-- What a withdraw write leaves of the mark makes the key WITHDRAWN, or changes nothing: either way it stays in the area (R139). -/
theorem State.takeWithdrawWrite_keepsEntries (s : State) (outcome : WriteOutcome) :
    KeepsEntries s.keys.entries (s.takeWithdrawWrite outcome).keys.entries := by
  unfold State.takeWithdrawWrite
  split
  · split
    · rename_i n _ _ _ _ e at_n
      have judged : ∀ blankMark : Prop, [Decidable blankMark] →
          KeepsEntries s.keys.entries (s.keys.entries.set n (some (if blankMark then e else { e with state := .withdrawn }))) := by
        intro blankMark _
        refine .rewrite (getD_none_eq_some.mp at_n) (by split <;> rfl) (fun area => ?_)
        split
        · exact area
        · rfl
      simpa using! judged _
    · exact .refl _
  · exact .refl _

/-! ### Every command -/

/-- A count touches grid memory and the trim output, not the key table. -/
theorem State.takeCount_keys (s : State) (r : RowInProcess) : (s.takeCount r).1.keys = s.keys := by
  unfold State.takeCount State.takeWhiteCount State.takeColourCount
  dsimp only
  split <;> simp

theorem State.stepRow_keys (s : State) : s.stepRow.keys = s.keys := by
  unfold State.stepRow
  split
  · rfl
  · dsimp only
    split <;> simp [State.takeCount_keys]

theorem State.Event.keepsEntries {c : Instr} (event : s.Event c t) : KeepsEntries s.keys.entries t.keys.entries := by
  cases event with
  | frameStart => exact .of_eq (by simp)
  | gapExpiry => exact .of_eq (by simp)
  | tick => exact .of_eq (by simp)
  | trimSent => exact .of_eq (by simp)
  | progress => exact .of_eq (by simp)
  | marker => exact .of_eq (by simp)
  | count => exact .of_eq (by rw [s.stepRow_keys])
  | openWrite => exact .of_eq (by simp)
  | commitWrite => exact .of_eq (by simp)
  | reopenWrite => exact .of_eq (by simp)
  | fixWrite outcome => exact s.takeFixWrite_keepsEntries outcome
  | withdrawWrite outcome => exact s.takeWithdrawWrite_keepsEntries outcome

/-- Every command keeps the entries' laws, but start-up loading, and a reset, which leaves every entry EMPTY (R129, R130). -/
theorem exec_entries {c : Instr} (run : exec c s = .next t) (running : c ≠ .startupLoading) :
    KeepsEntries s.keys.entries t.keys.entries ∨ (resets c s ∧ t.keys = .fresh) := by
  cases exec_cases run with
  | nothing => exact .inl (.refl _)
  | reset source cut command => exact .inr ⟨.inl ⟨source, cut, command⟩, rfl⟩
  | startup cause held command => exact absurd command running
  | requestedReset p live due command => exact .inr ⟨.inr (.inr ⟨p, command, due⟩), by simp; rfl⟩
  | ports u live only => exact .inl (.of_eq (by simp [only.blocks.keys]))
  | request u p tag r live taken =>
    left
    have kept := u.takeRequest_keepsEntries p tag r
    rw [taken.same.blocks.keys] at kept
    simpa using kept
  | event u live event => exact .inl (by simpa using event.keepsEntries)

end

end Sys2Proof.Machine

/-! CERTIFICATE. The entries of the key table (O52). -/

namespace Sys2Proof
open Sys2Proof.Machine

/-- Settles O52: no command but a reset or start-up takes a key out of the area, and KEY_BEGIN alone brings an id in, which no entry holds. -/
theorem keyEntriesKeepTheirLaws : Obligations.KeyEntriesKeepTheirLaws := by
  refine ⟨fun c s t run running unique => ?_, fun c s t run lives => ?_⟩
  · obtain kept | ⟨-, fresh⟩ := exec_entries run running
    · exact kept.unique unique
    · rw [State.keyIdsUnique_iff, fresh]
      exact List.nodup_nil
  · obtain kept | ⟨reset, -⟩ := exec_entries run (fun command => lives (.inr (.inl command)))
    · exact kept.stays
    · exact absurd reset lives

end Sys2Proof

/-! SUPPORT. The law of R161 through every command: CURRENT and the keys stand still from the commit on, until the unit is opened again. -/

namespace Sys2Proof.Machine
open Sys2Proof

section
variable {s t : State}

/-! ### The law in OPEN and outside it -/

/-- In OPEN the law asks nothing. -/
theorem State.ClosureLegal.of_opened (opened : s.unit.phase = .opened) : s.ClosureLegal := ⟨by simp [opened], by simp [opened]⟩

/-- The law reads the phase, CURRENT and the key table. -/
theorem State.ClosureLegal.congr (h : s.ClosureLegal) (phase : t.unit.phase = s.unit.phase) (current : t.region.current = s.region.current)
    (keys : t.keys = s.keys) : t.ClosureLegal := by
  refine ⟨?_, ?_⟩ <;> rw [phase, current]
  · exact h.unset
  · rw [keys]
    exact h.closed

/-- What leaves the phase alone, and outside OPEN CURRENT and the key table too, keeps the law. -/
theorem State.ClosureLegal.still (h : s.ClosureLegal) (phase : t.unit.phase = s.unit.phase)
    (kept : s.unit.phase ≠ .opened → t.region.current = s.region.current ∧ t.keys = s.keys) : t.ClosureLegal := by
  by_cases opened : s.unit.phase = .opened
  · exact .of_opened (phase.trans opened)
  · obtain ⟨current, keys⟩ := kept opened
    exact h.congr phase current keys

theorem State.ClosureLegal.arbitrate (h : s.ClosureLegal) : s.arbitrate.ClosureLegal := h.congr (by simp) (by simp) (by simp)

/-- After a reset the unit is BLANK, with CURRENT unset (R109, R162). -/
theorem State.volatileReset_closureLegal (cause : ResetCause) (nv : NvStore) (pending : List Instr) (choices : Nat) :
    (State.volatileReset cause nv pending choices).ClosureLegal := ⟨fun _ => rfl, nofun⟩

/-- The required classes are the profile's, wherever the profile was found (R143). -/
theorem KeyTable.satisfies_place (k : KeyTable) (current : Option CurrentRegion) (place : ProfilePlace) :
    k.satisfies (current.map (fun c => { c with place := place })) = k.satisfies current := by
  cases current <;> rfl

/-! ### Requests (R130 to R139, R165, R167) -/

/-- Outside OPEN the key table takes no request but to refuse it (R130, R131, R134, R136, R139). -/
theorem State.takeRequest_keys_unopened (unopened : s.unit.phase ≠ .opened) (p : Port) (tag : Byte) (r : Request) :
    (s.takeRequest p tag r).keys = s.keys := by
  by_cases still : movesKeys r = false
  · exact s.takeRequest_keepsKeys p tag still
  cases r <;> simp [movesKeys, Request.kind] at still <;>
    simp [State.takeRequest, State.takeKeyBegin, State.takeKeyChunk, State.takeKeyDiscard, State.takeKeyFix, State.takeKeyWithdraw, unopened]

/-- CLOSE begins the commit of a unit whose CURRENT is set and whose required classes hold FIXED keys (R167). -/
theorem State.closeRefusal_none (granted : s.closeRefusal = none) : s.keys.satisfies s.region.current = true := by
  unfold State.closeRefusal at granted
  (repeat' split at granted) <;> simp_all

theorem State.ClosureLegal.takeClose (h : s.ClosureLegal) (tag : Byte) : (s.takeClose tag).ClosureLegal := by
  unfold State.takeClose
  split
  · exact h.congr (by simp) (by simp) (by simp)
  · rename_i granted
    refine ⟨fun phase => by simp [State.beginCommit, State.commitAt] at phase, fun _ => ?_⟩
    simpa [State.beginCommit] using State.closeRefusal_none granted

theorem State.ClosureLegal.takeOpen (h : s.ClosureLegal) (tag : Byte) (given : Half) (serial : List Byte) :
    (s.takeOpen tag given serial).ClosureLegal := by
  have refused : ∀ status, (s.refuse .station 0x10 tag status).ClosureLegal := fun _ => h.congr (by simp) (by simp) (by simp)
  unfold State.takeOpen
  split
  · exact refused _
  split
  · exact refused _
  split
  · exact refused _
  split
  · exact h.congr (by simp) (by simp) (by simp)
  split
  · exact refused _
  · exact .of_opened (by simp [State.enterOpen])

theorem State.ClosureLegal.takeRequest (h : s.ClosureLegal) (p : Port) (tag : Byte) (r : Request) :
    (s.takeRequest p tag r).ClosureLegal := by
  by_cases apart : reachesRegion r = false
  · obtain ⟨region, phase⟩ := s.takeRequest_region p tag apart
    exact h.still phase fun unopened => ⟨by rw [region], State.takeRequest_keys_unopened unopened p tag r⟩
  cases r <;> simp only [reachesRegion, not_true_eq_false] at apart
  case openUnit => exact h.takeOpen ..
  case close => exact h.takeClose tag
  case loadProfile slot profile =>
    refine h.still ?_ fun unopened => ?_ <;> simp only [State.takeRequest, State.takeLoadProfile]
    · (repeat' split) <;> simp
    · simp [unopened]
  case setRegion code =>
    refine h.still ?_ fun unopened => ?_ <;> simp only [State.takeRequest, State.takeSetRegion]
    · (repeat' split) <;> simp
    · simp [unopened]

/-! ### Writes (R165, R168 to R170, R173) -/

theorem State.ClosureLegal.takeOpenWrite (h : s.ClosureLegal) (outcome : WriteOutcome) : (s.takeOpenWrite outcome).ClosureLegal := by
  unfold State.takeOpenWrite
  split
  · dsimp only
    split
    · exact .of_opened (by simp [State.enterOpen])
    · exact h.congr (by simp) (by simp) (by simp)
  · exact h

theorem State.ClosureLegal.takeReopenWrite (h : s.ClosureLegal) (outcome : WriteOutcome) :
    (s.takeReopenWrite outcome).ClosureLegal := by
  unfold State.takeReopenWrite
  split
  · dsimp only
    split
    · exact .of_opened (by simp [State.completeReopen])
    · exact h.congr (by simp) (by simp) (by simp)
  · exact h

/-- The commit is carried in CLOSING, whose law is that of CLOSED; a failed write leads back to OPEN (R169, R170). -/
theorem State.ClosureLegal.takeCommitWrite (h : s.ClosureLegal) (ops : s.OpsAgree) (outcome : WriteOutcome) :
    (s.takeCommitWrite outcome).ClosureLegal := by
  unfold State.takeCommitWrite
  split
  · rename_i tag step w op _
    have satisfied := h.closed (.inl (ops.commit op).1)
    dsimp only
    split
    · split
      · rename_i identity
        refine ⟨?_, fun _ => ?_⟩
        · simp [State.completeCommit, State.replyClosed]
        · simpa [State.completeCommit, State.replyClosed, KeyTable.satisfies_place] using satisfied
      · exact h.congr (State.commitNext_phase ..) (by simp) (by simp)
    · exact .of_opened (by simp [State.failCommit])
  · exact h

/-- A write of the key table ends in OPEN alone (R136, R139). -/
theorem State.OpsAgree.opened_of_keys (ops : s.OpsAgree) {op : KeyOp} (progress : s.keys.op = some op) : s.unit.phase = .opened := by
  have suits := ops.phase
  rw [ops.of_keys progress] at suits
  cases op <;> exact suits

theorem State.takeFixWrite_idle (idle : s.keys.op = none) (outcome : WriteOutcome) : s.takeFixWrite outcome = s := by
  rw [State.takeFixWrite, idle]

theorem State.takeWithdrawWrite_idle (idle : s.keys.op = none) (outcome : WriteOutcome) : s.takeWithdrawWrite outcome = s := by
  rw [State.takeWithdrawWrite, idle]

/-! ### Markers -/

/-- Outside OPEN an accepted marker leaves CURRENT as it is (R113, R123). -/
theorem State.markerRegion_current_unopened (unopened : s.unit.phase ≠ .opened) (m : Marker) :
    (s.markerRegion m).region.current = s.region.current := by
  unfold State.markerRegion
  dsimp only
  split
  · simp [State.senseCode, State.settleRegion_region, unopened]
  · rfl

theorem State.takeMarkerRead_current_unopened (unopened : s.unit.phase ≠ .opened) (pixels : List Pixel) :
    (s.takeMarkerRead pixels).region.current = s.region.current := by
  obtain same | ⟨m, accepted⟩ | missed := s.takeMarkerRead_cases pixels
  · rw [same]
  · rw [accepted, State.markerAccepted, (State.markerIdentity_alike _ m).current,
      State.markerRegion_current_unopened (by simpa using unopened), State.markerPresence_region]
    rfl
  · rw [missed, (State.markerMissed_region _).alike.current]
    rfl

/-! ### Every command -/

theorem State.stepRow_region_unit (s : State) : s.stepRow.region = s.region ∧ s.stepRow.unit = s.unit := by
  unfold State.stepRow
  split
  · exact ⟨rfl, rfl⟩
  · dsimp only
    split <;> simp [State.takeCount_region, State.takeCount_frame]

theorem State.ClosureLegal.event (h : s.ClosureLegal) (ops : s.OpsAgree) {c : Instr} (event : s.Event c t) : t.ClosureLegal := by
  cases event with
  | frameStart lines pixels =>
    refine h.congr (by simp) ?_ (by simp)
    obtain ⟨u, e, -, region, -⟩ := s.takeFrameStart_cases (lines.toNat, pixels.toNat)
    rcases e with e | e <;> rw [e]
    · exact region.alike.current
    · simpa using region.alike.current
  | gapExpiry =>
    refine h.congr (by simp) ?_ (by simp)
    unfold State.takeGapExpiry
    dsimp only
    split
    · split
      · obtain ⟨present, missed, region⟩ := State.loseLock_region
          (s.setTiming { s.timing with gapRunning := false, matchCount := 0, reference := none })
        exact (Region.LikePresence.alike ⟨present, missed, false, region⟩).current
      · rfl
    · rfl
  | tick => exact h.congr (by simp) (by simp) (by simp)
  | trimSent => exact h.congr (by simp) (by simp) (by simp)
  | progress => exact h.congr (by simp) (by simp) (by simp)
  | marker line =>
    exact h.still (by simp) fun unopened => ⟨by simpa using State.takeMarkerRead_current_unopened unopened line.pixels, by simp⟩
  | count =>
    obtain ⟨region, unit⟩ := s.stepRow_region_unit
    exact h.congr (by rw [unit]) (by rw [region]) s.stepRow_keys
  | openWrite outcome => exact h.takeOpenWrite outcome
  | commitWrite outcome => exact h.takeCommitWrite ops outcome
  | reopenWrite outcome => exact h.takeReopenWrite outcome
  | fixWrite outcome =>
    cases progress : s.keys.op with
    | none =>
      rw [State.takeFixWrite_idle progress]
      exact h
    | some op => exact .of_opened ((s.takeFixWrite_phase outcome).trans (ops.opened_of_keys progress))
  | withdrawWrite outcome =>
    cases progress : s.keys.op with
    | none =>
      rw [State.takeWithdrawWrite_idle progress]
      exact h
    | some op => exact .of_opened ((s.takeWithdrawWrite_phase outcome).trans (ops.opened_of_keys progress))

theorem exec_keeps_closureLegal {c : Instr} (run : exec c s = .next t) (running : c ≠ .startupLoading) (ops : s.OpsAgree)
    (h : s.ClosureLegal) : t.ClosureLegal := by
  cases exec_cases run with
  | nothing => exact h
  | reset source cut command => exact State.volatileReset_closureLegal ..
  | startup cause held command => exact absurd command running
  | requestedReset p live due command => exact State.ClosureLegal.arbitrate (State.volatileReset_closureLegal ..)
  | ports u live only =>
    exact State.ClosureLegal.arbitrate (h.congr (by rw [only.blocks.unit]) (by rw [only.blocks.region]) only.blocks.keys)
  | request u p tag r live taken =>
    have blocks := taken.same.blocks
    have arrived : u.ClosureLegal := h.congr (by rw [blocks.unit]) (by rw [blocks.region]) blocks.keys
    exact (arrived.takeRequest p tag r).arbitrate
  | event u live event => exact (h.event ops event).arbitrate

end

end Sys2Proof.Machine

/-! CERTIFICATE. The law of R161 (O59). -/

namespace Sys2Proof
open Sys2Proof.Machine

/-- Settles O59: CLOSE checks the law as it leaves OPEN, and outside OPEN nothing changes CURRENT or the keys. -/
theorem closureLawIsKept : Obligations.ClosureLawIsKept := fun _ _ _ => exec_keeps_closureLegal

end Sys2Proof

/-! SUPPORT. The key table's requests and the completions of its writes, each where it is taken (R130 to R139, R144). -/

namespace Sys2Proof.Machine
open Sys2Proof

section
variable {s : State} {tag : Byte} {id offset length count : Half} {n : Nat} {e : KeyEntry}

/-! ### KEY_FETCH (R144) -/

/-- On the station port KEY_FETCH is refused DENIED, whatever the phase (R144, R179). -/
theorem exec_keyFetch_station (h : s.Admits .station tag) :
    exec (.keyFetch .station tag id offset count) s = .next (s.refuse .station 0x03 tag .denied).arbitrate := by
  refine (exec_request rfl s).trans ?_
  rw [State.request_running rfl h.running, State.arrive_screened h.room h.noReset]
  rfl

/-- On the system port it reaches the key table (R179). -/
theorem exec_keyFetch_system (h : s.Admits .system tag) :
    exec (.keyFetch .system tag id offset count) s = .next (s.takeKeyFetch tag id offset count).arbitrate :=
  State.request_taken (r := .keyFetch id offset count) rfl rfl h (fun _ => by simp [Request.kind, systemKinds]) nofun nofun

theorem State.takeKeyFetch_unclosed (unclosed : s.unit.phase ≠ .closed) :
    s.takeKeyFetch tag id offset count = s.refuse .system 0x03 tag .notCommissioned := if_pos unclosed

theorem State.takeKeyFetch_unfixed (closed : s.unit.phase = .closed)
    (unfixed : ∀ n e, s.keys.find id.toNat = some (n, e) → e.state ≠ .fixed) :
    s.takeKeyFetch tag id offset count = s.refuse .system 0x03 tag .noKey := by
  rw [State.takeKeyFetch, if_neg (not_not_intro closed)]
  split
  · rfl
  · rename_i n e found
    exact if_pos (unfixed n e found)

/-- For a FIXED key the release and then the range decide (R144). -/
theorem State.takeKeyFetch_fixed (closed : s.unit.phase = .closed) (found : s.keys.find id.toNat = some (n, e)) (fixed : e.state = .fixed) :
    s.takeKeyFetch tag id offset count =
      if e.released s.region.current = false then s.refuse .system 0x03 tag .denied
      else if count = 0 ∨ 512 < count.toNat ∨ e.length < offset.toNat + count.toNat then s.refuse .system 0x03 tag .badValue
      else
        s.reply .system 0x03 tag .ok
          (Half.bytes id ++ u8 e.cls.code ++ u16 e.length ++ Half.bytes offset ++ Half.bytes count ++
            e.stored s.nv.keyArea offset.toNat count.toNat) := by
  rw [State.takeKeyFetch, if_neg (not_not_intro closed), found]
  exact if_neg (not_not_intro fixed)

/-! ### KEY_BEGIN, KEY_CHUNK and KEY_DISCARD (R130 to R132, R134) -/

theorem exec_keyBegin {cls : Byte} {check : Quad} {regions : List Half} (h : s.AdmitsOpen tag) (valid : regionListValid regions = true) :
    exec (.keyBegin .station tag id cls length check regions) s =
      .next (s.takeKeyBegin tag id cls length check regions).arbitrate := by
  have few : regions.length ≤ 4 := by
    simp only [regionListValid, Bool.and_eq_true, decide_eq_true_eq] at valid
    exact valid.1.1
  refine State.request_open (r := .keyBegin id cls length check regions) ?_ rfl h (by simp [Request.kind])
  have fits : (Request.keyBegin id cls length check regions).payloadLength ≤ 1024 := by
    simp only [Request.payloadLength]
    omega
  have counted : regions.length ≤ 255 := by omega
  simp [Request.wellFormed, fits, counted]

theorem exec_keyChunk {body : List Byte} (h : s.AdmitsOpen tag) (least : 1 ≤ body.length) (most : body.length ≤ 512) :
    exec (.keyChunk .station tag id offset body) s = .next (s.takeKeyChunk tag id offset body).arbitrate := by
  refine State.request_open (r := .keyChunk id offset body) ?_ (by simp [Request.lengthSuits, least, most]) h (by simp [Request.kind])
  have fits : (Request.keyChunk id offset body).payloadLength ≤ 1024 := by
    simp only [Request.payloadLength]
    omega
  simp [Request.wellFormed, fits]

theorem exec_keyDiscard (h : s.AdmitsOpen tag) : exec (.keyDiscard .station tag id) s = .next (s.takeKeyDiscard tag id).arbitrate :=
  State.request_open (r := .keyDiscard id) rfl rfl h (by simp [Request.kind])

/-- A key that no entry holds begins to load in the lowest EMPTY entry (R130). -/
theorem State.takeKeyBegin_new {cls : Byte} {k : KeyClass} {check : Quad} {regions : List Half} (opened : s.unit.phase = .opened)
    (named : id ≠ 0) (known : KeyClass.ofNat? cls.toNat = some k) (low : 16 ≤ length.toNat) (high : length.toNat ≤ 1024)
    (valid : regionListValid regions = true) (new : s.keys.find id.toNat = none) (room : s.keys.firstEmpty = some n) :
    s.takeKeyBegin tag id cls length check regions =
      (s.setKeys (s.keys.put n (some (keyBegun id k length check regions)))).reply .station 0x50 tag .ok (u8 n ++ id.bytes) := by
  have inRange : ¬(id = 0 ∨ length.toNat < 16 ∨ 1024 < length.toNat ∨ regionListValid regions = false) := by
    rintro (zero | short | long | bad)
    · exact named zero
    · omega
    · omega
    · simp [valid] at bad
  rw [State.takeKeyBegin, if_neg (not_not_intro opened), known]
  dsimp only
  rw [if_neg inRange, new, room]

/-- A chunk that continues its key's body, and does not overrun it, is appended and judged (R131, R132). -/
theorem State.takeKeyChunk_next {body : List Byte} (opened : s.unit.phase = .opened) (found : s.keys.find id.toNat = some (n, e))
    (ram : e.inArea = false) (next : offset.toNat = e.received) (fits : offset.toNat + body.length ≤ e.length) :
    s.takeKeyChunk tag id offset body =
      ((s.setKeys (s.keys.put n (some (e.appended body).completed))).reportKeyState (e.appended body).completed).reply .station 0x51 tag .ok
        (id.bytes ++ u16 (e.appended body).completed.received ++ u8 (e.appended body).completed.state.code) := by
  rw [State.takeKeyChunk, if_neg (not_not_intro opened), found]
  dsimp only
  rw [if_neg (by simp [ram]), if_neg (not_not_intro next), if_neg (Nat.not_lt.mpr fits)]

theorem State.takeKeyDiscard_ram (opened : s.unit.phase = .opened) (found : s.keys.find id.toNat = some (n, e)) (ram : e.inArea = false)
    (free : e.fixPending = false) :
    s.takeKeyDiscard tag id =
      (s.setKeys (s.keys.put n none)).reply .station 0x52 tag .ok (id.bytes ++ u8 e.state.code) := by
  rw [State.takeKeyDiscard, if_neg (not_not_intro opened), found]
  dsimp only
  rw [if_neg (by simp [ram]), if_neg (by simp [free])]

/-- A body not yet whole is not judged; a whole one becomes STAGED or CHECK_FAILED by its CRC-32 (R132). -/
theorem KeyEntry.completed_short (short : e.received < e.length) : e.completed = e := if_pos short

theorem KeyEntry.completed_whole (whole : e.received = e.length) :
    e.completed = { e with state := if crc32 e.body = e.check then .staged else .checkFailed } := if_neg (by omega)

theorem State.reportKeyState_failed (failed : e.state = .checkFailed) :
    s.reportKeyState e = s.report 0x78 (u16 e.id ++ [3] ++ Quad.bytes e.check ++ Quad.bytes (crc32 e.body)) := by
  rw [State.reportKeyState, if_pos failed, failed]
  rfl

theorem State.reportKeyState_passed (passed : e.state ≠ .checkFailed) : s.reportKeyState e = s := if_neg passed

/-! ### KEY_FIX and KEY_WITHDRAW (R136, R139) -/

theorem exec_keyFix (h : s.AdmitsOpen tag) : exec (.keyFix .station tag) s = .next (s.takeKeyFix tag).arbitrate :=
  State.request_open (r := .keyFix) rfl rfl h (by simp [Request.kind])

theorem exec_keyWithdraw (h : s.AdmitsOpen tag) : exec (.keyWithdraw .station tag id) s = .next (s.takeKeyWithdraw tag id).arbitrate :=
  State.request_open (r := .keyWithdraw id) rfl rfl h (by simp [Request.kind])

/-- With no operation in flight, what is STAGED and what space is free decide (R136). -/
theorem State.takeKeyFix_free (opened : s.unit.phase = .opened) (free : s.unit.op = none) :
    s.takeKeyFix tag =
      if s.keys.countState .staged = 0 then
        s.reply .station 0x53 tag .ok (u8 0 ++ u16 s.keys.fill ++ u16 s.keys.free)
      else if s.keys.free < spaceNeeded s.keys.entries then
        s.reply .station 0x53 tag .noSpace (u16 (spaceNeeded s.keys.entries) ++ u16 s.keys.free)
      else
        ((s.setKeys { s.keys with entries := s.keys.fixSet }).setUnit { s.unit with op := some .keyFix }).nextFixKey tag 0 := by
  rw [State.takeKeyFix, if_neg (not_not_intro opened), if_neg (by simp [free])]

/-- The next key of the fix set begins with its space word at the fill point (R137). -/
theorem State.nextFixKey_next {done : Nat} (next : nextPending s.keys.entries = some n) (at_n : s.keys.entries.getD n none = some e) :
    s.nextFixKey tag done = s.beginFixStep tag done n e .spaceWord s.keys.fill := by
  rw [State.nextFixKey, next]
  dsimp only
  rw [at_n]

/-- After the last key the operation ends OK (R137). -/
theorem State.nextFixKey_last {done : Nat} (last : nextPending s.keys.entries = none) :
    s.nextFixKey tag done =
      ((s.setKeys { s.keys with op := none }).setUnit { s.unit with op := none }).reply .station 0x53 tag .ok
        (u8 done ++ u16 s.keys.fill ++ u16 s.keys.free) := by
  rw [State.nextFixKey, last]

/-- A FIXED key's withdraw mark begins to be written in its space (R139, R190). -/
theorem State.takeKeyWithdraw_fixed (opened : s.unit.phase = .opened) (found : s.keys.find id.toNat = some (n, e)) (fixed : e.state = .fixed)
    (free : s.unit.op = none) :
    s.takeKeyWithdraw tag id =
      ((s.setKeys { s.keys with op := some (.withdraw tag n) }).setUnit { s.unit with op := some .keyWithdraw }).beginWrite
        (.keyArea (e.offset.getD 0 + 23)) [withdrawMark] := by
  rw [State.takeKeyWithdraw, if_neg (not_not_intro opened), found]
  dsimp only
  rw [if_neg (by simp [KeyEntry.inRam, KeyEntry.inArea, fixed]), if_neg (by simp [fixed]), if_neg (by simp [free])]

theorem exec_keyWithdrawWriteComplete (running : s.power = .running) (outcome : WriteOutcome) :
    exec (.keyWithdrawWriteComplete outcome) s = .next (s.takeWithdrawWrite outcome).arbitrate :=
  congrArg Host.Outcome.next (State.event_running running _)

/-- Content that an entry has already. -/
theorem set_of_getElem? {entries : List (Option KeyEntry)} {x : Option KeyEntry} (at_n : entries[n]? = some x) :
    entries.set n x = entries := by
  obtain ⟨inside, rfl⟩ := List.getElem?_eq_some_iff.mp at_n
  exact List.set_getElem_self inside

/-- The one byte of a withdraw mark's write, read back. -/
theorem NvStore.readBack_byte (nv : NvStore) (x : Nat) (b : Byte) :
    nv.readBack { place := .keyArea x, data := [b] } = [Cells.read nv.keyArea x] := rfl

/-- The entry that a withdraw write leaves by what its mark's byte reads (R139). -/
def KeyEntry.withdrawnBy (e : KeyEntry) (mark : Byte) : KeyEntry := if mark = blank then e else { e with state := .withdrawn }

/-- The state code of a key that was FIXED (R185). -/
theorem KeyEntry.withdrawnBy_code (fixed : e.state = .fixed) (mark : Byte) :
    u8 (e.withdrawnBy mark).state.code = [if mark = blank then 4 else 5] := by
  unfold KeyEntry.withdrawnBy
  split
  · rw [fixed]
    rfl
  · rfl

/-- The end of a withdraw write: what the mark's byte reads decides the key's state and the deferred reply (R139). -/
theorem State.takeWithdrawWrite_ends {x : Nat} (progress : s.keys.op = some (.withdraw tag n))
    (at_n : s.keys.entries[n]? = some (some e)) (write : s.nv.write = some { place := .keyArea (x + 23), data := [0x00] })
    (outcome : WriteOutcome) {mark : Byte} (read : Cells.read (s.nv.endWrite outcome).keyArea (x + 23) = mark) :
    s.takeWithdrawWrite outcome =
      (((s.setNv (s.nv.endWrite outcome)).setKeys
          { s.keys with entries := s.keys.entries.set n (some (e.withdrawnBy mark)), op := none }).setUnit
        { s.unit with op := none }).reply .station 0x54 tag (if mark = 0x00 then .ok else .nvFault)
          (u16 e.id ++ u8 (e.withdrawnBy mark).state.code) := by
  rw [State.takeWithdrawWrite, progress, write]
  dsimp only
  rw [getD_none_eq_some.mpr at_n]
  simp only [State.setNv_nv, NvStore.readBack_byte, read, List.cons.injEq, and_true]
  rfl

end

end Sys2Proof.Machine

/-! CERTIFICATE. KEY_FETCH (O14), loading a key (O38), KEY_FIX (O39) and KEY_WITHDRAW (O41). -/

namespace Sys2Proof
open Sys2Proof.Machine

/-- Settles O14: the checks of R144 in their order, each with those before it passed. -/
theorem keyFetchIsServedUnderItsChecks : Obligations.KeyFetchIsServedUnderItsChecks := by
  refine ⟨fun s tag id offset count h => exec_keyFetch_station h, fun s tag id offset count h => ?_⟩
  rw [exec_keyFetch_system h]
  refine ⟨fun unclosed => ?_, fun closed unfixed => ?_, fun n e closed found fixed => ?_⟩
  · rw [State.takeKeyFetch_unclosed unclosed]
    rfl
  · rw [State.takeKeyFetch_unfixed closed unfixed]
    rfl
  · rw [State.takeKeyFetch_fixed closed found fixed]
    refine ⟨fun kept => ?_, fun released outside => ?_, fun released least most inside => ?_⟩
    · rw [if_pos kept]
      rfl
    · have outside' : count = 0 ∨ 512 < count.toNat ∨ e.length < offset.toNat + count.toNat :=
        outside.imp_left fun zero => BitVec.eq_of_toNat_eq zero
      rw [if_neg (by simp [released]), if_pos outside']
      rfl
    · have inside' : ¬(count = 0 ∨ 512 < count.toNat ∨ e.length < offset.toNat + count.toNat) := by
        rintro (rfl | many | past)
        · exact absurd least (by decide)
        · omega
        · omega
      rw [if_neg (by simp [released]), if_neg inside']
      rfl

/-- Settles O38: each request past its checks, and the completion check at a body's last chunk. -/
theorem keysAreLoadedAndChecked : Obligations.KeysAreLoadedAndChecked := by
  refine ⟨fun s tag id length offset cls k check regions body h least most => ⟨?_, ?_, ?_⟩,
    fun s tag id offset body n e h least most found ram next whole => ?_⟩
  · intro n named known low high valid new room
    rw [exec_keyBegin h valid, State.takeKeyBegin_new h.opened named known low high valid new room]
    rfl
  · intro n e found ram next short
    have partly : (e.appended body).completed = e.appended body := KeyEntry.completed_short (by simp only [KeyEntry.appended]; omega)
    rw [exec_keyChunk h least most, State.takeKeyChunk_next h.opened found ram next (Nat.le_of_lt short), partly]
    rfl
  · intro n e found ram free
    rw [exec_keyDiscard h, State.takeKeyDiscard_ram h.opened found ram free]
    rfl
  · have received : e.received + body.length = e.length := by omega
    have judged := KeyEntry.completed_whole (e := e.appended body) received
    rw [exec_keyChunk h least most, State.takeKeyChunk_next h.opened found ram next (Nat.le_of_eq whole), judged]
    simp only [KeyEntry.appended, received]
    refine ⟨fun matching => ?_, fun failing => ?_⟩
    · simp only [if_pos matching]
      rw [State.reportKeyState_passed (by simp)]
      rfl
    · simp only [if_neg failing]
      rw [State.reportKeyState_failed rfl]
      rfl

/-- Settles O39, by the three branches of KEY_FIX. -/
theorem keyFixBeginsAtTheFillPoint : Obligations.KeyFixBeginsAtTheFillPoint := by
  intro s tag h free
  rw [exec_keyFix h, State.takeKeyFix_free h.opened free]
  refine ⟨fun nothing => by rw [if_pos nothing], fun staged short => by rw [if_neg staged, if_pos short],
    fun n e staged room next at_n => ?_⟩
  rw [if_neg staged, if_neg (Nat.not_lt.mpr room), State.nextFixKey_next next at_n]
  rfl

/-- Settles O41: the request begins the mark's write, and the byte that the write leaves decides. -/
theorem withdrawFollowsItsMark : Obligations.WithdrawFollowsItsMark := by
  intro s tag id n x e outcome place
  refine ⟨fun h found fixed free => ?_, fun running progress at_n fixed write => ?_⟩
  · rw [exec_keyWithdraw h, State.takeKeyWithdraw_fixed h.opened found fixed free, place]
    rfl
  · obtain ⟨mark, read⟩ : ∃ mark, Cells.read (s.nv.endWrite outcome).keyArea (x + 23) = mark := ⟨_, rfl⟩
    refine ⟨_, exec_keyWithdrawWriteComplete running outcome, ?_⟩
    rw [State.takeWithdrawWrite_ends progress at_n write outcome read]
    simp only [State.arbitrate_frame, State.reply_frame, State.setUnit_unit, State.setUnit_keys, State.setUnit_nv, State.setKeys_keys,
      State.setKeys_nv, State.setNv_nv, read, true_and]
    refine ⟨by constructor <;> simp, fun written => ?_, fun unwritten => ?_, State.arbitrate_station_congr ?_⟩
    · have marked : e.withdrawnBy mark = { e with state := .withdrawn } := if_neg written
      rw [marked]
    · have same : e.withdrawnBy mark = e := if_pos unwritten
      rw [same]
      exact set_of_getElem? at_n
    · rw [KeyEntry.withdrawnBy_code fixed]
      rfl

end Sys2Proof

/-! SUPPORT. A key's space in the area, byte by byte: what its four writes leave there, and what start-up reads back (R133, R135, R137, R141,
R190). -/

namespace Sys2Proof.Machine
open Sys2Proof

section
variable {area : List Host.Cell} {x y start : Nat} {e : KeyEntry}

/-! ### Runs of bytes -/

/-- A byte written where the area reads blank reads as written, a blank one too (R133). -/
theorem Cells.read_write_blank (b : Byte) (inside : x < areaSize) (unwritten : Cells.read area x = blank) :
    Cells.read (Cells.write area x b) x = b := by
  by_cases isBlank : b = blank
  · rw [Cells.write, if_pos (.inl isBlank), unwritten, isBlank]
  · exact Cells.read_write_self area inside isBlank

theorem Cells.readAll_congr {area' : List Host.Cell} {n : Nat} (same : ∀ i < n, Cells.read area' (x + i) = Cells.read area (x + i)) :
    Cells.readAll area' x n = Cells.readAll area x n := by
  induction n generalizing x with
  | zero => rfl
  | succ n ih =>
    have rest : Cells.readAll area' (x + 1) n = Cells.readAll area (x + 1) n := ih fun i less => by
      have := same (i + 1) (by omega)
      rwa [show x + (i + 1) = x + 1 + i by omega] at this
    rw [Cells.readAll, Cells.readAll, rest, show Cells.read area' x = Cells.read area x from same 0 (by omega)]

/-- Bytes written into a blank run of the area are read back (R133). -/
theorem Cells.readAll_writeAll_blank {bytes : List Byte} (inside : x + bytes.length ≤ areaSize)
    (unwritten : ∀ i < bytes.length, Cells.read area (x + i) = blank) :
    Cells.readAll (Cells.writeAll area x bytes) x bytes.length = bytes := by
  induction bytes generalizing area x with
  | nil => rfl
  | cons b rest ih =>
    simp only [List.length_cons] at inside unwritten
    have first : Cells.read (Cells.writeAll (Cells.write area x b) (x + 1) rest) x = b := by
      rw [Cells.read_writeAll_outside _ _ (.inl (by omega)), Cells.read_write_blank b (by omega) (by simpa using unwritten 0 (by omega))]
    have others : Cells.readAll (Cells.writeAll (Cells.write area x b) (x + 1) rest) (x + 1) rest.length = rest := by
      refine ih (by omega) fun i less => ?_
      rw [Cells.read_write_ne _ _ (by omega), Nat.add_assoc, Nat.add_comm 1 i]
      exact unwritten (i + 1) (by omega)
    rw [Cells.writeAll, List.length_cons, Cells.readAll, first, others]

/-- A run of writes leaves what lies apart from it. -/
theorem Cells.readAll_writeAll_apart {bytes : List Byte} {n : Nat} (apart : y + n ≤ x ∨ x + bytes.length ≤ y) :
    Cells.readAll (Cells.writeAll area x bytes) y n = Cells.readAll area y n :=
  Cells.readAll_congr fun i less => Cells.read_writeAll_outside bytes area (by omega)

/-- A run of bytes is read part after part. -/
theorem Cells.readAll_append {first last : List Byte} (read : Cells.readAll area x (first ++ last).length = first ++ last) :
    Cells.readAll area x first.length = first ∧ Cells.readAll area (x + first.length) last.length = last := by
  induction first generalizing x with
  | nil => exact ⟨rfl, read⟩
  | cons b rest ih =>
    simp only [List.cons_append, List.length_cons, Cells.readAll, List.cons.injEq] at read
    obtain ⟨here, further⟩ := read
    obtain ⟨front, back⟩ := ih further
    refine ⟨by rw [List.length_cons, Cells.readAll, here, front], ?_⟩
    rwa [List.length_cons, Nat.add_comm rest.length 1, ← Nat.add_assoc]

/-! ### Fields of a header (R190) -/

/-- The 2-byte field at an offset of the area. -/
def halfAt (area : List Host.Cell) (x : Nat) : Nat := (half (Cells.read area x) (Cells.read area (x + 1))).toNat

theorem halfAt_of_u16 {n : Nat} (fits : n < 65536) (read : Cells.readAll area x 2 = u16 n) : halfAt area x = n := by
  simp only [Cells.readAll, u16, Half.bytes, List.cons.injEq, and_true] at read
  rw [halfAt, read.1, read.2, half_extract, BitVec.toNat_ofNat]
  exact Nat.mod_eq_of_lt fits

theorem byteAt_of_u8 {n : Nat} (fits : n < 256) (read : Cells.readAll area x 1 = u8 n) : (Cells.read area x).toNat = n := by
  simp only [Cells.readAll, u8, List.cons.injEq, and_true] at read
  rw [read, BitVec.toNat_ofNat]
  exact Nat.mod_eq_of_lt fits

theorem halfAt_of_codes {codes : List Nat} (fit : ∀ c ∈ codes, c < 65536)
    (read : Cells.readAll area x (codes.flatMap u16).length = codes.flatMap u16) :
    (List.range codes.length).map (fun i => halfAt area (x + 2 * i)) = codes := by
  induction codes generalizing x with
  | nil => rfl
  | cons c rest ih =>
    rw [List.flatMap_cons] at read
    obtain ⟨first, others⟩ := Cells.readAll_append read
    have shifted : ∀ i, halfAt area (x + 2 * (i + 1)) = halfAt area (x + (u16 c).length + 2 * i) := fun i => by
      rw [show x + 2 * (i + 1) = x + 2 + 2 * i by omega]
      rfl
    have tail : (List.range rest.length).map (fun i => halfAt area (x + 2 * (i + 1))) = rest := by
      simpa only [shifted] using ih (fun c mem => fit c (List.mem_cons_of_mem _ mem)) others
    rw [List.length_cons, List.range_succ_eq_map, List.map_cons, List.map_map]
    exact congrArg₂ List.cons (halfAt_of_u16 (fit c List.mem_cons_self) first) tail

/-! ### Space words and footprints (R133, R135) -/

theorem footprint_bounds {length : Nat} (low : 16 ≤ length) (high : length ≤ 1024) :
    32 + length ≤ footprint length ∧ 48 ≤ footprint length ∧ footprint length ≤ 1056 ∧ footprint length % 16 = 0 := by
  unfold footprint
  omega

/-- A space word is read back as its length, where the space lies within the area (R135). -/
theorem readSpaceWord_spaceWord {offset size : Nat} (aligned : size % 16 = 0) (low : 48 ≤ size) (high : size ≤ 1056)
    (inside : offset + size ≤ areaSize) : readSpaceWord offset (spaceWord size) = .length size := by
  have value : (BitVec.ofNat 16 size).toNat = size := by
    rw [BitVec.toNat_ofNat]
    exact Nat.mod_eq_of_lt (by omega)
  simp only [spaceWord, u16, Half.bytes, List.cons_append, List.nil_append, readSpaceWord, half_extract, value]
  rw [if_pos ⟨trivial, aligned, low, high, inside⟩]

/-! ### A key held in a space (R135, R141, R190) -/

/-- The space at an offset holds the key's space word, header and body. -/
structure KeyEntry.HeldAt (e : KeyEntry) (area : List Host.Cell) (start : Nat) : Prop where
  word : Cells.readAll area start 4 = spaceWord (footprint e.length)
  header : Cells.readAll area (start + 4) 18 = e.header
  body : Cells.readAll area (start + 32) e.length = e.body

/-- The key's values fit the fields of a header (R128, R130, R190). -/
structure KeyEntry.Fits (e : KeyEntry) : Prop where
  id : e.id < 65536
  length : e.length < 65536
  regions : ∀ codes, e.regions = some codes → 1 ≤ codes.length ∧ codes.length ≤ 4 ∧ ∀ c ∈ codes, c < 65536

/-- The region list as a header's count and places carry it. -/
def KeyEntry.codes (e : KeyEntry) : List Nat := e.regions.getD []

theorem KeyEntry.Fits.codes (fits : e.Fits) :
    e.codes.length ≤ 4 ∧ (∀ c ∈ e.codes, c < 65536) ∧ e.regions = if e.codes.length = 0 then none else some e.codes := by
  unfold KeyEntry.codes
  cases given : e.regions with
  | none => simp
  | some codes =>
    obtain ⟨least, most, values⟩ := fits.regions codes given
    rw [Option.getD_some, if_neg (by omega)]
    exact ⟨most, values, rfl⟩

theorem flatMap_u16_length (codes : List Nat) : (codes.flatMap u16).length = 2 * codes.length := by
  induction codes with
  | nil => rfl
  | cons c rest ih =>
    rw [List.flatMap_cons, List.length_append, ih, List.length_cons]
    show 2 + _ = _
    omega

theorem KeyEntry.header_length (e : KeyEntry) : e.header.length = 18 := by simp [KeyEntry.header, u16, u8, Half.bytes, Quad.bytes]

/-- The fields of a header, read back one by one (R190). -/
theorem KeyEntry.Fits.fields (fits : e.Fits) (header : Cells.readAll area (x + 4) 18 = e.header) :
    halfAt area (x + 4) = e.id ∧ (Cells.read area (x + 6)).toNat = e.cls.code ∧ (Cells.read area (x + 7)).toNat = e.codes.length ∧
      halfAt area (x + 8) = e.length ∧
      quad (Cells.read area (x + 10)) (Cells.read area (x + 11)) (Cells.read area (x + 12)) (Cells.read area (x + 13)) = e.check ∧
      (List.range e.codes.length).map (fun i => halfAt area (x + 14 + 2 * i)) = e.codes := by
  obtain ⟨few, values, -⟩ := fits.codes
  have length := e.header_length
  have cls : e.cls.code < 256 := by cases e.cls <;> decide
  have places : padTo 8 blank (e.codes.flatMap u16) =
      e.codes.flatMap u16 ++ List.replicate (8 - (e.codes.flatMap u16).length) blank := by
    rw [padTo, List.take_of_length_le (by rw [flatMap_u16_length]; omega)]
  rw [← length] at header
  have split : e.header = (((((u16 e.id ++ u8 e.cls.code) ++ u8 e.codes.length) ++ u16 e.length) ++ Quad.bytes e.check) ++
      e.codes.flatMap u16) ++ List.replicate (8 - (e.codes.flatMap u16).length) blank := by
    rw [List.append_assoc _ (e.codes.flatMap u16), ← places]
    rfl
  rw [split] at header
  obtain ⟨header, -⟩ := Cells.readAll_append header
  obtain ⟨header, regions⟩ := Cells.readAll_append header
  obtain ⟨header, check⟩ := Cells.readAll_append header
  obtain ⟨header, size⟩ := Cells.readAll_append header
  obtain ⟨header, count⟩ := Cells.readAll_append header
  obtain ⟨id, code⟩ := Cells.readAll_append header
  refine ⟨halfAt_of_u16 fits.id id, byteAt_of_u8 cls code, byteAt_of_u8 (by omega) count, halfAt_of_u16 fits.length size, ?_,
    halfAt_of_codes values regions⟩
  have bytes : Cells.readAll area (x + 10) 4 = Quad.bytes e.check := check
  simp only [Cells.readAll, Quad.bytes, List.cons.injEq, and_true] at bytes
  obtain ⟨b0, b1, b2, b3⟩ := bytes
  rw [b0, show Cells.read area (x + 11) = _ from b1, show Cells.read area (x + 12) = _ from b2, show Cells.read area (x + 13) = _ from b3,
    quad_extract]

theorem KeyClass.ofNat?_code (cls : KeyClass) : KeyClass.ofNat? cls.code = some cls := by cases cls <;> rfl

/-- A header is read back as its key, in the area at its space, FIXED or WITHDRAWN by the withdraw mark (R141). -/
theorem KeyEntry.Fits.entryAt (fits : e.Fits) (whole : e.received = e.length) (header : Cells.readAll area (x + 4) 18 = e.header) :
    entryAt area x =
      some
        { e with
          state := if Cells.read area (x + 23) = blank then .fixed else .withdrawn
          body := [], offset := some x, fixPending := false } := by
  obtain ⟨few, -, regions⟩ := fits.codes
  obtain ⟨id, cls, count, length, check, codes⟩ := fits.fields header
  have places : ∀ i, halfAt area (x + (14 + 2 * i)) = halfAt area (x + 14 + 2 * i) := fun i => by rw [Nat.add_assoc]
  have read : Machine.entryAt area x =
      (KeyClass.ofNat? (Cells.read area (x + 6)).toNat).map (fun cls =>
        { id := halfAt area (x + 4), cls := cls, length := halfAt area (x + 8)
          check :=
            quad (Cells.read area (x + 10)) (Cells.read area (x + 11)) (Cells.read area (x + 12)) (Cells.read area (x + 13))
          regions :=
            if min 4 (Cells.read area (x + 7)).toNat = 0 then none
            else some ((List.range (min 4 (Cells.read area (x + 7)).toNat)).map (fun i => halfAt area (x + (14 + 2 * i))))
          state := if Cells.read area (x + 23) = blank then .fixed else .withdrawn
          received := halfAt area (x + 8), body := [], offset := some x, fixPending := false }) := rfl
  rw [read, id, cls, count, length, check, KeyClass.ofNat?_code, Nat.min_eq_right few]
  simp only [places, codes, Option.map_some, ← regions, ← whole]

/-- A key held in its space is read back once the completion mark is there (R135, R141). -/
theorem KeyEntry.HeldAt.keyAt (held : e.HeldAt area start) (fits : e.Fits) (whole : e.received = e.length)
    (mark : Cells.read area (start + 22) = completionMark) :
    keyAt area start =
      some
        { e with
          state := if Cells.read area (start + 23) = blank then .fixed else .withdrawn
          body := [], offset := some start, fixPending := false } := by
  rw [Machine.keyAt, if_pos mark]
  exact fits.entryAt whole held.header

/-! ### The writes of a key into its space (R137, R139, R190) -/

/-- A byte written between header and body, where the marks go, leaves the key held. -/
theorem KeyEntry.HeldAt.marked (held : e.HeldAt area start) (b : Byte) (place : x = start + 22 ∨ x = start + 23) :
    e.HeldAt (Cells.write area x b) start := by
  refine ⟨?_, ?_, ?_⟩
  · rw [← held.word]
    exact Cells.readAll_congr fun i less => Cells.read_write_ne area b (by omega)
  · rw [← held.header]
    exact Cells.readAll_congr fun i less => Cells.read_write_ne area b (by omega)
  · rw [← held.body]
    exact Cells.readAll_congr fun i less => Cells.read_write_ne area b (by omega)

/-- Its space word is read back as its footprint (R135). -/
theorem KeyEntry.HeldAt.readsWord (held : e.HeldAt area start) (low : 16 ≤ e.length) (high : e.length ≤ 1024)
    (inside : start + footprint e.length ≤ areaSize) :
    readSpaceWord start (Cells.readAll area start 4) = .length (footprint e.length) := by
  obtain ⟨-, least, most, aligned⟩ := footprint_bounds low high
  rw [held.word, readSpaceWord_spaceWord aligned least most inside]

/-- A key whose space has its completion mark is read back WITHDRAWN once the withdraw mark is written (R139, R141). -/
theorem KeyEntry.HeldAt.keyAt_withdrawn (held : e.HeldAt area start) (fits : e.Fits) (whole : e.received = e.length)
    (mark : Cells.read area (start + 22) = completionMark) (inside : start + 23 < areaSize) :
    Machine.keyAt (Cells.write area (start + 23) withdrawMark) start =
      some { e with state := .withdrawn, body := [], offset := some start, fixPending := false } := by
  have stillMarked : Cells.read (Cells.write area (start + 23) withdrawMark) (start + 22) = completionMark := by
    rw [Cells.read_write_ne _ _ (by omega), mark]
  have withdrawn : Cells.read (Cells.write area (start + 23) withdrawMark) (start + 23) ≠ blank := by
    rw [Cells.read_write_self _ inside (by decide)]
    decide
  rw [(held.marked _ (.inr rfl)).keyAt fits whole stillMarked, if_neg withdrawn]

/-- What the first three writes of a key leave of the area (R137). -/
def KeyEntry.unmarkedIn (e : KeyEntry) (area : List Host.Cell) (start : Nat) : List Host.Cell :=
  Cells.writeAll (Cells.writeAll (Cells.writeAll area start (spaceWord (footprint e.length))) (start + 4) e.header) (start + 32) e.body

theorem spaceWord_length (size : Nat) : (spaceWord size).length = 4 := rfl

/-- They touch the space word's, the header's and the body's bytes alone. -/
theorem KeyEntry.unmarkedIn_apart (whole : e.body.length = e.length)
    (apart : x < start ∨ (start + 22 ≤ x ∧ x < start + 32) ∨ start + 32 + e.length ≤ x) :
    Cells.read (e.unmarkedIn area start) x = Cells.read area x := by
  rw [KeyEntry.unmarkedIn, Cells.read_writeAll_outside _ _ (by omega),
    Cells.read_writeAll_outside _ _ (by rw [KeyEntry.header_length]; omega),
    Cells.read_writeAll_outside _ _ (by rw [spaceWord_length]; omega)]

/-- In a blank space they leave the key held (R133). -/
theorem KeyEntry.unmarkedIn_held (whole : e.body.length = e.length) (inside : start + 32 + e.length ≤ areaSize)
    (unwritten : ∀ x, start ≤ x → x < start + 32 + e.length → Cells.read area x = blank) :
    e.HeldAt (e.unmarkedIn area start) start := by
  have header := e.header_length
  have word := spaceWord_length (footprint e.length)
  refine ⟨?_, ?_, ?_⟩
  · rw [KeyEntry.unmarkedIn, Cells.readAll_writeAll_apart (.inl (by omega)), Cells.readAll_writeAll_apart (.inl (by omega))]
    exact Cells.readAll_writeAll_blank (bytes := spaceWord (footprint e.length)) (by omega)
      fun i less => unwritten _ (by omega) (by omega)
  · rw [KeyEntry.unmarkedIn, Cells.readAll_writeAll_apart (.inl (by omega)), ← header]
    refine Cells.readAll_writeAll_blank (by omega) fun i less => ?_
    rw [Cells.read_writeAll_outside _ _ (by omega)]
    exact unwritten _ (by omega) (by omega)
  · have body : Cells.readAll (e.unmarkedIn area start) (start + 32) e.body.length = e.body := by
      refine Cells.readAll_writeAll_blank (by omega) fun i less => ?_
      rw [Cells.read_writeAll_outside _ _ (by omega), Cells.read_writeAll_outside _ _ (by omega)]
      exact unwritten _ (by omega) (by omega)
    rwa [whole] at body

end

end Sys2Proof.Machine

/-! SUPPORT. The completion of a fix write, verified or not (R137, R138). -/

namespace Sys2Proof.Machine
open Sys2Proof

section
variable {s : State} {tag : Byte} {count n start : Nat} {step : FixStep} {e : KeyEntry} {w : NvWrite} {outcome : WriteOutcome}

theorem exec_keyFixWriteComplete (running : s.power = .running) (outcome : WriteOutcome) :
    exec (.keyFixWriteComplete outcome) s = .next (s.takeFixWrite outcome).arbitrate :=
  congrArg Host.Outcome.next (State.event_running running _)

/-- A write that reads back as written goes on to the next (R137). -/
theorem State.takeFixWrite_verified (progress : s.keys.op = some (.fix tag count n step start)) (at_n : s.keys.entries[n]? = some (some e))
    (write : s.nv.write = some w) (verified : (s.nv.endWrite outcome).readBack w = w.data) :
    s.takeFixWrite outcome = (s.setNv (s.nv.endWrite outcome)).fixVerified tag count n e step start := by
  rw [State.takeFixWrite, progress, write]
  dsimp only
  rw [getD_none_eq_some.mpr at_n]
  exact if_pos verified

/-- Any other stops the operation (R138). -/
theorem State.takeFixWrite_unverified (progress : s.keys.op = some (.fix tag count n step start))
    (at_n : s.keys.entries[n]? = some (some e)) (write : s.nv.write = some w)
    (unverified : (s.nv.endWrite outcome).readBack w ≠ w.data) :
    s.takeFixWrite outcome = (s.setNv (s.nv.endWrite outcome)).failFix tag count e.id step start := by
  rw [State.takeFixWrite, progress, write]
  dsimp only
  rw [getD_none_eq_some.mpr at_n]
  exact if_neg unverified

/-- The mark's write makes its key FIXED, and the next key's turn comes (R137). -/
theorem State.fixVerified_mark (s : State) :
    s.fixVerified tag count n e .mark start = (s.setKeys (s.keys.put n (some (e.asFixed start)))).nextFixKey tag (count + 1) := rfl

/-- After a failed write past the first the fill point stands (R138). -/
theorem KeyTable.fixFailed_later {k : KeyTable} {area : List Host.Cell} (later : step ≠ .spaceWord) :
    k.fixFailed step start area = { k with entries := k.unpended, op := none } := if_neg later

/-- After the first write the fill point follows the read-back of the space word, and a torn word closes the area (R138). -/
theorem KeyTable.fixFailed_word (k : KeyTable) (area : List Host.Cell) :
    (∀ size, readSpaceWord start (Cells.readAll area start 4) = .length size →
        k.fixFailed .spaceWord start area = { k with entries := k.unpended, op := none, fill := start + size }) ∧
      (readSpaceWord start (Cells.readAll area start 4) = .blankWord →
        k.fixFailed .spaceWord start area = { k with entries := k.unpended, op := none }) ∧
      (readSpaceWord start (Cells.readAll area start 4) = .torn →
        k.fixFailed .spaceWord start area = { k with entries := k.unpended, op := none, areaClosed := true }) := by
  unfold KeyTable.fixFailed
  refine ⟨fun size reading => ?_, fun reading => ?_, fun reading => ?_⟩ <;> simp only [if_true, reading]

end

end Sys2Proof.Machine

/-! CERTIFICATE. The writes of KEY_FIX (O40). -/

namespace Sys2Proof
open Sys2Proof.Machine

/-- Settles O40: each write's completion goes by its read-back, and a key's space read after its four writes gives the key. -/
theorem fixWritesFollowTheirOrderOrStop : Obligations.FixWritesFollowTheirOrderOrStop := by
  refine ⟨fun s tag count n start step e w running progress at_n write _ _ verified => ?_,
    fun s tag count n start step e w outcome running progress at_n write unverified => ?_,
    fun area start e low high inside _ id whole received regions unwritten => ?_⟩
  · intro writing entries
    rw [exec_keyFixWriteComplete running, State.takeFixWrite_verified progress at_n write verified]
    refine ⟨?_, ?_, ?_, ?_⟩
    · rintro rfl
      rfl
    · rintro rfl
      rfl
    · rintro rfl
      rfl
    · rintro rfl
      rw [State.fixVerified_mark]
      refine ⟨fun last => ?_, fun k next due at_k => ?_⟩
      · rw [State.nextFixKey_last last]
        rfl
      · rw [State.nextFixKey_next due (getD_none_eq_some.mpr at_k)]
        rfl
  · intro word stops
    have stop : ∀ fill closed,
        s.keys.fixFailed step start (s.nv.endWrite outcome).keyArea =
          { entries := s.keys.unpended, fill := fill, areaClosed := closed, op := none } → stops fill closed := by
      intro fill closed left
      simp only [stops]
      rw [exec_keyFixWriteComplete running, State.takeFixWrite_unverified progress at_n write unverified, State.failFix]
      simp only [State.setNv_keys, State.setNv_nv, left]
      cases step <;> rfl
    refine ⟨fun later => stop _ _ (KeyTable.fixFailed_later later), ?_⟩
    rintro rfl
    obtain ⟨whole, unwritten, torn⟩ := s.keys.fixFailed_word (start := start) (s.nv.endWrite outcome).keyArea
    exact ⟨fun size reading => stop _ _ (whole size reading), fun reading => stop _ _ (unwritten reading),
      fun reading => stop _ _ (torn reading)⟩
  · intro step unmarked written fixed
    have room : 32 + e.length ≤ footprint e.length := (footprint_bounds low high).1
    have fits : e.Fits := ⟨id, by omega, fun codes given => by
      obtain ⟨least, most, values⟩ := regions codes given
      exact ⟨least, most, fun c mem => Nat.lt_of_le_of_lt (values c mem) (by decide)⟩⟩
    have apart : ∀ x, x < start ∨ (start + 22 ≤ x ∧ x < start + 32) ∨ start + 32 + e.length ≤ x →
        Cells.read unmarked x = Cells.read area x := fun x => KeyEntry.unmarkedIn_apart whole
    have unset : ∀ x, start + 22 ≤ x → x < start + 32 → Cells.read unmarked x = blank := fun x above below => by
      rw [apart x (by omega)]
      exact unwritten x (by omega) (by omega)
    have held : e.HeldAt unmarked start :=
      KeyEntry.unmarkedIn_held (area := area) (start := start) whole (show _ ≤ 16384 by omega)
        fun x above below => unwritten x above (by omega)
    have isWritten : written = Cells.write unmarked (start + 22) completionMark := rfl
    clear_value written unmarked
    have heldWritten : e.HeldAt written start := isWritten ▸ held.marked completionMark (.inl rfl)
    have unmarkedByte : Cells.read unmarked (start + 22) ≠ completionMark := by
      rw [unset _ (by omega) (by omega)]
      decide
    have marked : Cells.read written (start + 22) = completionMark := by
      rw [isWritten, Cells.read_write_self _ (show _ < 16384 by omega) (by decide)]
    have unwithdrawn : Cells.read written (start + 23) = blank := by
      rw [isWritten, Cells.read_write_ne _ _ (by omega), unset _ (by omega) (by omega)]
    refine ⟨held.readsWord low high inside, if_neg unmarkedByte, heldWritten.readsWord low high inside, ?_, heldWritten.body,
      heldWritten.keyAt_withdrawn fits received marked (show _ < 16384 by omega), fun x outside => ?_⟩
    · rw [heldWritten.keyAt fits received marked, if_pos unwithdrawn]
    · rw [isWritten, Cells.read_write_ne _ _ (by omega), apart x (by omega)]

end Sys2Proof

/-! SUPPORT. SET_CHECK where it is taken (R147), and a verdict by its conditions (R148, R149). -/

namespace Sys2Proof.Machine
open Sys2Proof

/-! ### SET_CHECK (R147) -/

section
variable {s : State} {tag slot : Byte} {f : CheckFields}

theorem exec_setCheck (h : s.AdmitsOpen tag) : exec (.setCheck .station tag slot f) s = .next (s.takeSetCheck tag slot f).arbitrate :=
  State.request_open (r := .setCheck slot f) rfl rfl h (by simp [Request.kind])

/-- A record that the fields give takes the place of the slot's (R147). -/
theorem State.takeSetCheck_stored {record : CheckSlot} (opened : s.unit.phase = .opened) (inside : slot.toNat ≤ 15)
    (given : checkGiven f = some record) :
    s.takeSetCheck tag slot f =
      (s.setChecks (s.checks.set slot.toNat record)).reply .station 0x60 tag .ok
        ([slot] ++ record.bytes ++ u8 (enabledCount (s.checks.set slot.toNat record))) := by
  rw [State.takeSetCheck, if_neg (not_not_intro opened), if_neg (Nat.not_lt.mpr inside), given]

/-- A slot number or a field out of range stores nothing (R147). -/
theorem State.takeSetCheck_refused (opened : s.unit.phase = .opened) (bad : 15 < slot.toNat ∨ checkGiven f = none) :
    s.takeSetCheck tag slot f = s.refuse .station 0x60 tag .badValue := by
  rw [State.takeSetCheck, if_neg (not_not_intro opened)]
  by_cases outside : 15 < slot.toNat
  · exact if_pos outside
  · rw [if_neg outside, bad.resolve_left outside]

end

/-! ### Conditions (R148) -/

theorem Conditions.any_iff (c : Conditions) :
    c.any = true ↔ c.less = true ∨ c.greater = true ∨ c.equal = true ∨ c.magLess = true ∨ c.magGreater = true := by
  simp [Conditions.any, or_assoc]

section
variable (mask : Conditions) (q limit : Int)

theorem Conditions.met_less_iff : (mask.met q limit).less = true ↔ mask.less = true ∧ q < limit := by
  simp [Conditions.met]

theorem Conditions.met_greater_iff : (mask.met q limit).greater = true ↔ mask.greater = true ∧ limit < q := by
  simp [Conditions.met]

theorem Conditions.met_equal_iff : (mask.met q limit).equal = true ↔ mask.equal = true ∧ q = limit := by
  simp [Conditions.met]

theorem Conditions.met_magLess_iff :
    (mask.met q limit).magLess = true ↔ mask.magLess = true ∧ q.natAbs < limit.natAbs := by
  simp only [Conditions.met, Bool.and_eq_true, decide_eq_true_eq]

theorem Conditions.met_magGreater_iff :
    (mask.met q limit).magGreater = true ↔ mask.magGreater = true ∧ limit.natAbs < q.natAbs := by
  simp only [Conditions.met, Bool.and_eq_true, decide_eq_true_eq]

end

/-! ### Verdicts (R149) -/

section
variable (c : CheckSlot) (slot q : Nat)

theorem CheckSlot.judge_met : (c.judge slot (some q)).met = c.mask.met q c.limit := rfl

/-- A quantity with a value fails exactly where some condition of the mask is met. -/
theorem CheckSlot.judge_verdict_fail_iff : (c.judge slot (some q)).verdict = .fail ↔ (c.judge slot (some q)).met.any = true := by
  rw [CheckSlot.judge_met, CheckSlot.judge]
  dsimp only
  split <;> simp [*]

end

theorem overallVerdict_fail_iff (records : List VerdictRecord) :
    overallVerdict records = .fail ↔ ∃ v ∈ records, v.verdict = .fail := by
  have failing : (∃ v ∈ records, v.verdict = .fail) ↔ records.any (fun v => decide (v.verdict = .fail)) = true := by
    simp only [List.any_eq_true, decide_eq_true_eq]
  rw [failing, overallVerdict]
  split <;> simp [*]

end Sys2Proof.Machine

/-! CERTIFICATE. Acceptance checks (O42). -/

namespace Sys2Proof
open Sys2Proof.Machine

/-- Settles O42: SET_CHECK's two ends, the five conditions one by one, and the verdict as their disjunction. -/
theorem checksAreStoredAndJudged : Obligations.ChecksAreStoredAndJudged := by
  refine ⟨fun s tag slot f h => ⟨fun record inside given => ?_, fun bad => ?_⟩, fun c slot q => ?_, overallVerdict_fail_iff⟩
  · rw [exec_setCheck h, State.takeSetCheck_stored h.opened inside given]
  · rw [exec_setCheck h, State.takeSetCheck_refused h.opened bad, State.refuse]
  · have less := c.mask.met_less_iff q c.limit
    have greater := c.mask.met_greater_iff q c.limit
    have equal := c.mask.met_equal_iff q c.limit
    have magLess := c.mask.met_magLess_iff q c.limit
    have magGreater := c.mask.met_magGreater_iff q c.limit
    rw [Int.natAbs_natCast] at magLess magGreater
    refine ⟨?_, less, greater, equal, magLess, magGreater, rfl, rfl⟩
    rw [CheckSlot.judge_verdict_fail_iff, Conditions.any_iff, CheckSlot.judge_met, less, greater, equal, magLess, magGreater]

end Sys2Proof

/-! SUPPORT. The arbiters leave no transmitter free beside something that waits for it (R181), and start-up loading leaves the ports and the
rows as a reset does. -/

namespace Sys2Proof.Machine
open Sys2Proof

section
variable {s t : State}

/-! ### What start-up loading leaves of a reset -/

/-- Start-up loading leaves nothing queued, held or waiting at a port, and no operation and no reset asked for (R161). -/
theorem State.startedUp_idle (s : State) (cause : ResetCause) :
    (s.startedUp cause).intake = .fresh ∧ (s.startedUp cause).grid.held = [] ∧ (s.startedUp cause).station = .fresh ∧
      (s.startedUp cause).system = .fresh ∧ (s.startedUp cause).nv = s.nv ∧ (s.startedUp cause).keys.op = none ∧
      (s.startedUp cause).unit.op = none ∧ (s.startedUp cause).unit.resetPending = false := by
  obtain ⟨-, keys, nv, -, intake, -, -, station, system⟩ := (s.loading cause).loadMark_frame cause
  obtain ⟨-, op, reset⟩ := (s.loading cause).loadMark_unit_fresh cause rfl
  obtain ⟨-, grid⟩ := (s.loading cause).loadMark_grid cause
  have held : ((s.loading cause).loadMark cause).grid.held = [] := by
    obtain ⟨-, grid⟩ | ⟨-, ceiling, grid⟩ := grid <;> rw [grid] <;> rfl
  exact ⟨intake, held, station, system, nv, congrArg KeyTable.op keys, op, reset⟩

/-- The newest copy's mark makes the unit BLANK, PARKED or CLOSED (R161). -/
theorem State.startedUp_phase (s : State) (cause : ResetCause) : (s.startedUp cause).unit.phase ≠ .closing := by
  show ((s.loading cause).loadMark cause).unit.phase ≠ .closing
  unfold State.loadMark
  split
  · exact nofun
  · split <;> exact nofun

/-! ### Nothing waits for a free transmitter (R181) -/

/-- A port's arbiter that finds the transmitter free starts what waits, so nothing waits beside a free transmitter after it. -/
theorem State.arbitratePort_served (s : State) (p : Port) (free : ((s.arbitratePort p).port p).sending = none) :
    ((s.arbitratePort p).port p).replies = [] ∧ (p = .station → (s.arbitratePort p).station.reports = []) := by
  obtain ⟨e, idle⟩ | ⟨-, waits, e⟩ | ⟨rfl, -, -, waits, e⟩ := s.arbitratePort_cases p
  · rw [e] at free ⊢
    exact idle.resolve_left (by simp [free])
  · rw [e, State.beginReply] at free
    split at free
    · contradiction
    · simp at free
  · rw [e, State.beginReport] at free
    split at free
    · contradiction
    · simp at free

/-- After the arbiters no transmitter is free while something waits for it. -/
theorem State.arbitrate_quiet (s : State) : s.arbitrate.Quiet := by
  have other := (s.arbitratePort .station).arbitratePort_other.1
  refine ⟨fun free => ?_, fun free => ((s.arbitratePort .station).arbitratePort_served .system free).1⟩
  rw [State.arbitrate, other] at free ⊢
  obtain ⟨replies, reports⟩ := s.arbitratePort_served .station free
  exact ⟨replies, reports rfl⟩

theorem exec_keeps_quiet {c : Instr} (run : exec c s = .next t) (quiet : s.Quiet) : t.Quiet := by
  cases exec_cases run with
  | nothing => exact quiet
  | reset source cut command => exact ⟨fun _ => ⟨rfl, rfl⟩, fun _ => rfl⟩
  | startup cause held command =>
    obtain ⟨-, -, station, system, -⟩ := s.startedUp_idle cause
    unfold State.Quiet
    rw [station, system]
    exact ⟨fun _ => ⟨rfl, rfl⟩, fun _ => rfl⟩
  | requestedReset => exact State.arbitrate_quiet _
  | ports u => exact u.arbitrate_quiet
  | request => exact State.arbitrate_quiet _
  | event u => exact u.arbitrate_quiet

/-- Between two steps no transmitter is free while something waits for it. -/
theorem step_keeps_quiet (run : step s = .next t) (quiet : s.Quiet) : t.Quiet := by
  obtain ⟨-, rfl⟩ | ⟨c, rest, -, run⟩ := step_cases run
  · exact quiet
  · exact exec_keeps_quiet run quiet

end

end Sys2Proof.Machine

/-! SUPPORT. The operation in flight, the key table's progress, the write in flight, the phase and a pending reset through every command
(R158, R160). -/

namespace Sys2Proof.Machine
open Sys2Proof

section
variable {s t : State}

/-! ### Agreement -/

/-- With no operation registered the key table is at none (R128, R160). -/
theorem State.OpsAgree.no_progress (ops : s.OpsAgree) (foreign : s.unit.op.filter NvOp.ofKeys = none) : s.keys.op = none := by
  have keys := ops.keys
  rw [foreign] at keys
  exact Option.map_eq_none_iff.mp keys

/-- With an operation registered no reset is pending (R163). -/
theorem State.OpsAgree.no_reset (ops : s.OpsAgree) (busy : s.unit.op ≠ none) : s.unit.resetPending = false := by
  by_contra pending
  exact busy (ops.reset (by simpa using pending))

/-- With an operation registered the part runs. -/
theorem State.OpsAgree.running (ops : s.OpsAgree) (busy : s.unit.op ≠ none) : s.power = .running := by
  by_contra held
  exact busy (ops.held held)

/-- The agreement reads the phase, the operation, a pending reset, the power, the key table's progress and whether a write is in flight. -/
theorem State.OpsAgree.congr (ops : s.OpsAgree) (unit : t.unit = s.unit) (power : t.power = s.power) (keys : t.keys.op = s.keys.op)
    (write : t.nv.write.isSome = s.nv.write.isSome) : t.OpsAgree :=
  ⟨by rw [keys, unit]; exact ops.keys, by rw [unit]; exact ops.phase, by rw [write, unit]; exact ops.write, by rw [unit]; exact ops.reset,
    by rw [power, unit]; exact ops.held⟩

/-- With no operation, no progress and no write all agree in every phase but CLOSING. -/
theorem State.OpsAgree.idle (op : t.unit.op = none) (keys : t.keys.op = none) (write : t.nv.write = none) (phase : t.unit.phase ≠ .closing) :
    t.OpsAgree :=
  ⟨by simp [op, keys], by simpa [UnitPhase.suits, op] using phase, by simp [op, write], fun _ => op, fun _ => op⟩

/-- An operation that has begun, with its write in flight, in a running part with no reset pending. -/
theorem State.OpsAgree.busy {op : NvOp} (registered : t.unit.op = some op) (keys : t.keys.op.map KeyOp.kind = (some op).filter NvOp.ofKeys)
    (phase : t.unit.phase.suits (some op)) (write : t.nv.write.isSome = true) (reset : t.unit.resetPending = false)
    (running : t.power = .running) : t.OpsAgree :=
  ⟨by rw [registered]; exact keys, by rw [registered]; exact phase, by rw [registered]; exact write, by simp [reset], by simp [running]⟩

theorem State.OpsAgree.arbitrate (ops : s.OpsAgree) : s.arbitrate.OpsAgree := ops.congr (by simp) (by simp) (by simp) (by simp)

theorem State.OpsAgree.reply (ops : s.OpsAgree) (p : Port) (kind tag : Byte) (status : Status) (fields : List Byte) :
    (s.reply p kind tag status fields).OpsAgree := ops.congr (by simp) (by simp) (by simp) (by simp)

/-- Nothing is registered, in progress or in flight. -/
theorem State.OpsAgree.free (ops : s.OpsAgree) (op : s.unit.op = none) :
    s.keys.op = none ∧ s.nv.write = none ∧ s.unit.phase ≠ .closing :=
  ⟨ops.no_progress (by rw [op]; rfl), ops.no_write op, by simpa [UnitPhase.suits, op] using ops.phase⟩

/-! ### Requests -/

/-- A request that begins no operation and moves no phase leaves the unit controller as it is, or sets reset pending beside no operation
(R163). -/
theorem State.takeRequest_unit (s : State) (p : Port) (tag : Byte) {r : Request} (still : movesUnit r = false) :
    (s.takeRequest p tag r).unit = s.unit ∨
      s.unit.op = none ∧ (s.takeRequest p tag r).unit = { s.unit with resetPending := true } := by
  cases r <;> simp only [movesUnit, Bool.true_eq_false] at still
  case partReset =>
    simp only [State.takeRequest, State.takePartReset]
    split
    · exact .inl (by simp)
    · rename_i free
      exact .inr ⟨by simpa using free, by simp⟩
  all_goals
    left
    simp only [State.takeRequest, State.takeStatus, State.takeReadRegion, State.takeKeyFetch, State.takeSetTuning, State.takeSetLevels,
      State.takeSetAims, State.takeSetPin, State.takeGridRestart, State.takeReadNodes, State.takeReadZones, State.takeMeasure,
      State.takeArm, State.takeDisarm, State.takeStart, State.takeStop, State.takeHalt, State.takeAdvance, State.takePatchAppend,
      State.takePatchClear, State.takeLoadProfile, State.takeSetRegion, State.takeKeyBegin, State.takeKeyChunk, State.takeKeyDiscard,
      State.takeKeyList, State.takeSetCheck, State.takeEvaluate]
    (repeat' split) <;> simp

/-- A request that begins no operation leaves the key table's progress as it is: KEY_BEGIN, KEY_CHUNK and KEY_DISCARD write entries. -/
theorem State.takeRequest_progress (s : State) (p : Port) (tag : Byte) {r : Request} (still : movesUnit r = false) :
    (s.takeRequest p tag r).keys.op = s.keys.op := by
  by_cases apart : movesKeys r = false
  · rw [s.takeRequest_keepsKeys p tag apart]
  cases r <;> simp [movesKeys, Request.kind] at apart <;> simp only [movesUnit, Bool.true_eq_false] at still <;>
    simp only [State.takeRequest, State.takeKeyBegin, State.takeKeyChunk, State.takeKeyDiscard] <;>
    (repeat' split) <;> simp [KeyTable.put]

/-! ### CLOSE's preconditions (R167) -/

theorem Intake.occupancy_eq_zero_iff (i : Intake) : i.occupancy = 0 ↔ i.queue = [] ∧ i.inProcess = none := by
  cases row : i.inProcess <;> simp [Intake.occupancy, row]

/-- A chain of refusals comes to its end when this one is not met, nor any after it. -/
theorem ite_some_eq_none_iff {α : Type} {c : Prop} [Decidable c] {x : α} {next : Option α} :
    (if c then some x else next) = none ↔ ¬ c ∧ next = none := by
  split <;> simp [*]

/-- CLOSE is refused by none of its nine preconditions when all hold (R167). -/
theorem State.closeRefusal_none_iff :
    s.closeRefusal = none ↔
      s.unit.phase = .opened ∧ s.unit.op = none ∧ s.seq.state = .idle ∧ s.intake.queue = [] ∧ s.intake.inProcess = none ∧
        s.region.current.isSome = true ∧ s.region.conflict = false ∧ s.keys.pendingKeys = 0 ∧
        s.keys.satisfies s.region.current = true ∧ overallVerdict s.evaluation = .pass := by
  have verdict : overallVerdict s.evaluation ≠ .fail ↔ overallVerdict s.evaluation = .pass := by
    cases overallVerdict s.evaluation <;> simp
  have occupied := s.intake.occupancy_eq_zero_iff
  unfold State.closeRefusal
  simp only [ite_some_eq_none_iff, ne_eq, not_not, occupied, Bool.not_eq_true, Bool.not_eq_false, Option.isSome_eq_false_iff,
    Option.isNone_iff_eq_none, and_true, and_assoc] at verdict ⊢
  rw [verdict, ← ne_eq s.region.current, ← Option.isSome_iff_ne_none]

/-! ### The unit controller's requests -/

/-- OPEN registers OPEN_WRITE in BLANK, and enters OPEN at once in PARKED (R165). -/
theorem State.OpsAgree.takeOpen (ops : s.OpsAgree) (running : s.power = .running) (noReset : s.unit.resetPending = false) (tag : Byte)
    (given : Half) (serial : List Byte) : (s.takeOpen tag given serial).OpsAgree := by
  unfold State.takeOpen
  split
  · exact ops.reply ..
  split
  · exact ops.reply ..
  split
  · exact ops.reply ..
  rename_i free
  have free : s.unit.op = none := by simpa using free
  obtain ⟨keys, write, -⟩ := ops.free free
  split
  · rename_i blank
    exact .busy (op := .openWrite tag serial given.toNat) (by simp) (by simp [keys, Option.filter, NvOp.ofKeys])
      (by simpa [UnitPhase.suits] using blank) rfl (by simpa using noReset) (by simpa using running)
  split
  · exact ops.reply ..
  · exact .reply (.idle (by simpa [State.enterOpen] using free) (by simpa using keys) (by simpa using write) (by simp [State.enterOpen])) ..

/-- CLOSE registers the commit as it moves the unit to CLOSING (R167, R168). -/
theorem State.OpsAgree.takeClose (ops : s.OpsAgree) (running : s.power = .running) (noReset : s.unit.resetPending = false) (tag : Byte) :
    (s.takeClose tag).OpsAgree := by
  unfold State.takeClose
  split
  · exact ops.reply ..
  · rename_i granted
    obtain ⟨-, free, -⟩ := State.closeRefusal_none_iff.mp granted
    obtain ⟨keys, -⟩ := ops.free free
    exact .busy (op := .commit tag .closingMark) rfl (by simp [State.beginCommit, keys, Option.filter, NvOp.ofKeys])
      (by simp [State.beginCommit, State.commitAt, UnitPhase.suits]) rfl (by simpa [State.beginCommit, State.commitAt] using noReset)
      (by simpa [State.beginCommit] using running)

theorem State.OpsAgree.takeReopen (ops : s.OpsAgree) (running : s.power = .running) (noReset : s.unit.resetPending = false) (tag : Byte) :
    (s.takeReopen tag).OpsAgree := by
  unfold State.takeReopen
  split
  · exact ops.reply ..
  rename_i closed
  split
  · exact ops.reply ..
  rename_i free
  split
  · exact ops.reply ..
  · obtain ⟨keys, -⟩ := ops.free (by simpa using free)
    exact .busy (op := .reopenWrite tag) (by simp) (by simp [keys, Option.filter, NvOp.ofKeys])
      (by simpa [UnitPhase.suits] using closed) rfl (by simpa using noReset) (by simpa using running)

/-! ### The key table's operations -/

/-- The next key of a fix set is in the table (R136). -/
theorem nextPending_at {entries : List (Option KeyEntry)} {n : Nat} (next : nextPending entries = some n) :
    ∃ e, entries.getD n none = some e := by
  obtain ⟨inside, pending, -⟩ := List.findIdx?_eq_some_iff_getElem.mp next
  rw [List.getD_eq_getElem _ _ inside]
  cases at_n : entries[n] with
  | none => simp [at_n] at pending
  | some e => exact ⟨e, rfl⟩

/-- KEY_FIX registered, with no reset pending in a running part in OPEN (R136). -/
structure State.Fixing (s : State) : Prop where
  op : s.unit.op = some .keyFix
  opened : s.unit.phase = .opened
  noReset : s.unit.resetPending = false
  running : s.power = .running

/-- KEY_FIX with one of its writes in flight. -/
theorem State.Fixing.beginFixStep (h : s.Fixing) (tag : Byte) (count n : Nat) (e : KeyEntry) (step : FixStep) (start : Nat) :
    (s.beginFixStep tag count n e step start).OpsAgree :=
  .busy h.op rfl h.opened rfl h.noReset h.running

/-- The next key's first write begins, or the operation ends with nothing in flight (R137). -/
theorem State.Fixing.nextFixKey (h : s.Fixing) (idle : s.nv.write = none) (tag : Byte) (count : Nat) : (s.nextFixKey tag count).OpsAgree := by
  cases next : nextPending s.keys.entries with
  | some n =>
    obtain ⟨e, at_n⟩ := nextPending_at next
    rw [State.nextFixKey_next next at_n]
    exact h.beginFixStep ..
  | none =>
    rw [State.nextFixKey_last next]
    exact .reply (.idle (by simp) (by simp) (by simpa using idle) (by simp [h.opened])) ..

theorem State.OpsAgree.takeKeyFix (ops : s.OpsAgree) (running : s.power = .running) (noReset : s.unit.resetPending = false) (tag : Byte) :
    (s.takeKeyFix tag).OpsAgree := by
  unfold State.takeKeyFix
  split
  · exact ops.reply ..
  rename_i opened
  split
  · exact ops.reply ..
  rename_i free
  split
  · exact ops.reply ..
  split
  · exact ops.reply ..
  · obtain ⟨-, write, -⟩ := ops.free (by simpa using free)
    exact State.Fixing.nextFixKey ⟨rfl, by simpa using opened, by simpa using noReset, by simpa using running⟩ (by simpa using write) tag 0

theorem State.OpsAgree.takeKeyWithdraw (ops : s.OpsAgree) (running : s.power = .running) (noReset : s.unit.resetPending = false)
    (tag : Byte) (id : Half) : (s.takeKeyWithdraw tag id).OpsAgree := by
  unfold State.takeKeyWithdraw
  split
  · exact ops.reply ..
  rename_i opened
  (repeat' split)
  · exact ops.reply ..
  · exact ops.reply ..
  · exact ops.reply ..
  · exact ops.reply ..
  · exact .busy (op := .keyWithdraw) rfl rfl (by simpa [UnitPhase.suits] using opened) rfl (by simpa using noReset) (by simpa using running)

/-- Every request that an owner takes leaves all in agreement. -/
theorem State.OpsAgree.takeRequest (ops : s.OpsAgree) (running : s.power = .running) (noReset : s.unit.resetPending = false) (p : Port)
    (tag : Byte) (r : Request) : (s.takeRequest p tag r).OpsAgree := by
  by_cases still : movesUnit r = false
  · obtain ⟨nv, power, -⟩ := s.takeRequest_keepsUnit p tag still
    have keys := s.takeRequest_progress p tag still
    obtain unit | ⟨free, unit⟩ := s.takeRequest_unit p tag still
    · exact ops.congr unit power keys (by rw [nv])
    · obtain ⟨progress, write, phase⟩ := ops.free free
      exact .idle (by rw [unit]; exact free) (keys.trans progress) (by rw [nv]; exact write) (by rw [unit]; exact phase)
  cases r <;> simp only [movesUnit, not_true_eq_false] at still
  case openUnit => exact ops.takeOpen running noReset ..
  case close => exact ops.takeClose running noReset tag
  case reopen => exact ops.takeReopen running noReset tag
  case keyFix => exact ops.takeKeyFix running noReset tag
  case keyWithdraw => exact ops.takeKeyWithdraw running noReset tag _

/-! ### Completions of writes -/

/-- An operation of the unit controller leaves the key table at none (R160). -/
theorem State.OpsAgree.no_progress_of (ops : s.OpsAgree) {op : NvOp} (registered : s.unit.op = some op) (own : op.ofKeys = false) :
    s.keys.op = none :=
  ops.no_progress (by rw [registered, Option.filter_some, own]; rfl)

theorem State.OpsAgree.takeOpenWrite (ops : s.OpsAgree) (outcome : WriteOutcome) : (s.takeOpenWrite outcome).OpsAgree := by
  unfold State.takeOpenWrite
  split
  · rename_i tag serial given w op _
    have keys := ops.no_progress_of op rfl
    have blank : s.unit.phase = .blank := by simpa [UnitPhase.suits, op] using ops.phase
    dsimp only
    split
    · exact .idle (by simp [State.enterOpen]) (by simpa using keys) (by simp) (by simp [State.enterOpen])
    · exact .idle (by simp) (by simpa using keys) (by simp) (by simp [blank])
  · exact ops

/-- The commit's next write, in the same phase; the write of the mark CLOSED has none (R168). -/
theorem State.commitNext_agrees {tag : Byte} {step : CommitStep} (unfinished : ∀ identity, step ≠ .closedMark identity)
    (closing : s.unit.phase = .closing) (keys : s.keys.op = none) (noReset : s.unit.resetPending = false) (running : s.power = .running) :
    (s.commitNext tag step).OpsAgree := by
  have begun : ∀ {u : State} {next : CommitStep}, u.unit = (s.commitAt tag next).unit → u.keys = s.keys → u.nv.write.isSome = true →
      u.power = s.power → u.OpsAgree := fun {u next} unit key write power =>
    .busy (op := .commit tag next) (by rw [unit]; rfl) (by rw [key, keys]; rfl) (by rw [unit]; exact closing) write (by rw [unit]; exact noReset)
      (power.trans running)
  cases step with
  | closedMark identity => exact absurd rfl (unfinished identity)
  | closingMark | gridRecord | regionRecord | tuningRecord => exact begun rfl rfl rfl rfl

theorem State.OpsAgree.takeCommitWrite (ops : s.OpsAgree) (outcome : WriteOutcome) : (s.takeCommitWrite outcome).OpsAgree := by
  unfold State.takeCommitWrite
  split
  · rename_i tag step w op _
    have keys := ops.no_progress_of op rfl
    obtain ⟨closing, running⟩ := ops.commit op
    dsimp only
    split
    · split
      · exact .idle (by simp [State.replyClosed, State.completeCommit]) (by simpa using keys) (by simp)
          (by simp [State.replyClosed, State.completeCommit])
      · rename_i unfinished
        exact State.commitNext_agrees unfinished closing keys (ops.no_reset (by simp [op])) running
    · exact .idle (by simp [State.failCommit]) (by simpa using keys) (by simp) (by simp [State.failCommit])
  · exact ops

theorem State.OpsAgree.takeReopenWrite (ops : s.OpsAgree) (outcome : WriteOutcome) : (s.takeReopenWrite outcome).OpsAgree := by
  unfold State.takeReopenWrite
  split
  · rename_i tag w op _
    have keys := ops.no_progress_of op rfl
    have closed : s.unit.phase = .closed := by simpa [UnitPhase.suits, op] using ops.phase
    dsimp only
    split
    · exact .idle (by simp [State.completeReopen]) (by simpa using keys) (by simp) (by simp [State.completeReopen])
    · exact .idle (by simp) (by simpa using keys) (by simp) (by simp [closed])
  · exact ops

/-- A key table's progress stands on its operation, registered in a running part in OPEN (R136, R139). -/
theorem State.OpsAgree.fixing (ops : s.OpsAgree) {tag : Byte} {count n start : Nat} {step : FixStep}
    (progress : s.keys.op = some (.fix tag count n step start)) : s.Fixing :=
  have op := ops.of_keys progress
  ⟨op, ops.opened_of_keys progress, ops.no_reset (by simp [op]), ops.running (by simp [op])⟩

/-- A verified step begins the next write, or the next key, or ends the operation (R137). -/
theorem State.Fixing.fixVerified (h : s.Fixing) (idle : s.nv.write = none) (tag : Byte) (count n : Nat) (e : KeyEntry) (step : FixStep)
    (start : Nat) : (s.fixVerified tag count n e step start).OpsAgree := by
  have fixing : ∀ keys, (s.setKeys keys).Fixing := fun _ => ⟨h.op, h.opened, h.noReset, h.running⟩
  cases step with
  | spaceWord => exact (fixing _).beginFixStep ..
  | header | body => exact h.beginFixStep ..
  | mark => exact (fixing (s.keys.put n (some (e.asFixed start)))).nextFixKey idle ..

/-- After a failed write the key table is at no operation (R138). -/
theorem KeyTable.fixFailed_op (k : KeyTable) (step : FixStep) (start : Nat) (area : List Host.Cell) :
    (k.fixFailed step start area).op = none := by
  unfold KeyTable.fixFailed
  dsimp only
  (repeat' split) <;> rfl

theorem State.OpsAgree.takeFixWrite (ops : s.OpsAgree) (outcome : WriteOutcome) : (s.takeFixWrite outcome).OpsAgree := by
  unfold State.takeFixWrite
  split
  · rename_i tag count n step start w progress _
    obtain ⟨op, opened, noReset, running⟩ := ops.fixing progress
    have ended : (s.setNv (s.nv.endWrite outcome)).Fixing := ⟨op, opened, noReset, running⟩
    split
    · dsimp only
      split
      · exact ended.fixVerified (by simp) ..
      · exact .idle (by simp [State.failFix]) (by simp [State.failFix, KeyTable.fixFailed_op]) (by simp) (by simp [State.failFix, opened])
    · exact ops
  · exact ops

theorem State.OpsAgree.takeWithdrawWrite (ops : s.OpsAgree) (outcome : WriteOutcome) : (s.takeWithdrawWrite outcome).OpsAgree := by
  unfold State.takeWithdrawWrite
  split
  · rename_i progress _
    split
    · exact .idle (by simp) (by simp) (by simp) (by simp [ops.opened_of_keys progress])
    · exact ops
  · exact ops

/-! ### Every command -/

theorem State.stepRow_still (s : State) : s.stepRow.nv = s.nv ∧ s.stepRow.power = s.power := by
  unfold State.stepRow
  split
  · exact ⟨rfl, rfl⟩
  · dsimp only
    split <;> simp [State.takeCount_frame]

theorem State.OpsAgree.event (ops : s.OpsAgree) {c : Instr} (event : s.Event c t) : t.OpsAgree := by
  cases event with
  | frameStart => exact ops.congr (by simp) (by simp) (by simp) (by simp)
  | gapExpiry => exact ops.congr (by simp) (by simp) (by simp) (by simp)
  | tick => exact ops.congr (by simp) (by simp) (by simp) (by simp)
  | trimSent => exact ops.congr (by simp) (by simp) (by simp) (by simp)
  | progress => exact ops.congr (by simp) (by simp) (by simp) (by simp)
  | marker => exact ops.congr (by simp) (by simp) (by simp) (by simp)
  | count =>
    obtain ⟨-, unit⟩ := s.stepRow_region_unit
    obtain ⟨nv, power⟩ := s.stepRow_still
    exact ops.congr unit power (by rw [s.stepRow_keys]) (by rw [nv])
  | openWrite outcome => exact ops.takeOpenWrite outcome
  | commitWrite outcome => exact ops.takeCommitWrite outcome
  | reopenWrite outcome => exact ops.takeReopenWrite outcome
  | fixWrite outcome => exact ops.takeFixWrite outcome
  | withdrawWrite outcome => exact ops.takeWithdrawWrite outcome

theorem exec_keeps_opsAgree {c : Instr} (run : exec c s = .next t) (ops : s.OpsAgree) : t.OpsAgree := by
  cases exec_cases run with
  | nothing => exact ops
  | reset source cut command => exact .idle rfl rfl (by simp [State.takeReset, State.volatileReset]) nofun
  | startup cause held command =>
    obtain ⟨-, -, -, -, nv, keys, op, -⟩ := s.startedUp_idle cause
    exact .idle op keys (by rw [nv]; exact ops.no_write (ops.held (by simp [held]))) (s.startedUp_phase cause)
  | requestedReset p running due command => exact State.OpsAgree.arbitrate (.idle rfl rfl rfl nofun)
  | ports u running only =>
    obtain ⟨power, -, -, -, -, -, -, -, keys, -, unit, nv, -⟩ := only.blocks
    exact State.OpsAgree.arbitrate (ops.congr unit power (by rw [keys]) (by rw [nv]))
  | request u p tag r running taken =>
    obtain ⟨power, -, -, -, -, -, -, -, keys, -, unit, nv, -⟩ := taken.same.blocks
    have arrived : u.OpsAgree := ops.congr unit power (by rw [keys]) (by rw [nv])
    exact (arrived.takeRequest (power.trans running) (by rw [unit]; exact taken.noReset) p tag r).arbitrate
  | event u running event => exact (ops.event event).arbitrate

/-- Every step leaves the operation, the key table's progress, the write in flight, the phase and a pending reset in agreement. -/
theorem step_keeps_opsAgree (run : step s = .next t) (ops : s.OpsAgree) : t.OpsAgree := by
  obtain ⟨-, rfl⟩ | ⟨c, rest, -, run⟩ := step_cases run
  · exact ops
  · exact exec_keeps_opsAgree run (ops.congr (t := s.setPending rest) rfl rfl rfl rfl)

end

end Sys2Proof.Machine

/-! SUPPORT. The replies owed on the station port (R178): a count of what waits in the reply queue and what the owners of rows, held requests
and the operation in flight still owe, and what each operation of grid memory, the region unit and the intake adds to it. -/

namespace Sys2Proof.Machine
open Sys2Proof

/-- What waits in the station port's reply queue together with what is owed there. -/
def State.due (s : State) : Nat := s.station.replies.length + s.owed

/-- From the one state to the other `n` replies more have come due, the held requests have kept their places, and the system port is
untouched. -/
structure State.Passes (s t : State) (n : Nat) : Prop where
  due : t.due = s.due + n
  held : s.grid.heldRequests ≤ 4 → t.grid.heldRequests ≤ 4
  system : t.system = s.system

section
variable {s t u : State} {n : Nat}

theorem State.Passes.refl (s : State) : s.Passes s 0 := ⟨rfl, id, rfl⟩

/-- What leaves the reply queue, the rows, the held requests and the operation in flight brings nothing due. -/
theorem State.Passes.to (h : s.Passes t n) (replies : u.station.replies = t.station.replies := by simp)
    (rows : u.intake.occupancy = t.intake.occupancy := by simp) (held : u.grid.heldRequests = t.grid.heldRequests := by simp)
    (op : u.unit.op.isSome = t.unit.op.isSome := by simp) (system : u.system = t.system := by simp) : s.Passes u n :=
  ⟨by rw [← h.due, State.due, State.due, State.owed, State.owed, replies, rows, held, op], by rw [held]; exact h.held,
    system.trans h.system⟩

/-- A reply comes due as it joins the queue (R180). -/
theorem State.Passes.reply (h : s.Passes t n) (kind tag : Byte) (status : Status) (fields : List Byte) :
    s.Passes (t.reply .station kind tag status fields) (n + 1) := by
  refine ⟨?_, by simpa using h.held, by simpa using h.system⟩
  have due := h.due
  simp only [State.due, State.owed, State.reply_frame, State.reply_station, List.length_append, List.length_singleton] at due ⊢
  omega

theorem State.Passes.report (h : s.Passes t n) (kind : Byte) (payload : List Byte) : s.Passes (t.report kind payload) n := h.to

/-! ### What grid memory holds, and the next row (R13, R55) -/

theorem State.takeHeldItem_replies (s : State) (item : HeldItem) :
    (s.takeHeldItem item).station.replies.length = s.station.replies.length + (if item.isRequest then 1 else 0) := by
  cases item with
  | setAims => simp [State.takeHeldItem, State.takeAims, HeldItem.isRequest]
  | setPin => simp [State.takeHeldItem, State.takePinReplying, HeldItem.isRequest]
  | ceiling => rfl

/-- Taking an item that was not held passes the reply of a request, and no more for a region change (R13). -/
theorem State.Passes.takeHeldItem (h : s.Passes t n) (item : HeldItem) :
    s.Passes (t.takeHeldItem item) (n + if item.isRequest then 1 else 0) := by
  have held : (t.takeHeldItem item).grid.heldRequests = t.grid.heldRequests := by
    rw [Grid.heldRequests, State.takeHeldItem_held, Grid.heldRequests]
  refine ⟨?_, by rw [held]; exact h.held, by simpa using h.system⟩
  have due := h.due
  have replies := t.takeHeldItem_replies item
  simp only [State.due, State.owed, State.takeHeldItem_frame, held] at due replies ⊢
  omega

/-- Every held request is replied as what is held is taken (R13). -/
theorem State.takeHeld_replies (s : State) : s.takeHeld.station.replies.length = s.station.replies.length + s.grid.heldRequests := by
  have all : ∀ (items : List HeldItem) (u : State),
      (items.foldl State.takeHeldItem u).station.replies.length = u.station.replies.length + items.countP HeldItem.isRequest := by
    intro items
    induction items with
    | nil => exact fun u => rfl
    | cons item rest ih =>
      intro u
      rw [List.foldl_cons, ih, u.takeHeldItem_replies, List.countP_cons]
      omega
  exact all _ _

/-- What is held was owed, and is replied. -/
theorem State.Passes.takeHeld (h : s.Passes t n) : s.Passes t.takeHeld n := by
  have none : t.takeHeld.grid.heldRequests = 0 := by rw [Grid.heldRequests, State.takeHeld_held]; rfl
  refine ⟨?_, by rw [none]; exact fun _ => Nat.zero_le 4, by simpa using h.system⟩
  have due := h.due
  have replies := t.takeHeld_replies
  simp only [State.due, State.owed, State.takeHeld_frame, none] at due replies ⊢
  omega

/-- A row that begins leaves the queue for the engine (R55). -/
theorem State.beginRow_occupancy (idle : s.intake.inProcess = none) : s.beginRow.intake.occupancy = s.intake.occupancy := by
  unfold State.beginRow
  split
  · rfl
  · rename_i row rest waiting
    simp [Intake.occupancy, idle, waiting]

theorem State.Passes.beginRow (h : s.Passes t n) (idle : t.intake.inProcess = none) : s.Passes t.beginRow n :=
  h.to (rows := State.beginRow_occupancy idle)

theorem State.Passes.advanceRows (h : s.Passes t n) : s.Passes t.advanceRows n := by
  unfold State.advanceRows
  split
  · exact h
  · rename_i idle
    exact h.takeHeld.beginRow (by simpa using idle)

/-- A request of grid memory is replied, or owed while it is held (R13). -/
theorem State.Passes.takeOrHold (h : s.Passes t n) (kind tag : Byte) {item : HeldItem} (request : item.isRequest = true) :
    s.Passes (t.takeOrHold kind tag item) (n + 1) := by
  obtain ⟨-, e⟩ | ⟨-, room, e⟩ | ⟨-, -, e⟩ := t.takeOrHold_cases kind tag item <;> rw [e]
  · simpa [request] using h.takeHeldItem item
  · have held : Grid.heldRequests { t.grid with held := t.grid.held ++ [item] } = t.grid.heldRequests + 1 := by
      simp [Grid.heldRequests, List.countP_append, request]
    refine ⟨?_, fun _ => ?_, h.system⟩
    · have due : t.station.replies.length + (t.intake.occupancy + t.grid.heldRequests + (if t.unit.op.isSome then 1 else 0)) = _ := h.due
      show t.station.replies.length + (t.intake.occupancy + Grid.heldRequests { t.grid with held := t.grid.held ++ [item] } +
        (if t.unit.op.isSome then 1 else 0)) = _
      omega
    · rw [State.setGrid_grid, held]
      exact room
  · exact h.reply ..

/-! ### The region unit (R113, R115 to R117) -/

/-- A settling adds no request to what is held (R13, R115). -/
theorem State.settleCurrent_heldRequests (s : State) : s.settleCurrent.grid.heldRequests = s.grid.heldRequests := by
  obtain e | ⟨limit, ⟨-, e⟩ | ⟨-, e⟩⟩ := s.settleCurrent_grid <;> rw [e]
  · rfl
  · exact holdCeiling_requests limit s.grid.held

theorem State.Passes.settleCurrent (h : s.Passes t n) : s.Passes t.settleCurrent n :=
  h.to (replies := by rw [State.settleCurrent, State.recomputeUnknown_replies]; simp) (held := t.settleCurrent_heldRequests)

theorem State.Passes.settleRegion (h : s.Passes t n) : s.Passes t.settleRegion n :=
  h.settleCurrent.to (replies := State.recomputeConflict_replies) (rows := by simp [State.settleRegion])
    (held := by rw [State.settleRegion_grid]) (op := by simp [State.settleRegion]) (system := by simp [State.settleRegion])

theorem State.Passes.writeGiven (h : s.Passes t n) (given : Nat) : s.Passes (t.writeGiven given) n :=
  State.Passes.settleRegion (t := t.setRegion { t.region with given := given }) h.to

/-! ### Restarts (R16) -/

/-- The rows a restart discards leave the intake (R57). -/
theorem Intake.without_occupancy (i : Intake) (scope : RestartScope) :
    (i.without scope).occupancy + (i.discarded scope).length = i.occupancy := by
  have queue := List.length_eq_length_filter_add (l := i.queue) (fun r => scope.covers r.slice)
  cases row : i.inProcess with
  | none =>
    simp [Intake.occupancy, Intake.without, Intake.discarded, row] at queue ⊢
    omega
  | some r =>
    cases covered : scope.covers r.row.slice <;>
      simp [Intake.occupancy, Intake.without, Intake.discarded, row, covered] at queue ⊢ <;> omega

/-- The rows a restart discards were owed, and are replied (R57). -/
theorem State.Passes.restart (h : s.Passes t n) (scope : RestartScope) : s.Passes (t.restart scope) n := by
  obtain ⟨grid, -, intake, station⟩ := t.restart_parts scope
  have held : (t.restart scope).grid.heldRequests = t.grid.heldRequests := by rw [grid]; rfl
  refine ⟨?_, by rw [held]; exact h.held, by simpa using h.system⟩
  have due := h.due
  have rows := t.intake.without_occupancy scope
  simp only [State.due, State.owed, held, intake, station, State.restart_frame, List.length_append, List.length_map] at due rows ⊢
  omega

theorem State.Passes.restartReplying (h : s.Passes t n) (kind tag : Byte) (scope : RestartScope) :
    s.Passes (t.restartReplying kind tag scope) (n + 1) := ((h.restart scope).reply ..).advanceRows

/-! ### Counts and completions (R23, R25) -/

theorem State.Passes.takeCount (h : s.Passes t n) (r : RowInProcess) : s.Passes (t.takeCount r).1 n := by
  obtain ⟨intake, held, -⟩ := t.takeCount_rows r
  obtain ⟨-, -, unit⟩ := t.takeCount_frame r
  have ports : (t.takeCount r).1.station = t.station ∧ (t.takeCount r).1.system = t.system := by
    unfold State.takeCount State.takeWhiteCount State.takeColourCount
    dsimp only
    split <;> simp
  exact h.to (by rw [ports.1]) (by rw [intake]) (by rw [Grid.heldRequests, held, Grid.heldRequests]) (by rw [unit]) ports.2

/-- A row that completes is replied (R25, R60). -/
theorem State.Passes.completeRow (h : s.Passes t n) (row : t.intake.inProcess.isSome = true) (r : RowInProcess) :
    s.Passes (t.completeRow r) n := by
  have freed : ∀ (status : Status) (fields : List Byte) (q : Sequencer), s.Passes
      (((t.reply .station kindMeasure r.row.frameTag status fields).setSeq q).setIntake { t.intake with inProcess := none }) n := by
    intro status fields q
    refine ⟨?_, by simpa using h.held, by simpa using h.system⟩
    have due := h.due
    simp [State.due, State.owed, Intake.occupancy, row] at due ⊢
    omega
  unfold State.completeRow
  dsimp only
  split
  · exact (freed .ok _ _).takeHeld
  · exact (freed .ok _ _).advanceRows

theorem State.Passes.stepRow (h : s.Passes t n) : s.Passes t.stepRow n := by
  unfold State.stepRow
  split
  · exact h
  · rename_i r row
    have counted := h.takeCount r
    obtain ⟨intake, -⟩ := t.takeCount_rows r
    dsimp only
    split
    · exact counted.completeRow (by rw [intake, row]; rfl) _
    · exact counted.to (rows := by simp [Intake.occupancy, intake, row])

end

end Sys2Proof.Machine

/-! SUPPORT. Frame boundaries, input lock and markers send reports alone: no reply joins a queue, and no request is held (R90, R121 to R125,
R182). -/

namespace Sys2Proof.Machine
open Sys2Proof

section
variable (s : State)

/-! ### Frame boundaries and input lock (4.4, 4.5) -/

theorem State.endPatch_replies (p : Patch) (reason : EndReason) : (s.endPatch p reason).station.replies = s.station.replies := by
  unfold State.endPatch State.endRun State.reportStopped State.reportDone
  dsimp only
  (repeat' split) <;> simp

@[simp] theorem State.frameBoundary_replies : s.frameBoundary.station.replies = s.station.replies := by
  have boundary : s.frameBoundary.station = s.sequencerBoundary.station := by simp [State.frameBoundary]
  rw [boundary]
  have does := s.sequencerBoundary_cases
  generalize s.sequencerBoundary = u at does ⊢
  cases does with
  | nothing => rfl
  | listEmpty => simp [State.reportStopped]
  | begins => rfl
  | ends => exact State.endPatch_replies ..
  | counts => rfl
  | ready => simp

@[simp] theorem State.markerLost_replies : s.markerLost.station.replies = s.station.replies := by
  simp [State.markerLost, State.reportMarker]

@[simp] theorem State.loseLock_replies : s.loseLock.station.replies = s.station.replies := by
  unfold State.loseLock State.choose State.switchToInternal State.reportInput
  dsimp only
  (repeat' split) <;> simp

@[simp] theorem State.takeTotals_replies (totals : Nat × Nat) : (s.takeTotals totals).station.replies = s.station.replies := by
  unfold State.takeTotals State.matchTotals State.reportInput
  dsimp only
  (repeat' split) <;> simp

@[simp] theorem State.takeFrameStart_replies (totals : Nat × Nat) : (s.takeFrameStart totals).station.replies = s.station.replies := by
  unfold State.takeFrameStart State.returnToInput
  dsimp only
  (repeat' split) <;> simp

@[simp] theorem State.takeGapExpiry_replies : s.takeGapExpiry.station.replies = s.station.replies := by
  unfold State.takeGapExpiry
  dsimp only
  (repeat' split) <;> simp

@[simp] theorem State.takeTick_replies : s.takeTick.station.replies = s.station.replies := by
  unfold State.takeTick
  split <;> simp

@[simp] theorem State.progressExpiry_replies : s.progressExpiry.station.replies = s.station.replies := by
  unfold State.progressExpiry
  dsimp only
  (repeat' split) <;> simp

/-- The rows are those before: a boundary and the progress timer touch the timer's field of the intake alone (R64). -/
theorem State.frameBoundary_occupancy : s.frameBoundary.intake.occupancy = s.intake.occupancy := by
  rw [Intake.occupancy, s.frameBoundary_queue, s.frameBoundary_inProcess, Intake.occupancy]

theorem State.takeFrameStart_occupancy (totals : Nat × Nat) : (s.takeFrameStart totals).intake.occupancy = s.intake.occupancy := by
  obtain ⟨u, e, -, -, -, -, intake, -⟩ := s.takeFrameStart_cases totals
  rcases e with e | e <;> rw [e]
  · rw [intake]
  · rw [u.frameBoundary_occupancy, intake]

theorem State.takeTick_occupancy : s.takeTick.intake.occupancy = s.intake.occupancy := by
  unfold State.takeTick
  split
  · rfl
  · exact s.frameBoundary_occupancy

theorem State.progressExpiry_occupancy : s.progressExpiry.intake.occupancy = s.intake.occupancy := by
  have rows : s.progressExpiry.intake.queue = s.intake.queue ∧ s.progressExpiry.intake.inProcess = s.intake.inProcess := by
    unfold State.progressExpiry
    dsimp only
    (repeat' split) <;> simp
  rw [Intake.occupancy, rows.1, rows.2, Intake.occupancy]

/-! ### Markers (R121 to R125) -/

/-- A marker moves SENSED, and with it CURRENT, at most: it sends reports, and holds a region change beside a row in process (R13, R123). -/
theorem State.takeMarkerRead_owes (pixels : List Pixel) :
    (s.takeMarkerRead pixels).station.replies = s.station.replies ∧
      (s.takeMarkerRead pixels).grid.heldRequests = s.grid.heldRequests := by
  have presence : ∀ (u : State) (m : Marker), (u.markerPresence m).station.replies = u.station.replies := fun u m => by
    unfold State.markerPresence State.reportMarker
    dsimp only
    split <;> simp
  have sensed : ∀ (u : State) (m : Marker), (u.senseCode m).station.replies = u.station.replies ∧
      (u.senseCode m).grid.heldRequests = u.grid.heldRequests := fun u m => by
    unfold State.senseCode State.reportMarker
    rw [State.settleRegion_replies, State.settleRegion_grid, State.settleCurrent_heldRequests]
    simp
  have region : ∀ (u : State) (m : Marker), (u.markerRegion m).station.replies = u.station.replies ∧
      (u.markerRegion m).grid.heldRequests = u.grid.heldRequests := fun u m => by
    unfold State.markerRegion
    dsimp only
    split
    · simpa using sensed u m
    · simp
  have identity : ∀ (u : State) (m : Marker), (u.markerIdentity m).station.replies = u.station.replies := fun u m => by
    unfold State.markerIdentity State.takeIdentity State.reportMarker
    (repeat' split) <;> simp
  obtain e | ⟨m, e⟩ | e := s.takeMarkerRead_cases pixels <;> rw [e]
  · exact ⟨rfl, rfl⟩
  · rw [State.markerAccepted, identity, (State.markerIdentity_frame _ m).2.1, (region _ m).1, (region _ m).2, presence]
    simp
  · unfold State.markerMissed
    (repeat' split) <;> simp

end

end Sys2Proof.Machine

/-! SUPPORT. The replies owed on the station port through requests, completions of writes and every command (R178): a request brings one
reply due, an event none. -/

namespace Sys2Proof.Machine
open Sys2Proof

section
variable {s t u : State} {n : Nat}

/-! ### Requests -/

/-- A request that moves neither grid memory nor an operation is replied at once (R180). -/
theorem State.takeRequest_replied (s : State) (tag : Byte) {r : Request} (grid : movesGrid r = false) (unit : movesUnit r = false)
    (onStation : r.kind ≠ 0x03) :
    (s.takeRequest .station tag r).station.replies.length = s.station.replies.length + 1 ∧
      (s.takeRequest .station tag r).system = s.system := by
  cases r <;> simp only [movesGrid, movesUnit, Bool.true_eq_false] at grid unit
  case keyFetch => exact absurd rfl onStation
  all_goals
    simp only [State.takeRequest, State.takeStatus, State.takeReadRegion, State.takePartReset, State.takeReadNodes, State.takeReadZones,
      State.takeArm, State.takeDisarm, State.takeStart, State.takeStop, State.takeHalt, State.takeAdvance, State.replySeq,
      State.takePatchAppend, State.takePatchClear, State.takeKeyBegin, State.takeKeyChunk, State.reportKeyState, State.takeKeyDiscard,
      State.takeKeyList, State.takeSetCheck, State.takeEvaluate, State.refuse]
    (repeat' split) <;> simp

theorem State.Passes.takeMeasure (h : s.Passes t n) (tag patchTag row : Byte) (counts : List Half) :
    s.Passes (t.takeMeasure tag patchTag row counts) (n + 1) := by
  have queued : ∀ (q : Sequencer) (accepted : Row),
      s.Passes ((t.setSeq q).setIntake { t.intake with queue := t.intake.queue ++ [accepted] }) (n + 1) := by
    intro q accepted
    refine ⟨?_, h.held, h.system⟩
    have due : t.station.replies.length + (t.intake.queue.length + (if t.intake.inProcess.isSome then 1 else 0) + t.grid.heldRequests +
      (if t.unit.op.isSome then 1 else 0)) = _ := h.due
    have joined : (t.intake.queue ++ [accepted]).length = t.intake.queue.length + 1 := by simp
    show t.station.replies.length + ((t.intake.queue ++ [accepted]).length + (if t.intake.inProcess.isSome then 1 else 0) +
      t.grid.heldRequests + (if t.unit.op.isSome then 1 else 0)) = _
    omega
  unfold State.takeMeasure
  (repeat' split)
  all_goals first
    | exact h.reply ..
    | exact (queued _ _).advanceRows

theorem State.Passes.setMode (h : s.Passes t n) (mode : ApplierMode) : s.Passes (t.setMode mode) n := h.to

theorem State.Passes.enterOpen (h : s.Passes t n) (given : Nat) : s.Passes (t.enterOpen given) n := by
  have opened : s.Passes (t.setUnit { t.unit with phase := .opened }) n := h.to
  exact ((opened.writeGiven given).restart .all).setMode .working

/-- An operation that is registered beside none owes its one reply (R158, R165). -/
theorem State.Passes.registered (h : s.Passes t n) (free : t.unit.op = none) (op : u.unit.op.isSome = true)
    (replies : u.station.replies = t.station.replies := by simp) (rows : u.intake.occupancy = t.intake.occupancy := by simp)
    (held : u.grid.heldRequests = t.grid.heldRequests := by simp) (system : u.system = t.system := by simp) : s.Passes u (n + 1) := by
  refine ⟨?_, by rw [held]; exact h.held, system.trans h.system⟩
  have due := h.due
  simp only [State.due, State.owed, free, op, replies, rows, held, Option.isSome_none, Bool.false_eq_true, if_true, if_false] at due ⊢
  omega

/-- An operation that ends no longer owes its reply. -/
theorem State.Passes.freed (h : s.Passes t n) (busy : t.unit.op.isSome = true) (op : u.unit.op = none)
    (replies : u.station.replies = t.station.replies := by simp) (rows : u.intake.occupancy = t.intake.occupancy := by simp)
    (held : u.grid.heldRequests = t.grid.heldRequests := by simp) (system : u.system = t.system := by simp)
    {v : State} (next : u.Passes v 1) : s.Passes v n := by
  refine ⟨?_, fun before => next.held (by rw [held]; exact h.held before), next.system.trans (system.trans h.system)⟩
  have due := h.due
  have paid := next.due
  simp only [State.due, State.owed, busy, op, replies, rows, held, Option.isSome_none, Bool.false_eq_true, if_true, if_false] at due paid ⊢
  omega

theorem State.Passes.takeOpen (h : s.Passes t n) (tag : Byte) (given : Half) (serial : List Byte) :
    s.Passes (t.takeOpen tag given serial) (n + 1) := by
  unfold State.takeOpen
  split
  · exact h.reply ..
  split
  · exact h.reply ..
  split
  · exact h.reply ..
  rename_i free
  split
  · exact h.registered (by simpa using free) (by simp)
  split
  · exact h.reply ..
  · exact (h.enterOpen _).reply ..

theorem State.Passes.takeClose (h : s.Passes t n) (tag : Byte) : s.Passes (t.takeClose tag) (n + 1) := by
  unfold State.takeClose
  split
  · exact h.reply ..
  · rename_i granted
    obtain ⟨-, free, -⟩ := State.closeRefusal_none_iff.mp granted
    exact h.registered free rfl (by simp [State.beginCommit, State.recomputeUnknown_replies])
      (by simp [State.beginCommit]) (by simp [State.beginCommit]) (by simp [State.beginCommit])

theorem State.Passes.takeReopen (h : s.Passes t n) (tag : Byte) : s.Passes (t.takeReopen tag) (n + 1) := by
  unfold State.takeReopen
  split
  · exact h.reply ..
  split
  · exact h.reply ..
  rename_i free
  split
  · exact h.reply ..
  · exact h.registered (by simpa using free) (by simp)

/-- The next key's first write leaves the operation owing its reply, and the end of the operation replies (R137). -/
theorem State.Passes.nextFixKey (h : s.Passes t n) (busy : t.unit.op.isSome = true) (tag : Byte) (count : Nat) :
    s.Passes (t.nextFixKey tag count) n := by
  unfold State.nextFixKey
  split
  · split
    · exact h.to (op := rfl)
    · exact h
  · exact h.freed busy (u := (t.setKeys { t.keys with op := none }).setUnit { t.unit with op := none }) rfl
      (next := (State.Passes.refl _).reply ..)

theorem State.Passes.takeKeyFix (h : s.Passes t n) (tag : Byte) : s.Passes (t.takeKeyFix tag) (n + 1) := by
  unfold State.takeKeyFix
  split
  · exact h.reply ..
  split
  · exact h.reply ..
  rename_i free
  split
  · exact h.reply ..
  split
  · exact h.reply ..
  · have fixing : s.Passes ((t.setKeys { t.keys with entries := t.keys.fixSet }).setUnit { t.unit with op := some .keyFix }) (n + 1) :=
      h.registered (by simpa using free) rfl
    exact fixing.nextFixKey rfl tag 0

theorem State.Passes.takeKeyWithdraw (h : s.Passes t n) (tag : Byte) (id : Half) : s.Passes (t.takeKeyWithdraw tag id) (n + 1) := by
  unfold State.takeKeyWithdraw
  split
  · exact h.reply ..
  split
  · exact h.reply ..
  split
  · exact h.reply ..
  split
  · exact h.reply ..
  split
  · exact h.reply ..
  · rename_i free
    exact h.registered (by simpa using free) rfl

/-- A request that the station port takes brings exactly one reply due, now or later (R178, R180). -/
theorem State.takeRequest_passes (s : State) (tag : Byte) {r : Request} (onStation : r.kind ≠ 0x03) :
    s.Passes (s.takeRequest .station tag r) 1 := by
  have h := State.Passes.refl s
  by_cases apart : movesGrid r = false ∧ movesUnit r = false
  · obtain ⟨grid, unit⟩ := apart
    obtain ⟨replies, system⟩ := s.takeRequest_replied tag grid unit onStation
    obtain ⟨grid, intake⟩ := s.takeRequest_keepsGrid .station tag grid
    obtain ⟨-, -, -, op⟩ := s.takeRequest_keepsUnit .station tag unit
    refine ⟨?_, by rw [grid]; exact id, system⟩
    simp only [State.due, State.owed, replies, grid, intake, op]
    omega
  cases r <;> simp [movesGrid, movesUnit] at apart
  case openUnit => exact h.takeOpen ..
  case close => exact h.takeClose tag
  case reopen => exact h.takeReopen tag
  case keyFix => exact h.takeKeyFix tag
  case keyWithdraw => exact h.takeKeyWithdraw ..
  case measure => exact h.takeMeasure ..
  case setTuning f =>
    have retuned : s.Passes (s.retune (tuningGiven f).clamped) 0 := h.to (held := rfl)
    simp only [State.takeRequest, State.takeSetTuning]
    (repeat' split)
    · exact h.reply ..
    · exact h.reply ..
    · exact retuned.reply ..
  case setLevels codes =>
    have levelled : s.Passes (s.setGrid { s.grid with levels := codes.map (·.toNat) }) 0 := h.to (held := rfl)
    simp only [State.takeRequest, State.takeSetLevels]
    (repeat' split)
    · exact h.reply ..
    · exact h.reply ..
    · exact h.reply ..
    · exact levelled.restartReplying ..
  case setAims =>
    simp only [State.takeRequest, State.takeSetAims]
    split
    · exact h.reply ..
    · exact h.takeOrHold _ _ rfl
  case setPin =>
    simp only [State.takeRequest, State.takeSetPin]
    (repeat' split)
    · exact h.reply ..
    · exact h.reply ..
    · exact h.takeOrHold _ _ rfl
  case gridRestart =>
    simp only [State.takeRequest, State.takeGridRestart]
    (repeat' split)
    · exact h.reply ..
    · exact h.reply ..
    · exact h.reply ..
    · exact h.restartReplying ..
  case loadProfile slot f =>
    have loaded : s.Passes (s.setRegion { s.region with slots := s.region.slots.set slot.toNat (some (profileGiven f)) }) 0 := h.to
    simp only [State.takeRequest, State.takeLoadProfile]
    (repeat' split)
    · exact h.reply ..
    · exact h.reply ..
    · exact h.reply ..
    · exact h.reply ..
    · exact loaded.settleCurrent.reply ..
  case setRegion =>
    simp only [State.takeRequest, State.takeSetRegion]
    (repeat' split)
    all_goals first
      | exact h.reply ..
      | exact (h.writeGiven _).reply ..

/-- A request that the system port serves is replied there at once, and does nothing else (R126, R144, R184). -/
theorem State.takeRequest_system (s : State) (tag : Byte) {r : Request} (served : r.kind ∈ systemKinds) :
    ∃ kind status fields, s.takeRequest .system tag r = s.reply .system kind tag status fields := by
  cases r <;> simp [systemKinds, Request.kind] at served
  case status => exact ⟨_, _, _, rfl⟩
  case readRegion => exact ⟨_, _, _, rfl⟩
  case keyFetch =>
    simp only [State.takeRequest, State.takeKeyFetch]
    (repeat' split) <;> exact ⟨_, _, _, rfl⟩

/-! ### Completions of writes -/

theorem State.Passes.takeOpenWrite (h : s.Passes t n) (outcome : WriteOutcome) : s.Passes (t.takeOpenWrite outcome) n := by
  unfold State.takeOpenWrite
  split
  · rename_i tag serial given w op _
    dsimp only
    split
    · exact h.freed (by simp [op]) (u := (t.setNv (t.nv.endWrite outcome)).setUnit { t.unit with serial := some serial, op := none }) rfl
        (next := ((State.Passes.refl _).enterOpen given).reply ..)
    · exact h.freed (by simp [op]) (u := (t.setNv (t.nv.endWrite outcome)).setUnit { t.unit with op := none }) rfl
        (next := (State.Passes.refl _).reply ..)
  · exact h

theorem State.commitNext_busy (s : State) (tag : Byte) (step : CommitStep) (busy : s.unit.op.isSome = true) :
    (s.commitNext tag step).unit.op.isSome = true := by
  cases step with
  | closedMark identity => exact busy
  | closingMark | gridRecord | regionRecord | tuningRecord => rfl

theorem State.Passes.takeCommitWrite (h : s.Passes t n) (outcome : WriteOutcome) : s.Passes (t.takeCommitWrite outcome) n := by
  unfold State.takeCommitWrite
  split
  · rename_i tag step w op _
    dsimp only
    split
    · split
      · rename_i identity
        exact h.freed (by simp [op]) (u := (t.setNv (t.nv.endWrite outcome)).completeCommit identity) rfl
          (next := (State.Passes.refl _).reply ..)
      · have busy := State.commitNext_busy (t.setNv (t.nv.endWrite outcome)) tag step (by simp [op])
        exact h.to (op := by rw [busy]; simp [op])
    · exact h.freed (by simp [op]) (u := (t.setNv (t.nv.endWrite outcome)).setUnit { t.unit with phase := .opened, op := none }) rfl
        (next := (State.Passes.refl _).settleCurrent.reply ..)
  · exact h

theorem State.Passes.takeReopenWrite (h : s.Passes t n) (outcome : WriteOutcome) : s.Passes (t.takeReopenWrite outcome) n := by
  unfold State.takeReopenWrite
  split
  · rename_i tag w op _
    dsimp only
    split
    · have cleared : ∀ v : State, v.Passes v.clearLoopState 0 := fun v => (State.Passes.refl v).to (held := rfl)
      exact h.freed (by simp [op])
        (u := (t.setNv (t.nv.endWrite outcome)).setUnit { t.unit with phase := .opened, rework := t.unit.rework + 1, op := none }) rfl
        (next := (((cleared _).writeGiven _).setMode .working).reply ..)
    · exact h.freed (by simp [op]) (u := (t.setNv (t.nv.endWrite outcome)).setUnit { t.unit with op := none }) rfl
        (next := (State.Passes.refl _).reply ..)
  · exact h

theorem State.Passes.takeFixWrite (h : s.Passes t n) (ops : t.OpsAgree) (outcome : WriteOutcome) : s.Passes (t.takeFixWrite outcome) n := by
  unfold State.takeFixWrite
  split
  · rename_i tag count k step start w progress _
    have busy : t.unit.op.isSome = true := by rw [ops.of_keys progress]; rfl
    split
    · rename_i e _
      dsimp only
      split
      · cases step with
        | spaceWord | header | body => exact h.to rfl rfl rfl rfl rfl
        | mark =>
          have fixed : s.Passes ((t.setNv (t.nv.endWrite outcome)).setKeys (t.keys.put k (some (e.asFixed start)))) n := h.to
          exact fixed.nextFixKey busy tag (count + 1)
      · exact h.freed busy
          (u := ((t.setNv (t.nv.endWrite outcome)).setKeys (t.keys.fixFailed step start (t.nv.endWrite outcome).keyArea)).setUnit
            { t.unit with op := none }) rfl (next := (State.Passes.refl _).reply ..)
    · exact h
  · exact h

theorem State.Passes.takeWithdrawWrite (h : s.Passes t n) (ops : t.OpsAgree) (outcome : WriteOutcome) :
    s.Passes (t.takeWithdrawWrite outcome) n := by
  unfold State.takeWithdrawWrite
  split
  · rename_i tag k w progress _
    have busy : t.unit.op.isSome = true := by rw [ops.of_keys progress]; rfl
    split
    · exact h.freed busy (op := State.setUnit_unit .. ▸ rfl) (next := (State.Passes.refl _).reply ..)
    · exact h
  · exact h

/-! ### Every command -/

/-- An event of the blocks behind the ports replies what it ends, and brings nothing due. -/
theorem State.Event.passes {c : Instr} (event : s.Event c t) (ops : s.OpsAgree) : s.Passes t 0 := by
  have h := State.Passes.refl s
  cases event with
  | frameStart => exact h.to (rows := s.takeFrameStart_occupancy _)
  | gapExpiry => exact h.to
  | tick => exact h.to (rows := s.takeTick_occupancy)
  | trimSent => exact h.to
  | progress => exact h.to (rows := s.progressExpiry_occupancy)
  | marker line =>
    obtain ⟨replies, held⟩ := s.takeMarkerRead_owes line.pixels
    have read : s.Passes (s.takeMarkerRead line.pixels) 0 := h.to replies (held := held)
    unfold State.beginDue
    split
    · rename_i due
      simp only [Bool.and_eq_true, Option.isNone_iff_eq_none] at due
      obtain ⟨⟨-, idle⟩, -⟩ := due
      exact read.beginRow idle
    · exact read
  | count => exact h.stepRow
  | openWrite outcome => exact h.takeOpenWrite outcome
  | commitWrite outcome => exact h.takeCommitWrite outcome
  | reopenWrite outcome => exact h.takeReopenWrite outcome
  | fixWrite outcome => exact h.takeFixWrite ops outcome
  | withdrawWrite outcome => exact h.takeWithdrawWrite ops outcome

theorem State.RepliesFit.arbitrate (fit : s.RepliesFit) : s.arbitrate.RepliesFit := by
  obtain ⟨queue, held, station, system⟩ := fit
  obtain ⟨stationShrinks, -, systemShrinks⟩ := s.arbitrate_shrinks
  have owed : s.arbitrate.owed = s.owed := by simp [State.owed]
  exact ⟨by simpa using queue, by simpa using held, by omega, systemShrinks.trans system⟩

/-- A port with no row, no held request and no operation owes nothing. -/
theorem State.repliesFit_of_idle (intake : s.intake = .fresh) (held : s.grid.held = []) (op : s.unit.op = none)
    (station : s.station = .fresh) (system : s.system = .fresh) : s.RepliesFit := by
  refine ⟨?_, ?_, ?_, ?_⟩ <;>
    simp [State.owed, Grid.heldRequests, Intake.occupancy, intake, held, op, station, system, Intake.fresh, PortCtl.fresh]

/-- At most 8 queued rows, one in process, 4 held requests and one operation owe replies (R13, R49, R160, R178). -/
theorem State.RepliesFit.owed_le (fit : s.RepliesFit) : s.owed ≤ 14 := by
  have queue := fit.queue
  have held := fit.held
  unfold State.owed Intake.occupancy
  (repeat' split) <;> omega

/-- Only ports change: a reply joins a queue below its threshold, 16 on the station port, which leaves room for what is owed there
(R178). -/
theorem State.PortsOnly.repliesFit (only : s.PortsOnly t) (fit : s.RepliesFit) : t.RepliesFit := by
  have owes := fit.owed_le
  have stationFits := fit.station
  have systemFits := fit.system
  have owed : t.owed = s.owed := by simp only [State.owed, only.blocks.intake, only.blocks.grid, only.blocks.unit]
  refine ⟨by rw [only.blocks.intake]; exact fit.queue, by rw [only.blocks.grid]; exact fit.held, ?_, ?_⟩
  · rw [owed]
    rcases only.replies .station with same | ⟨room, joined⟩ <;> simp only [overrunThreshold, State.port_station] at * <;> omega
  · rcases only.replies .system with same | ⟨room, joined⟩ <;> simp only [overrunThreshold, State.port_system] at * <;> omega

/-- A request taken on either port finds its reply queue below the threshold, and brings one reply due (R178). -/
theorem State.Taken.repliesFit {p : Port} {tag : Byte} {r : Request} (taken : s.Taken t p tag r) (fit : s.RepliesFit)
    (queue : (t.takeRequest p tag r).intake.queue.length ≤ 8) : (t.takeRequest p tag r).RepliesFit := by
  obtain ⟨-, grid, intake, -, -, -, -, -, -, -, unit, -⟩ := taken.same.blocks
  have owed : t.owed = s.owed := by simp only [State.owed, intake, grid, unit]
  have room := taken.room
  rw [← taken.same.replies p] at room
  have stationSame := taken.same.replies .station
  have systemSame := taken.same.replies .system
  have owes := fit.owed_le
  have stationFits := fit.station
  have systemFits := fit.system
  simp only [State.port_station, State.port_system] at stationSame systemSame
  rw [← owed] at owes stationFits
  rw [← stationSame] at stationFits
  rw [← systemSame] at systemFits
  have held : t.grid.heldRequests ≤ 4 := by rw [grid]; exact fit.held
  cases p with
  | station =>
    obtain ⟨due, places, system⟩ := t.takeRequest_passes tag (taken.onStation rfl)
    simp only [overrunThreshold, State.port_station] at room
    simp only [State.due] at due
    exact ⟨queue, places held, by omega, by rw [system]; exact systemFits⟩
  | system =>
    obtain ⟨kind, status, fields, e⟩ := t.takeRequest_system tag (taken.onSystem rfl)
    simp only [overrunThreshold, State.port_system] at room
    rw [e] at queue ⊢
    refine ⟨queue, by simpa using held, ?_, by simpa using room⟩
    simpa [State.owed] using stationFits

theorem exec_keeps_repliesFit {c : Instr} (run : exec c s = .next t) (ops : s.OpsAgree) (fit : s.RepliesFit) : t.RepliesFit := by
  have queue := (exec_keepsSizes run).queue fit.queue
  cases exec_cases run with
  | nothing => exact fit
  | reset source cut command => exact State.repliesFit_of_idle rfl rfl rfl rfl rfl
  | startup cause held command =>
    obtain ⟨intake, held, station, system, -, -, op, -⟩ := s.startedUp_idle cause
    exact State.repliesFit_of_idle intake held op station system
  | requestedReset p running due command => exact State.RepliesFit.arbitrate (State.repliesFit_of_idle rfl rfl rfl rfl rfl)
  | ports u running only => exact (only.repliesFit fit).arbitrate
  | request u p tag r running taken => exact (taken.repliesFit fit (by simpa using queue)).arbitrate
  | event u running event =>
    obtain ⟨due, held, system⟩ := event.passes ops
    exact State.RepliesFit.arbitrate ⟨by simpa using queue, held fit.held, due.le.trans fit.station, by rw [system]; exact fit.system⟩

/-- Every step leaves room for every reply owed. -/
theorem step_keeps_repliesFit (run : step s = .next t) (ops : s.OpsAgree) (fit : s.RepliesFit) : t.RepliesFit := by
  obtain ⟨-, rfl⟩ | ⟨c, rest, -, run⟩ := step_cases run
  · exact fit
  · exact exec_keeps_repliesFit run (ops.congr (t := s.setPending rest) rfl rfl rfl rfl) ⟨fit.queue, fit.held, fit.station, fit.system⟩

end

end Sys2Proof.Machine

/-! CERTIFICATE. Operations, replies and transmitters (O57). -/

namespace Sys2Proof
open Sys2Proof.Machine

/-- Settles O57: the agreement goes through the commands by what each registers or ends, the reply queues by counting the replies that come
due, and the arbiters at the end of a command leave no transmitter free beside something that waits. -/
theorem operationsAgreeAndRepliesFit : Obligations.OperationsAgreeAndRepliesFit :=
  ⟨fun _ _ => step_keeps_opsAgree, fun _ _ => step_keeps_repliesFit, fun _ _ => step_keeps_quiet⟩

end Sys2Proof

/-! SUPPORT. The rework count through the store and every command (R159, R172, R173): a copy is read back with the count it was written
with, and REOPEN alone raises it, from 2 at most. -/

namespace Sys2Proof.Machine
open Sys2Proof

/-! ### The count in a unit record's bytes (R189) -/

/-- The sixth byte of a copy is its rework count, whatever the others hold. -/
theorem UnitRecord.ofBytes_rework {g0 g1 g2 g3 mark rework count : Byte} {rest : List Byte} {r : UnitRecord}
    (read : UnitRecord.ofBytes (g0 :: g1 :: g2 :: g3 :: mark :: rework :: count :: rest) = some r) : r.rework = rework.toNat := by
  unfold UnitRecord.ofBytes at read
  dsimp only at read
  (repeat' split at read) <;> cases read <;> rfl

theorem generationBytes_eq (g : Nat) : ∃ g0 g1 g2 g3, generationBytes g = [g0, g1, g2, g3] := by
  unfold generationBytes
  split <;> exact ⟨_, _, _, _, rfl⟩

/-- A record within the law is written as a copy within the law, also past the generations that fit their field (log 16). -/
theorem UnitRecord.bytes_reworkStored {r : UnitRecord} (legal : r.rework ≤ 3) : reworkStored (some r.bytes) := by
  intro r' read
  obtain ⟨g0, g1, g2, g3, generation⟩ := generationBytes_eq r.generation
  rw [Option.bind_some, UnitRecord.bytes, UnitRecord.content, generation] at read
  have same : r'.rework = (BitVec.ofNat 8 r.rework).toNat := UnitRecord.ofBytes_rework read
  rw [same, BitVec.toNat_ofNat, Nat.mod_eq_of_lt (by omega)]
  exact legal

/-! ### The law in the store -/

/-- What a copy is written with is within the law, wherever else a write goes. -/
def NvWrite.ReworkStored (w : NvWrite) : Prop := w.place = .copyA ∨ w.place = .copyB → reworkStored (some w.data)

/-- The law of R172 in the copies and in the write in flight. -/
structure NvStore.ReworkStored (nv : NvStore) : Prop where
  copyA : reworkStored nv.copyA
  copyB : reworkStored nv.copyB
  write : ∀ w, nv.write = some w → w.ReworkStored

section
variable {nv : NvStore}

theorem reworkStored_none : reworkStored none := nofun

/-- The newest copy holds a count within the law. -/
theorem NvStore.ReworkStored.newest (h : nv.ReworkStored) {copy : CopyName} {r : UnitRecord} (newest : nv.newest = some (copy, r)) :
    r.rework ≤ 3 := by
  have a := h.copyA
  have b := h.copyB
  unfold NvStore.newest at newest
  (repeat' split at newest) <;> simp only [Option.some.injEq, Prod.mk.injEq, reduceCtorEq] at newest
  all_goals
    obtain ⟨-, rfl⟩ := newest
    first
      | exact a _ ‹_›
      | exact b _ ‹_›

/-- A write that begins replaces the write in flight. -/
theorem NvStore.ReworkStored.beginWrite (h : nv.ReworkStored) {place : NvPlace} {data : List Byte}
    (write : NvWrite.ReworkStored { place := place, data := data }) : (nv.beginWrite place data).ReworkStored :=
  ⟨h.copyA, h.copyB, fun _ e => Option.some.inj e ▸ write⟩

/-- A write that ends leaves its copy absent, or with the bytes it wrote (R159). -/
theorem NvStore.ReworkStored.endWrite (h : nv.ReworkStored) (outcome : WriteOutcome) : (nv.endWrite outcome).ReworkStored := by
  cases flight : nv.write with
  | none =>
    have same : nv.endWrite outcome = nv := by simp [NvStore.endWrite, flight]
    rw [same]
    exact h
  | some w =>
    have record : w.place = .copyA ∨ w.place = .copyB → reworkStored (if outcome = .whole then some w.data else none) := by
      intro copy
      split
      · exact h.write w flight copy
      · exact reworkStored_none
    refine ⟨?_, ?_, by simp⟩ <;> unfold NvStore.endWrite <;> rw [flight] <;> dsimp only <;> split
    all_goals first
      | exact record (.inl ‹_›)
      | exact record (.inr ‹_›)
      | exact h.copyA
      | exact h.copyB

/-- A write that is cut off without an end leaves the copies as they are (R163). -/
theorem NvStore.ReworkStored.dropWrite (h : nv.ReworkStored) : { nv with write := none : NvStore }.ReworkStored :=
  ⟨h.copyA, h.copyB, nofun⟩

end

/-! ### The law in the unit controller -/

section
variable {s t : State}

theorem State.ReworkLegal.stored (h : s.ReworkLegal) : s.nv.ReworkStored := ⟨h.copyA, h.copyB, h.write⟩

/-- The law with no REOPEN in flight. -/
theorem State.ReworkLegal.of_stored (stored : t.nv.ReworkStored) (held : t.unit.rework ≤ 3)
    (op : ∀ tag, t.unit.op ≠ some (.reopenWrite tag)) : t.ReworkLegal :=
  ⟨held, stored.copyA, stored.copyB, stored.write, fun tag e => absurd e (op tag)⟩

/-- The law where the count is the one before, and no REOPEN has begun. -/
theorem State.ReworkLegal.still (h : s.ReworkLegal) (stored : t.nv.ReworkStored) (rework : t.unit.rework = s.unit.rework)
    (op : t.unit.op = s.unit.op ∨ ∀ tag, t.unit.op ≠ some (.reopenWrite tag)) : t.ReworkLegal := by
  obtain same | other := op
  · exact ⟨by rw [rework]; exact h.held, stored.copyA, stored.copyB, stored.write, fun tag e => by
      rw [rework]; exact h.reopening tag (same.symm.trans e)⟩
  · exact .of_stored stored (by rw [rework]; exact h.held) other

theorem State.ReworkLegal.congr (h : s.ReworkLegal) (nv : t.nv = s.nv) (unit : t.unit = s.unit) : t.ReworkLegal :=
  h.still (by rw [nv]; exact h.stored) (by rw [unit]) (.inl (by rw [unit]))

/-- The key table does not bear on the law. -/
theorem State.ReworkLegal.withKeys (h : s.ReworkLegal) (keys : KeyTable) : (s.setKeys keys).ReworkLegal := h.congr rfl rfl

/-- An operation that begins or ends, other than REOPEN. -/
theorem State.ReworkLegal.withOp (h : s.ReworkLegal) {op : Option NvOp} (other : ∀ tag, op ≠ some (.reopenWrite tag)) :
    (s.setUnit { s.unit with op := op }).ReworkLegal := .of_stored h.stored h.held other

theorem State.ReworkLegal.reply (h : s.ReworkLegal) (p : Port) (kind tag : Byte) (status : Status) (fields : List Byte) :
    (s.reply p kind tag status fields).ReworkLegal := h.congr (by simp) (by simp)

theorem State.ReworkLegal.arbitrate (h : s.ReworkLegal) : s.arbitrate.ReworkLegal := h.congr (by simp) (by simp)

/-- The write of a unit record with a count within the law. -/
theorem State.ReworkLegal.beginRecord (h : s.ReworkLegal) (mark : Mark) {rework : Nat} (legal : rework ≤ 3) (serial : List Byte)
    (identity : Option StationId) : (s.beginRecord mark rework serial identity).ReworkLegal :=
  h.still (h.stored.beginWrite fun _ => UnitRecord.bytes_reworkStored legal) rfl (.inl rfl)

/-! ### Resets and start-ups -/

theorem State.volatileReset_reworkLegal {nv : NvStore} (stored : nv.ReworkStored) (cause : ResetCause) (pending : List Instr)
    (choices : Nat) : (State.volatileReset cause nv pending choices).ReworkLegal :=
  .of_stored stored (Nat.zero_le 3) nofun

/-- The unit takes the count of the newest copy, or 0 with none (R161). -/
theorem State.ReworkLegal.startedUp (h : s.ReworkLegal) (cause : ResetCause) : (s.startedUp cause).ReworkLegal := by
  obtain ⟨-, -, -, -, nv, -, op, -⟩ := s.startedUp_idle cause
  refine .of_stored (by rw [nv]; exact h.stored) ?_ (by simp [op])
  show ((s.loading cause).loadMark cause).unit.rework ≤ 3
  unfold State.loadMark
  split
  · exact Nat.zero_le 3
  · rename_i r newest
    have legal : r.rework ≤ 3 := h.stored.newest newest
    split <;> exact legal

/-! ### Requests -/

theorem State.ReworkLegal.takeOpen (h : s.ReworkLegal) (tag : Byte) (given : Half) (serial : List Byte) :
    (s.takeOpen tag given serial).ReworkLegal := by
  unfold State.takeOpen
  split
  · exact h.reply ..
  split
  · exact h.reply ..
  split
  · exact h.reply ..
  split
  · exact (h.withOp (op := some (.openWrite tag serial given.toNat)) nofun).beginRecord .opened (Nat.zero_le 3) ..
  split
  · exact h.reply ..
  · exact .reply (h.still (by simpa using h.stored) (by simp [State.enterOpen]) (.inl (by simp [State.enterOpen]))) ..

theorem State.ReworkLegal.takeClose (h : s.ReworkLegal) (tag : Byte) : (s.takeClose tag).ReworkLegal := by
  unfold State.takeClose
  split
  · exact h.reply ..
  · have closing : (s.setUnit { s.unit with phase := .closing }).recomputeUnknown.ReworkLegal :=
      h.still (by simpa using h.stored) (by simp) (.inl (by simp))
    exact (closing.withOp (op := some (.commit tag .closingMark)) nofun).beginRecord .closing h.held ..

/-- REOPEN finds the count below 3 and writes one more (R172, R173). -/
theorem State.ReworkLegal.takeReopen (h : s.ReworkLegal) (tag : Byte) : (s.takeReopen tag).ReworkLegal := by
  unfold State.takeReopen
  split
  · exact h.reply ..
  split
  · exact h.reply ..
  split
  · exact h.reply ..
  · have below : s.unit.rework ≤ 2 := by omega
    have registered : (s.setUnit { s.unit with op := some (.reopenWrite tag) }).ReworkLegal :=
      ⟨h.held, h.copyA, h.copyB, h.write, fun _ _ => below⟩
    exact registered.beginRecord .opened (by omega) ..

/-- The next key's first write goes into the key area, and the end of the operation registers nothing (R137). -/
theorem State.ReworkLegal.nextFixKey (h : s.ReworkLegal) (tag : Byte) (count : Nat) : (s.nextFixKey tag count).ReworkLegal := by
  unfold State.nextFixKey
  split
  · split
    · exact h.still (h.stored.beginWrite (by simp [NvWrite.ReworkStored])) rfl (.inl rfl)
    · exact h
  · exact ((h.withKeys _).withOp (op := none) nofun).reply ..

theorem State.ReworkLegal.takeKeyFix (h : s.ReworkLegal) (tag : Byte) : (s.takeKeyFix tag).ReworkLegal := by
  unfold State.takeKeyFix
  split
  · exact h.reply ..
  split
  · exact h.reply ..
  split
  · exact h.reply ..
  split
  · exact h.reply ..
  · exact ((h.withKeys _).withOp (op := some .keyFix) nofun).nextFixKey ..

theorem State.ReworkLegal.takeKeyWithdraw (h : s.ReworkLegal) (tag : Byte) (id : Half) : (s.takeKeyWithdraw tag id).ReworkLegal := by
  unfold State.takeKeyWithdraw
  split
  · exact h.reply ..
  (repeat' split)
  · exact h.reply ..
  · exact h.reply ..
  · exact h.reply ..
  · exact h.reply ..
  · exact .of_stored (h.stored.beginWrite (by simp [NvWrite.ReworkStored])) h.held nofun

theorem State.ReworkLegal.takeRequest (h : s.ReworkLegal) (p : Port) (tag : Byte) (r : Request) : (s.takeRequest p tag r).ReworkLegal := by
  by_cases still : movesUnit r = false
  · obtain ⟨nv, -⟩ := s.takeRequest_keepsUnit p tag still
    obtain unit | ⟨-, unit⟩ := s.takeRequest_unit p tag still
    · exact h.congr nv unit
    · exact h.still (by rw [nv]; exact h.stored) (by rw [unit]) (.inl (by rw [unit]))
  cases r <;> simp only [movesUnit, not_true_eq_false] at still
  case openUnit => exact h.takeOpen ..
  case close => exact h.takeClose tag
  case reopen => exact h.takeReopen tag
  case keyFix => exact h.takeKeyFix tag
  case keyWithdraw => exact h.takeKeyWithdraw tag _

/-! ### Completions of writes -/

/-- The state in which the write in flight has ended. -/
theorem State.ReworkLegal.ended (h : s.ReworkLegal) (outcome : WriteOutcome) : (s.setNv (s.nv.endWrite outcome)).ReworkLegal :=
  h.still (h.stored.endWrite outcome) rfl (.inl rfl)

theorem State.ReworkLegal.takeOpenWrite (h : s.ReworkLegal) (outcome : WriteOutcome) : (s.takeOpenWrite outcome).ReworkLegal := by
  have stored := h.stored.endWrite outcome
  unfold State.takeOpenWrite
  split
  · dsimp only
    split
    · exact .reply (.of_stored (by simpa using stored) (by simpa [State.enterOpen] using h.held) (by simp [State.enterOpen])) ..
    · exact ((h.ended outcome).withOp (op := none) nofun).reply ..
  · exact h

/-- The commit's next write: a record of another kind, or the mark CLOSED with the count as it is (R168, R172). -/
theorem State.ReworkLegal.commitNext (h : s.ReworkLegal) (tag : Byte) (step : CommitStep) : (s.commitNext tag step).ReworkLegal := by
  have at_step : ∀ next, (s.commitAt tag next).ReworkLegal := fun _ => .of_stored h.stored h.held nofun
  have elsewhere : ∀ next place data, place ≠ .copyA → place ≠ .copyB → ((s.commitAt tag next).beginWrite place data).ReworkLegal :=
    fun next _ _ a b => (at_step next).still ((at_step next).stored.beginWrite fun copy => absurd copy (by simp [a, b])) rfl (.inl rfl)
  cases step with
  | closingMark | gridRecord | regionRecord => exact elsewhere _ _ _ nofun nofun
  | tuningRecord => exact (at_step _).beginRecord .closed h.held ..
  | closedMark identity => exact h

theorem State.ReworkLegal.takeCommitWrite (h : s.ReworkLegal) (outcome : WriteOutcome) : (s.takeCommitWrite outcome).ReworkLegal := by
  have stored := h.stored.endWrite outcome
  unfold State.takeCommitWrite
  split
  · dsimp only
    split
    · split
      · rename_i identity _
        have closed : ((s.setNv (s.nv.endWrite outcome)).completeCommit identity).ReworkLegal := .of_stored stored h.held nofun
        exact closed.reply ..
      · exact (h.ended outcome).commitNext ..
    · exact .reply (.of_stored (by simpa using stored) (by simpa using h.held) (by simp)) ..
  · exact h

/-- The verified write of REOPEN raises the count, which was 2 at most (R173). -/
theorem State.ReworkLegal.takeReopenWrite (h : s.ReworkLegal) (outcome : WriteOutcome) : (s.takeReopenWrite outcome).ReworkLegal := by
  have stored := h.stored.endWrite outcome
  unfold State.takeReopenWrite
  split
  · rename_i tag w op _
    have below := h.reopening tag op
    dsimp only
    split
    · exact .reply (.of_stored (by simpa [State.completeReopen] using stored) (by simp [State.completeReopen]; omega)
        (by simp [State.completeReopen])) ..
    · exact ((h.ended outcome).withOp (op := none) nofun).reply ..
  · exact h

/-- A verified step of a fix writes the key area alone (R137). -/
theorem State.ReworkLegal.fixVerified (h : s.ReworkLegal) (tag : Byte) (count n : Nat) (e : KeyEntry) (step : FixStep) (start : Nat) :
    (s.fixVerified tag count n e step start).ReworkLegal := by
  have begun : ∀ u : State, u.ReworkLegal → ∀ next, (u.beginFixStep tag count n e next start).ReworkLegal := fun u hu next =>
    hu.still (hu.stored.beginWrite (by simp [NvWrite.ReworkStored])) rfl (.inl rfl)
  cases step with
  | spaceWord => exact begun _ (h.withKeys _) _
  | header | body => exact begun _ h _
  | mark => exact (h.withKeys _).nextFixKey ..

theorem State.ReworkLegal.takeFixWrite (h : s.ReworkLegal) (outcome : WriteOutcome) : (s.takeFixWrite outcome).ReworkLegal := by
  unfold State.takeFixWrite
  split
  · split
    · dsimp only
      split
      · exact (h.ended outcome).fixVerified ..
      · exact (((h.ended outcome).withKeys _).withOp (op := none) nofun).reply ..
    · exact h
  · exact h

theorem State.ReworkLegal.takeWithdrawWrite (h : s.ReworkLegal) (outcome : WriteOutcome) : (s.takeWithdrawWrite outcome).ReworkLegal := by
  unfold State.takeWithdrawWrite
  split
  · split
    · exact (((h.ended outcome).withKeys _).withOp (op := none) nofun).reply ..
    · exact h
  · exact h

/-! ### Every command -/

theorem State.ReworkLegal.event (h : s.ReworkLegal) {c : Instr} (event : s.Event c t) : t.ReworkLegal := by
  cases event with
  | frameStart => exact h.congr (by simp) (by simp)
  | gapExpiry => exact h.congr (by simp) (by simp)
  | tick => exact h.congr (by simp) (by simp)
  | trimSent => exact h.congr (by simp) (by simp)
  | progress => exact h.congr (by simp) (by simp)
  | marker => exact h.congr (by simp) (by simp)
  | count => exact h.congr s.stepRow_still.1 s.stepRow_region_unit.2
  | openWrite outcome => exact h.takeOpenWrite outcome
  | commitWrite outcome => exact h.takeCommitWrite outcome
  | reopenWrite outcome => exact h.takeReopenWrite outcome
  | fixWrite outcome => exact h.takeFixWrite outcome
  | withdrawWrite outcome => exact h.takeWithdrawWrite outcome

theorem exec_keeps_reworkLegal {c : Instr} (run : exec c s = .next t) (h : s.ReworkLegal) : t.ReworkLegal := by
  cases exec_cases run with
  | nothing => exact h
  | reset source cut command => exact State.volatileReset_reworkLegal (h.stored.endWrite cut) ..
  | startup cause held command => exact h.startedUp cause
  | requestedReset p running due command => exact State.ReworkLegal.arbitrate (State.volatileReset_reworkLegal h.stored.dropWrite ..)
  | ports u running only =>
    obtain ⟨-, -, -, -, -, -, -, -, -, -, unit, nv, -⟩ := only.blocks
    exact (h.congr nv unit).arbitrate
  | request u p tag r running taken =>
    obtain ⟨-, -, -, -, -, -, -, -, -, -, unit, nv, -⟩ := taken.same.blocks
    exact ((h.congr nv unit).takeRequest p tag r).arbitrate
  | event u running event => exact (h.event event).arbitrate

/-- Every step keeps the rework count within 3, in the unit and in the store. -/
theorem step_keeps_reworkLegal (run : step s = .next t) (h : s.ReworkLegal) : t.ReworkLegal := by
  obtain ⟨-, rfl⟩ | ⟨c, rest, -, run⟩ := step_cases run
  · exact h
  · exact exec_keeps_reworkLegal run (h.congr (t := s.setPending rest) rfl rfl)

end

end Sys2Proof.Machine

/-! CERTIFICATE. The rework count (O60). -/

namespace Sys2Proof
open Sys2Proof.Machine

/-- Settles O60: the count a copy is written with is the count start-up reads back, and only REOPEN raises it, from 2 at most. -/
theorem reworkNeverExceedsThree : Obligations.ReworkNeverExceedsThree :=
  fun _ _ => step_keeps_reworkLegal

end Sys2Proof

/-! SUPPORT. Screening check by check (R179): what each refuses, once the checks before it have passed. -/

namespace Sys2Proof.Machine
open Sys2Proof

section
variable {s : State} {p : Port} {tag : Byte} {r : Request}

/-- A request that finds room for its reply, with no reset pending, is screened (R178, R179 check 1). -/
theorem State.request_screened (wf : r.wellFormed = true) (running : s.power = .running)
    (room : (s.port p).replies.length < overrunThreshold p) (noReset : s.unit.resetPending = false) :
    s.request p tag r = .next (s.screen p r.kind tag (if r.lengthSuits then some r else none)).arbitrate := by
  rw [State.request_running wf running, State.arrive_screened room noReset]

/-- Check 2: the system port serves its own kinds alone. -/
theorem State.screen_not_served (other : r.kind ∉ systemKinds) (request : Option Request) :
    s.screen .system r.kind tag request = s.refuse .system r.kind tag .denied := by
  unfold State.screen
  rw [if_pos ⟨rfl, other⟩, State.refuseKind_request]

/-- Check 3: the station port serves no KEY_FETCH. -/
theorem State.screen_fetch (fetch : r.kind = 0x03) (request : Option Request) :
    s.screen .station r.kind tag request = s.refuse .station r.kind tag .denied := by
  unfold State.screen
  rw [if_neg (by simp), if_neg (not_not_intro (Request.kind_known r)), if_pos ⟨rfl, fetch⟩]

/-- Check 4: a request that its port serves carries a tag. -/
theorem State.screen_untagged (onSystem : p = .system → r.kind ∈ systemKinds) (onStation : p = .station → r.kind ≠ 0x03)
    (request : Option Request) : s.screen p r.kind 0 request = s.refuse p r.kind 0 .badValue := by
  unfold State.screen
  rw [if_neg (fun e => e.2 (onSystem e.1)), if_neg (not_not_intro (Request.kind_known r)), if_neg (fun e => onStation e.1 e.2),
    if_pos rfl]

/-- Check 5: a tagged request that its port serves has a length that suits its kind. -/
theorem State.screen_unsuited (onSystem : p = .system → r.kind ∈ systemKinds) (onStation : p = .station → r.kind ≠ 0x03)
    (tagged : tag ≠ 0) : s.screen p r.kind tag none = s.refuse p r.kind tag .badLength := by
  unfold State.screen
  rw [if_neg (fun e => e.2 (onSystem e.1)), if_neg (not_not_intro (Request.kind_known r)), if_neg (fun e => onStation e.1 e.2),
    if_neg tagged]

/-- The requests of the kinds that a CLOSED unit serves (R171). -/
theorem Request.of_kind_closed (served : r.kind ∈ closedKinds) :
    r = .status ∨ r = .readRegion ∨ (∃ slice first count, r = .readNodes slice first count) ∨
      (∃ first count, r = .readZones first count) ∨ r = .keyList ∨ r = .evaluate ∨ r = .reopen ∨ r = .partReset := by
  cases r <;> simp [closedKinds, Request.kind] at served ⊢

end

end Sys2Proof.Machine

/-! CERTIFICATE. Screening (O7). -/

namespace Sys2Proof
open Sys2Proof.Machine

/-- Settles O7: a request below the threshold comes to the first check that it fails. -/
theorem screeningRefusesInOrder : Obligations.ScreeningRefusesInOrder := by
  refine ⟨fun c tag r s wf running noReset => ⟨fun command room other => ?_, fun command room fetch => ?_⟩,
    fun c p tag r s command wf running noReset room onSystem onStation => ⟨?_, fun tagged unsuited => ?_⟩,
    fun c tag r s command wf suits admits closed onStation status readRegion readNodes readZones keyList evaluate reopen partReset => ?_⟩
  · rw [exec_request command, State.request_screened (p := .system) wf running room noReset, State.screen_not_served other]
    rfl
  · rw [exec_request command, State.request_screened (p := .station) wf running room noReset, State.screen_fetch fetch]
    rfl
  · rintro rfl
    rw [exec_request command, State.request_screened wf running room noReset, State.screen_untagged onSystem onStation]
    rfl
  · rw [exec_request command, State.request_screened wf running room noReset, unsuited,
      if_neg Bool.false_ne_true, State.screen_unsuited onSystem onStation tagged]
    rfl
  · have shut : r.kind ∉ closedKinds := fun served => by
      obtain rfl | rfl | ⟨slice, first, count, rfl⟩ | ⟨first, count, rfl⟩ | rfl | rfl | rfl | rfl := Request.of_kind_closed served
      · exact status rfl
      · exact readRegion rfl
      · exact readNodes _ _ _ rfl
      · exact readZones _ _ rfl
      · exact keyList rfl
      · exact evaluate rfl
      · exact reopen rfl
      · exact partReset rfl
    rw [exec_request command, State.request_closed wf suits admits closed onStation shut]
    rfl

end Sys2Proof

/-! SUPPORT. CLOSE's nine preconditions one by one (R167), and the commit that begins (R168). -/

namespace Sys2Proof.Machine
open Sys2Proof

section

/-! ### What the preconditions count -/

/-- The keys that keep a unit from closing are those in RAM and those whose check failed (R128, R167). -/
theorem KeyTable.pendingKeys_eq (k : KeyTable) :
    k.pendingKeys =
      (k.entries.filterMap id).countP (fun e => decide (e.state = .loading ∨ e.state = .staged ∨ e.state = .checkFailed)) := by
  rw [KeyTable.pendingKeys, k.countState_eq, k.countState_eq, k.countState_eq]
  induction k.entries.filterMap id with
  | nil => rfl
  | cons e rest ih =>
    simp only [List.countP_cons, ← ih]
    cases e.state <;> simp <;> omega

/-- A class has no FIXED key when every entry is another state or another class (R143). -/
theorem KeyTable.countFixed_eq_zero (k : KeyTable) (cls : KeyClass) :
    decide (k.countFixed cls = 0) = (k.entries.filterMap id).all (fun e => decide (e.state ≠ .fixed ∨ e.cls ≠ cls)) := by
  rw [Bool.eq_iff_iff, decide_eq_true_iff, List.all_eq_true, KeyTable.countFixed, List.countP_eq_zero]
  constructor
  · intro none e mem
    obtain ⟨_, mem, rfl⟩ := List.mem_filterMap.mp mem
    have other := none _ mem
    simp at other ⊢
    tauto
  · rintro all (_ | e) mem
    · simp
    · have other := all e (List.mem_filterMap.mpr ⟨_, mem, rfl⟩)
      simp at other ⊢
      tauto

/-- A byte of four answers is 0 when none is yes. -/
theorem bitByte_eq_zero_iff : ∀ a b c d : Bool, bitByte [a, b, c, d] = 0 ↔ true ∉ [a, b, c, d] := by decide

/-- The requirement of CURRENT is satisfied when every class it requires has a FIXED key (R143). -/
theorem KeyTable.satisfies_iff (k : KeyTable) (c : CurrentRegion) :
    k.satisfies (some c) = true ↔
      true ∉ [c.profile.required.content && decide (k.countFixed .content = 0),
        c.profile.required.identity && decide (k.countFixed .identity = 0),
        c.profile.required.service && decide (k.countFixed .service = 0),
        c.profile.required.platform && decide (k.countFixed .platform = 0)] := by
  rw [← bitByte_eq_zero_iff, KeyTable.satisfies, decide_eq_true_iff]
  rfl

/-! ### CLOSE where it is taken -/

variable {s : State} {tag : Byte}

theorem State.takeClose_refused {status : Status} {fields : List Byte} (refusal : s.closeRefusal = some (status, fields)) :
    s.takeClose tag = s.reply .station 0x11 tag status fields := by
  rw [State.takeClose, refusal]

/-- The commit begins with phase CLOSING, its operation and the write of the mark CLOSING, and the unknown condition ends (R117, R168). -/
theorem State.takeClose_granted (granted : s.closeRefusal = none) :
    s.takeClose tag =
      ((s.setUnit { s.unit with phase := .closing, op := some (.commit tag .closingMark) }).setRegion
        { s.region with unknown := false }).setNv
          { s.nv with
            write :=
              some
                { place := s.nv.target
                  data :=
                    UnitRecord.bytes
                      { generation := s.nv.nextGeneration, mark := .closing, rework := s.unit.rework, serial := s.unit.serial.getD [],
                        identity := s.unit.identity } } } := by
  rw [State.takeClose, granted]
  rfl

/-- CLOSE in a unit that is not CLOSED comes to its owner. -/
theorem exec_close (h : s.AdmitsUnclosed tag) : exec (.close .station tag) s = .next (s.takeClose tag).arbitrate :=
  State.request_unclosed (r := .close) rfl rfl h (by simp [Request.kind])

theorem exec_close_refused (h : s.AdmitsUnclosed tag) {status : Status} {fields : List Byte}
    (refusal : s.closeRefusal = some (status, fields)) :
    exec (.close .station tag) s = .next (s.reply .station 0x11 tag status fields).arbitrate := by
  rw [exec_close h, State.takeClose_refused refusal]

end

end Sys2Proof.Machine

/-! CERTIFICATE. CLOSE (O44). -/

namespace Sys2Proof
open Sys2Proof.Machine

/-- Settles O44: the refusal is the first of the nine that fails, and with none the commit begins. -/
theorem closeBeginsTheCommitOrRefuses : Obligations.CloseBeginsTheCommitOrRefuses := by
  intro s tag admits
  refine ⟨State.closeRefusal_none_iff, ?_, fun status fields => exec_close_refused admits, fun granted => by
    rw [exec_close admits, State.takeClose_granted granted]⟩
  dsimp only
  have pendingKeys := s.keys.pendingKeys_eq
  refine ⟨fun shut => ?_, fun opened => ⟨fun op registered => ?_, fun free moving => ?_, fun free idle => ⟨fun row busy => ?_,
    fun none queued => ?_, fun none empty => ?_⟩⟩⟩
  · exact exec_close_refused admits (by simp [State.closeRefusal, shut])
  · exact exec_close_refused admits (by simp [State.closeRefusal, opened, registered, opCode, u8])
  · exact exec_close_refused admits (by simp [State.closeRefusal, opened, free, moving, u8])
  · exact exec_close_refused admits (by simp [State.closeRefusal, opened, free, idle, Intake.occupancy, busy, u8])
  · exact exec_close_refused admits (by simp [State.closeRefusal, opened, free, idle, Intake.occupancy, none, queued, u8])
  have vacant : s.intake.occupancy = 0 := s.intake.occupancy_eq_zero_iff.mpr ⟨empty, none⟩
  refine ⟨fun unset => ?_, fun c set => ?_⟩
  · exact exec_close_refused admits (by simp [State.closeRefusal, opened, free, idle, vacant, unset])
  have satisfies := s.keys.satisfies_iff c
  rw [← pendingKeys]
  simp only [← KeyTable.countFixed_eq_zero]
  refine ⟨fun conflict => ?_, fun agreed pending => ?_, fun agreed settled lacking => ?_, fun agreed settled complete failing => ?_⟩
  · exact exec_close_refused admits (by simp [State.closeRefusal, opened, free, idle, vacant, set, conflict])
  · exact exec_close_refused admits (by simp [State.closeRefusal, opened, free, idle, vacant, set, agreed, pending])
  · have unsatisfied : s.keys.satisfies (some c) = false := Bool.eq_false_iff.mpr fun e => satisfies.mp e lacking
    refine exec_close_refused admits ?_
    simp only [State.closeRefusal, opened, free, idle, vacant, set, agreed, settled, unsatisfied, Option.isSome_none, Option.isNone_some,
      ne_eq, not_true_eq_false, Bool.false_eq_true, if_true, if_false]
    rfl
  · have verdict := (overallVerdict_fail_iff s.evaluation).mpr failing
    exact exec_close_refused admits
      (by simp [State.closeRefusal, opened, free, idle, vacant, set, agreed, settled, satisfies.mpr complete, verdict])

end Sys2Proof

/-! SUPPORT. PART_RESET where it is taken, and the end of its reply (R163, R183). -/

namespace Sys2Proof.Machine
open Sys2Proof

section
variable {s : State} {tag : Byte}

/-- PART_RESET comes to its owner in every phase, CLOSED among them (R171). -/
theorem exec_partReset (h : s.Admits .station tag) : exec (.partReset .station tag) s = .next (s.takePartReset tag).arbitrate :=
  State.request_station (r := .partReset) rfl rfl h (by simp [Request.kind]) (by simp [Request.kind, closedKinds])

theorem State.takePartReset_free (free : s.unit.op = none) :
    s.takePartReset tag = (s.setUnit { s.unit with resetPending := true }).reply .station 0x13 tag .ok [] :=
  if_neg (by simp [free])

theorem State.takePartReset_busy (busy : s.unit.op.isSome = true) : s.takePartReset tag = s.reply .station 0x13 tag .busy [] :=
  if_pos busy

/-- The reset follows when the reply that grants it has been sent (R183). -/
theorem State.takeTransmitted_reset {f : Frame} (due : s.unit.resetPending = true) (sending : s.station.sending = some f)
    (granted : f.asksReset = true) : s.takeTransmitted .station = s.requestedReset := by
  rw [State.takeTransmitted, State.port_station, sending]
  exact if_pos ⟨rfl, due, granted⟩

/-- After a reset there is nothing for the arbiters to do. -/
theorem State.volatileReset_arbitrate (cause : ResetCause) (nv : NvStore) (pending : List Instr) (choices : Nat) :
    (State.volatileReset cause nv pending choices).arbitrate = State.volatileReset cause nv pending choices :=
  State.arbitrate_idle _ (fun _ => ⟨rfl, rfl⟩) (fun _ => rfl)

end

end Sys2Proof.Machine

/-! CERTIFICATE. PART_RESET (O47). -/

namespace Sys2Proof
open Sys2Proof.Machine

/-- Settles O47: the request where it is taken, and the transmission's end that finds it pending. -/
theorem partResetPendsUntilItsReplyIsSent : Obligations.PartResetPendsUntilItsReplyIsSent := by
  refine ⟨fun s tag admits => ⟨fun free => ?_, fun busy => ?_⟩, fun s f running due sending kind payload => ?_⟩
  · rw [exec_partReset admits, State.takePartReset_free free]
  · rw [exec_partReset admits, State.takePartReset_busy busy]
  · have granted : f.asksReset = true := by simp [Frame.asksReset, kind, payload, Status.code]
    have ended : exec (.transmissionComplete .station) s = .next (s.event (fun t => t.takeTransmitted .station)) := rfl
    rw [ended, State.event_running running, State.takeTransmitted_reset due sending granted, State.requestedReset,
      State.volatileReset_arbitrate]

end Sys2Proof

/-! SUPPORT. A reset's state under the laws of the sequencer, the tables and the ports (R162): every block is fresh, and the store is what it
was. -/

namespace Sys2Proof.Machine
open Sys2Proof

section
variable (cause : ResetCause) (nv : NvStore) (pending : List Instr) (choices : Nat)

theorem State.volatileReset_withinCapacities : (State.volatileReset cause nv pending choices).WithinCapacities :=
  ⟨Nat.zero_le 16, Nat.zero_le 4, Nat.zero_le 8, Nat.zero_le 16, List.length_replicate⟩

theorem State.volatileReset_shaped : (State.volatileReset cause nv pending choices).Shaped :=
  (State.shaped_iff _).mpr ⟨Grid.fresh_sized, List.length_replicate, List.length_replicate⟩

/-- No patch is known and no run has begun. -/
theorem State.volatileReset_seqLegal : (State.volatileReset cause nv pending choices).SeqLegal := ⟨rfl, rfl, nofun, nofun, nofun⟩

theorem State.volatileReset_quiet : (State.volatileReset cause nv pending choices).Quiet := ⟨fun _ => ⟨rfl, rfl⟩, fun _ => rfl⟩

/-- Every code is 0, nothing was sensed, and no profile is loaded. -/
theorem State.volatileReset_regionAgrees : (State.volatileReset cause nv pending choices).RegionAgrees := ⟨nofun, rfl, rfl⟩

end

/-- A store never written holds no unit record. -/
theorem NvStore.unwritten_reworkStored : NvStore.unwritten.ReworkStored := ⟨reworkStored_none, reworkStored_none, nofun⟩

end Sys2Proof.Machine

/-! CERTIFICATE. The machine right after reset (O48). -/

namespace Sys2Proof
open Sys2Proof.Machine

/-- Settles O48: each law as it stands in a reset's fresh blocks, over a store never written. -/
theorem resetMeetsEveryInvariant : Obligations.ResetMeetsEveryInvariant := by
  have capacities : State.reset.WithinCapacities := State.volatileReset_withinCapacities ..
  have shaped : State.reset.Shaped := State.volatileReset_shaped ..
  have tags : State.reset.TagsUnique := List.nodup_nil
  have keyIds : State.reset.KeyIdsUnique := List.nodup_nil
  have seq : State.reset.SeqLegal := State.volatileReset_seqLegal ..
  have grid : State.reset.GridLegal := State.volatileReset_gridLegal ..
  have store : State.reset.StoreLegal := State.volatileReset_storeLegal _ (fun ⟨_, _, newest, _⟩ => nomatch newest) ..
  have errors : State.reset.ErrorsLegal := (State.errorsLegal_iff _).mpr (State.volatileReset_meets ..)
  have stamps : State.reset.StampsLegal := (State.stampsLegal_iff _).mpr (State.volatileReset_meets ..)
  have quiet : State.reset.Quiet := State.volatileReset_quiet ..
  have row : State.reset.RowLegal := nofun
  have rows : State.reset.RowsBegin := State.rowsBegin_of_empty rfl rfl rfl
  have ops : State.reset.OpsAgree := .idle rfl rfl rfl nofun
  have replies : State.reset.RepliesFit := State.repliesFit_of_idle rfl rfl rfl rfl rfl
  have region : State.reset.RegionAgrees := State.volatileReset_regionAgrees ..
  have closure : State.reset.ClosureLegal := State.volatileReset_closureLegal ..
  have rework : State.reset.ReworkLegal := State.volatileReset_reworkLegal NvStore.unwritten_reworkStored ..
  exact ⟨reset_keyArea_wf, capacities, shaped, tags, keyIds, seq, grid, store, errors, stamps, quiet, row, rows, ops, replies, region,
    closure, rework⟩

end Sys2Proof

/-! SUPPORT. What the arbiters begin on each port, and what the end of a transmission does (R181, R182). -/

namespace Sys2Proof.Machine
open Sys2Proof

/-! ### The reports-dropped flag (R182) -/

/-- A STATUS reply that carries the status fields takes the flag as its last byte. -/
theorem Frame.begun_statusReply {f : Frame} (carries : f.isStatusReply = true) (dropped : Bool) :
    f.begun dropped = { f with payload := f.payload.dropLast ++ flag dropped } := if_pos carries

/-- Any other frame begins as it was queued (log 34). -/
theorem Frame.begun_other {f : Frame} (carries : f.isStatusReply = false) (dropped : Bool) : f.begun dropped = f :=
  if_neg (by simp [carries])

/-- The replies that carry the flag are those of kind 0x81 and status OK. -/
theorem Frame.isStatusReply_iff (f : Frame) : f.isStatusReply = true ↔ f.kind = 0x81 ∧ f.payload.head? = some 0x00 := decide_eq_true_iff

/-! ### What a free transmitter begins (R181) -/

/-- A port whose transmitter begins a reply, the rest of the queue still waiting, under the given reports-dropped flag. -/
def PortCtl.replying (c : PortCtl) (f : Frame) (rest : List Frame) (dropped : Bool) : PortCtl :=
  { c with replies := rest, sending := some (f.begun dropped), dropped := c.dropped && !f.isStatusReply }

section
variable {s : State} {p : Port} {f : Frame} {rest : List Frame}

theorem State.beginReply_eq (waits : (s.port p).replies = f :: rest) :
    s.beginReply p = s.setPort p ((s.port p).replying f rest s.station.dropped) := by
  rw [State.beginReply, waits, PortCtl.replying]

/-- The reply at the head of the queue goes first. -/
theorem State.serveNext_reply (waits : (s.port p).replies = f :: rest) :
    s.serveNext p = s.setPort p ((s.port p).replying f rest s.station.dropped) := by
  rw [← State.beginReply_eq waits]
  cases p with
  | station => exact if_neg (show (s.port .station).replies ≠ [] by simp only [waits, ne_eq, reduceCtorEq, not_false_eq_true])
  | system => rfl

/-- With no reply waiting, the report at the head of its queue goes. -/
theorem State.serveNext_report (empty : s.station.replies = []) (waits : s.station.reports = f :: rest) :
    s.serveNext .station = s.setStation { s.station with reports := rest, sending := some f } := by
  rw [State.serveNext, if_pos empty, State.beginReport, waits]

/-- With nothing waiting, nothing begins. -/
theorem State.serveNext_idle (empty : (s.port p).replies = []) (silent : p = .station → s.station.reports = []) : s.serveNext p = s := by
  cases p with
  | station => rw [State.serveNext, if_pos (by exact empty), State.beginReport, silent rfl]
  | system => rw [State.serveNext, State.beginReply, empty]

/-- A transmitter that sends goes on. -/
theorem State.arbitratePort_sending (sending : (s.port p).sending.isSome = true) : s.arbitratePort p = s := if_pos sending

theorem State.arbitratePort_free (free : (s.port p).sending = none) : s.arbitratePort p = s.serveNext p := if_neg (by simp [free])

theorem State.arbitrate_station (s : State) : s.arbitrate.station = (s.arbitratePort .station).station :=
  (State.arbitratePort_other _).1

/-- A reply that waits at the free system port begins, under the flag as the station port's arbiter left it. -/
theorem State.arbitrate_system_reply (free : s.system.sending = none) (waits : s.system.replies = f :: rest) :
    s.arbitrate.system = s.system.replying f rest s.arbitrate.station.dropped := by
  have same : (s.arbitratePort .station).system = s.system := s.arbitratePort_other.2
  rw [State.arbitrate_station, State.arbitrate, State.arbitratePort_free (by rwa [State.port_system, same]),
    State.serveNext_reply (f := f) (rest := rest) (by rwa [State.port_system, same]), State.port_system, same]
  rfl

/-- Between events the arbiters find nothing to do. -/
theorem State.Quiet.arbitrate_eq (quiet : s.Quiet) : s.arbitrate = s := State.arbitrate_idle s quiet.1 quiet.2

/-- A reply changes its port's record alone. -/
theorem State.reply_sameBlocks (s : State) (p : Port) (kind tag : Byte) (status : Status) (fields : List Byte) :
    s.SameBlocks (s.reply p kind tag status fields) := by constructor <;> simp

theorem State.report_sameBlocks (s : State) (kind : Byte) (payload : List Byte) : s.SameBlocks (s.report kind payload) := by
  constructor <;> simp

theorem State.arbitrate_sameBlocks (s : State) : s.SameBlocks s.arbitrate := by constructor <;> simp

theorem PortCtl.reported_room {c : PortCtl} (room : c.reports.length < 16) (f : Frame) :
    c.reported f = { c with reports := c.reports ++ [f] } := if_pos room

theorem PortCtl.reported_full {c : PortCtl} (full : 16 ≤ c.reports.length) (f : Frame) : c.reported f = { c with dropped := true } :=
  if_neg (by omega)

/-! ### The end of a transmission (R181) -/

theorem exec_transmissionComplete (running : s.power = .running) :
    exec (.transmissionComplete p) s = .next (s.takeTransmitted p).arbitrate :=
  congrArg _ (State.event_running running _)

/-- The state with the port's transmitter free. -/
def State.freed (s : State) (p : Port) : State := s.setPort p { s.port p with sending := none }

/-- The end of a frame frees the transmitter for what waits, where no reset falls due. -/
theorem State.takeTransmitted_served {sent : Frame} (sending : (s.port p).sending = some sent)
    (noReset : p = .station → s.unit.resetPending = false) :
    s.takeTransmitted p = (s.freed p).serveNext p := by
  rw [State.takeTransmitted, sending]
  exact if_neg fun ⟨station, due, _⟩ => by simp [noReset station] at due

/-- The station port's transmitter begins what stands first, and the arbiters then find nothing to do. -/
theorem exec_transmissionComplete_station {sent : Frame} {c : PortCtl} (running : s.power = .running)
    (noReset : s.unit.resetPending = false) (system : s.system.sending.isSome = true ∨ s.system.replies = [])
    (sending : s.station.sending = some sent)
    (serves : (s.freed .station).serveNext .station = s.setStation c)
    (idle : c.sending = none → c.replies = [] ∧ c.reports = []) :
    exec (.transmissionComplete .station) s = .next (s.setStation c) := by
  rw [exec_transmissionComplete running, State.takeTransmitted_served (p := .station) sending fun _ => noReset]
  exact congrArg _ ((congrArg State.arbitrate serves).trans
    (State.arbitrate_idle _ idle fun free => system.resolve_left fun busy => by simp [show s.system.sending = none from free] at busy))

/-- The system port's transmitter begins what stands first, and the arbiters then find nothing to do. -/
theorem exec_transmissionComplete_system {sent : Frame} {c : PortCtl} (running : s.power = .running) (quiet : s.Quiet)
    (sending : s.system.sending = some sent)
    (serves : (s.freed .system).serveNext .system = s.setSystem c)
    (idle : c.sending = none → c.replies = []) : exec (.transmissionComplete .system) s = .next (s.setSystem c) := by
  rw [exec_transmissionComplete running, State.takeTransmitted_served (p := .system) sending nofun]
  exact congrArg _ ((congrArg State.arbitrate serves).trans (State.arbitrate_idle _ quiet.1 idle))

end

end Sys2Proof.Machine

/-! CERTIFICATE. Replies, reports and arbiters (O5), and the end of a frame on the station port (O10). -/

namespace Sys2Proof
open Sys2Proof.Machine

/-- Settles O5: each operation goes by one port's record, and the arbiters serve the two ports one after the other. -/
theorem repliesAndArbitersTouchThePortsAlone : Obligations.RepliesAndArbitersTouchThePortsAlone := by
  refine ⟨fun s p kind tag status fields payload => ⟨s.reply_sameBlocks .., s.setPort_port p _, fun q other => ?_,
      s.report_sameBlocks .., by simp, fun room => ?_, fun full => ?_⟩,
    fun s => ⟨s.arbitrate_sameBlocks, by simp, fun sending => ?_, fun f rest free waits => ?_,
      fun f rest free empty waits => ?_, fun free empty silent => ?_, fun idle => ?_, fun f rest => State.arbitrate_system_reply,
      State.Quiet.arbitrate_eq⟩,
    fun f dropped => ⟨fun kind ok => ?_, fun other => ?_⟩,
    fun s f running quiet sending => ⟨fun r rest waits => ?_, fun empty => ?_⟩⟩
  · exact s.setPort_port_of_ne _ other.symm
  · rw [State.report_reported, PortCtl.reported_room room]
  · rw [State.report_reported, PortCtl.reported_full full]
  · rw [State.arbitrate_station, State.arbitratePort_sending (p := .station) sending]
  · rw [State.arbitrate_station, State.arbitratePort_free (p := .station) free, State.serveNext_reply (p := .station) waits]
    rfl
  · rw [State.arbitrate_station, State.arbitratePort_free (p := .station) free, State.serveNext_report empty waits]
    rfl
  · rw [State.arbitrate_station, State.arbitratePort_free (p := .station) free, State.serveNext_idle (p := .station) empty fun _ => silent]
  · exact State.arbitrate_system_quiet fun free => idle.resolve_left (by simp [free])
  · have carries := f.isStatusReply_iff.mpr ⟨kind, ok⟩
    exact ⟨carries, Frame.begun_statusReply carries dropped⟩
  · have plain : f.isStatusReply = false := by
      rw [Bool.eq_false_iff, ne_eq, Frame.isStatusReply_iff]
      exact fun carries => other.elim (· carries.1) (· carries.2)
    exact ⟨plain, Frame.begun_other plain dropped⟩
  · exact exec_transmissionComplete_system running quiet sending (State.serveNext_reply (s := s.freed .system) waits) nofun
  · exact exec_transmissionComplete_system running quiet sending (State.serveNext_idle empty nofun) fun _ => empty

/-- Settles O10: the four cases are what the freed transmitter finds at the heads of the two queues. -/
theorem transmitterServesRepliesFirst : Obligations.TransmitterServesRepliesFirst := by
  intro s f r rest running noReset system sending
  have ends {c : PortCtl} := exec_transmissionComplete_station (c := c) running noReset system sending
  refine ⟨fun waits plain => ends ?_ nofun, fun waits carries => ends ?_ nofun, fun empty waits => ends ?_ nofun,
    fun empty silent => ends ?_ fun _ => ⟨empty, silent⟩⟩
  · refine (State.serveNext_reply (s := s.freed .station) (p := .station) waits).trans ?_
    simp [State.freed, PortCtl.replying, Frame.begun_other plain, plain]
  · refine (State.serveNext_reply (s := s.freed .station) (p := .station) waits).trans ?_
    simp [State.freed, PortCtl.replying, Frame.begun_statusReply carries, carries]
  · exact State.serveNext_report empty waits
  · exact State.serveNext_idle empty fun _ => silent

end Sys2Proof

/-! SUPPORT. Frames that are discarded (R178), and all that a request on the system port can do (R179). -/

namespace Sys2Proof.Machine
open Sys2Proof

/-! ### Faults (R178) -/

/-- The fields of FRAME_ERROR: presence of the length, reason, bytes received, length. -/
def FrameFault.fields (reason : FrameFault) (received : Nat) (length : Option Nat) : List Byte :=
  [bitByte [length.isSome]] ++ u8 reason.code ++ u16 received ++ optionalField 2 u16 length

theorem FrameFault.fields_some (reason : FrameFault) (received length : Nat) :
    reason.fields received (some length) = [1, BitVec.ofNat 8 reason.code] ++ u16 received ++ u16 length := by
  rw [FrameFault.fields, Option.isSome_some, show bitByte [true] = 1 by decide]
  rfl

theorem FrameFault.fields_none (reason : FrameFault) (received : Nat) :
    reason.fields received none = [0, BitVec.ofNat 8 reason.code] ++ u16 received ++ [0, 0] := rfl

section
variable {s : State} {p : Port} {tag : Byte} {r : Request}

theorem State.discardFrame_eq (s : State) (p : Port) (reason : FrameFault) (received : Nat) (length : Option Nat) :
    s.discardFrame p reason received length =
      if p = .station ∧ s.unit.resetPending = false then s.report 0x79 (reason.fields received length) else s := rfl

theorem State.discardFrame_station (noReset : s.unit.resetPending = false) (reason : FrameFault) (received : Nat) (length : Option Nat) :
    s.discardFrame .station reason received length = s.report 0x79 (reason.fields received length) := if_pos ⟨rfl, noReset⟩

/-- The system port is silent about its faults. -/
theorem State.discardFrame_system (s : State) (reason : FrameFault) (received : Nat) (length : Option Nat) :
    s.discardFrame .system reason received length = s := if_neg (by simp)

/-- So is either port while reset pending is yes. -/
theorem State.discardFrame_resetPending (due : s.unit.resetPending = true) (p : Port) (reason : FrameFault) (received : Nat)
    (length : Option Nat) : s.discardFrame p reason received length = s := if_neg (by simp [due])

/-! ### Frames that are not delivered (R163, R178) -/

theorem State.arrive_overrun (full : overrunThreshold p ≤ (s.port p).replies.length) (kind tag : Byte) (request : Option Request)
    (length : Nat) : s.arrive p kind tag request length = s.discardFrame p .overrun (length + 7) (some (length + 2)) := if_pos full

theorem State.arrive_resetPending (due : s.unit.resetPending = true) (p : Port) (kind tag : Byte) (request : Option Request)
    (length : Nat) : s.arrive p kind tag request length = s := by
  by_cases full : overrunThreshold p ≤ (s.port p).replies.length
  · rw [State.arrive_overrun full, State.discardFrame_resetPending due]
  · rw [State.arrive, if_neg full, if_pos due]

/-! ### Requests on the system port (R179) -/

/-- The state is as it was, or a reply has joined the system port's queue. -/
def State.RepliesOnSystem (s t : State) : Prop := t = s ∨ ∃ f, t = s.passReply .system f

theorem State.repliesOnSystem_refuse (s : State) (kind tag : Byte) (status : Status) :
    s.RepliesOnSystem (s.refuse .system kind tag status) := .inr ⟨_, rfl⟩

/-- The owners that the system port reaches only reply there. -/
theorem State.takeRequest_repliesOnSystem (s : State) (tag : Byte) (served : r.kind ∈ systemKinds) :
    s.RepliesOnSystem (s.takeRequest .system tag r) := by
  cases r with
  | status => exact .inr ⟨_, rfl⟩
  | readRegion => exact .inr ⟨_, rfl⟩
  | keyFetch id offset count =>
    show s.RepliesOnSystem (s.takeKeyFetch tag id offset count)
    unfold State.takeKeyFetch
    repeat' split
    all_goals exact .inr ⟨_, rfl⟩
  | _ => simp [Request.kind, systemKinds] at served

/-- Screening on the system port ends in a reply there (R179). -/
theorem State.screen_repliesOnSystem (s : State) (tag : Byte) {request : Option Request} (read : ∀ r', request = some r' → r' = r) :
    s.RepliesOnSystem (s.screen .system r.kind tag request) := by
  by_cases served : r.kind ∈ systemKinds
  · by_cases tagged : tag = 0
    · rw [tagged, State.screen_untagged (p := .system) (fun _ => served) nofun]
      exact s.repliesOnSystem_refuse ..
    · cases request with
      | none =>
        rw [State.screen_unsuited (p := .system) (fun _ => served) nofun tagged]
        exact s.repliesOnSystem_refuse ..
      | some r' =>
        rw [read r' rfl, State.screen_passed (p := .system) tagged (fun _ => served) nofun nofun]
        exact s.takeRequest_repliesOnSystem tag served
  · rw [State.screen_not_served served]
    exact s.repliesOnSystem_refuse ..

/-- A frame on the system port comes to a reply there, or to nothing (R163, R178, R179). -/
theorem State.arrive_repliesOnSystem (s : State) (tag : Byte) {request : Option Request} (read : ∀ r', request = some r' → r' = r)
    (length : Nat) : s.RepliesOnSystem (s.arrive .system r.kind tag request length) := by
  by_cases full : overrunThreshold .system ≤ (s.port .system).replies.length
  · rw [State.arrive_overrun full, State.discardFrame_system]
    exact .inl rfl
  · cases due : s.unit.resetPending with
    | true => exact .inl (State.arrive_resetPending due ..)
    | false =>
      rw [State.arrive_screened (Nat.lt_of_not_le full) due]
      exact s.screen_repliesOnSystem tag read

/-- A reply on the system port leaves the blocks alone, and the arbiters after it leave a quiet part's station port alone. -/
theorem State.RepliesOnSystem.arbitrated {t : State} (h : s.RepliesOnSystem t) :
    s.SameBlocks t.arbitrate ∧ (s.Quiet → t.arbitrate.station = s.station) := by
  have station : t.station = s.station := by obtain rfl | ⟨f, rfl⟩ := h <;> rfl
  refine ⟨?_, fun quiet => by rw [State.arbitrate_station_congr station, quiet.arbitrate_eq]⟩
  obtain rfl | ⟨f, rfl⟩ := h
  · exact t.arbitrate_sameBlocks
  · constructor <;> simp

/-- A request on the system port of a running part replies there at most; while a reset is held it does nothing (log 2). -/
theorem exec_request_system {c : Instr} {t : State} (command : c.request? = some (.system, tag, r)) (run : exec c s = .next t) :
    t = s ∨ ∃ u, s.RepliesOnSystem u ∧ t = u.arbitrate := by
  rw [exec_request command, State.request] at run
  split at run
  · obtain rfl := Host.Outcome.next.inj run
    by_cases running : s.power = .running
    · rw [State.event_running running]
      refine .inr ⟨_, s.arrive_repliesOnSystem tag (fun r' read => ?_) _, rfl⟩
      split at read
      · exact (Option.some.inj read).symm
      · contradiction
    · exact .inl (State.event_held running _)
  · contradiction

end

end Sys2Proof.Machine

/-! CERTIFICATE. Frames that are not delivered (O6), and requests on the system port (O8). -/

namespace Sys2Proof
open Sys2Proof.Machine

/-- Settles O6: the threshold is looked at first, and then a pending reset. -/
theorem someFramesAreNotDelivered : Obligations.SomeFramesAreNotDelivered := by
  refine ⟨fun c tag r s wf running noReset => ⟨fun command full => ?_, fun command full => ?_⟩,
    fun c p tag r s command wf running due => ?_⟩
  · rw [exec_request command, State.request_running wf running, State.arrive_overrun (p := .station) full, State.discardFrame_station noReset,
      FrameFault.fields_some]
    rfl
  · rw [exec_request command, State.request_running wf running, State.arrive_overrun (p := .system) full, State.discardFrame_system]
  · rw [exec_request command, State.request_running wf running, State.arrive_resetPending due]

/-- Settles O8: what a request on the system port can do is reply there. -/
theorem systemPortReadsAlone : Obligations.SystemPortReadsAlone := by
  intro c tag r s t command run
  obtain rfl | ⟨u, replies, rfl⟩ := exec_request_system command run
  · exact ⟨.refl t, fun _ => rfl⟩
  · exact replies.arbitrated

end Sys2Proof

/-! SUPPORT. The receiver byte by byte (R176, R177), and a whole frame at its last byte. -/

namespace Sys2Proof.Machine
open Sys2Proof

/-! ### A frame's bytes (R175) -/

/-- The bytes of a half put together from two. -/
theorem half_bytes (lo hi : Byte) : (half lo hi).bytes = [lo, hi] := by
  unfold Half.bytes half
  congr 1
  · ext i within
    rw [BitVec.getElem_extractLsb']
    exact BitVec.getLsbD_append.trans (by simp [within])
  · congr 1
    ext i within
    rw [BitVec.getElem_extractLsb']
    exact BitVec.getLsbD_append.trans (by simp [within])

/-- What a frame's CRC-16 covers. -/
def Frame.covered (f : Frame) : List Byte := u16 (f.payload.length + 2) ++ f.kind :: f.tag :: f.payload

section
variable {f : Frame}

theorem Frame.wire_eq (f : Frame) : f.wire = 0xA5 :: (f.covered ++ Half.bytes (crc16 f.covered)) := rfl

theorem Frame.covered_length (f : Frame) : f.covered.length = f.payload.length + 4 := by
  simp [Frame.covered, u16, Half.bytes]

theorem Frame.wire_length (f : Frame) : f.wire.length = f.payload.length + 7 := by
  simp [Frame.wire_eq, Frame.covered_length, Half.bytes]

theorem Frame.coveredBytes_wire (f : Frame) : coveredBytes f.wire (f.payload.length + 2) = f.covered := by
  rw [coveredBytes, Frame.wire_eq, List.drop_one, List.tail_cons, List.take_append_of_le_length (by rw [f.covered_length]),
    List.take_of_length_le (by rw [f.covered_length])]

theorem Frame.receivedCrc_wire (f : Frame) : receivedCrc f.wire (f.payload.length + 2) = crc16 f.covered := by
  have crc (i : Nat) (default : Byte) :
      f.wire.getD (f.payload.length + 2 + (3 + i)) default = (Half.bytes (crc16 f.covered)).getD i default := by
    rw [Frame.wire_eq, show f.payload.length + 2 + (3 + i) = f.covered.length + i + 1 by rw [f.covered_length]; omega,
      List.getD_cons_succ, List.getD_append_right _ _ _ _ (Nat.le_add_right ..), Nat.add_sub_cancel_left]
  rw [receivedCrc, crc 0, crc 1]
  exact half_extract _

theorem Frame.length_wire (fits : f.payload.length ≤ 1024) : (BitVec.ofNat 16 (f.payload.length + 2)).toNat = f.payload.length + 2 := by
  rw [BitVec.toNat_ofNat, Nat.mod_eq_of_lt (by omega)]

/-- The length field that a buffer holds once both its bytes are there. -/
def bufferLength : List Byte → Option Nat
  | _ :: lo :: hi :: _ => some (half lo hi).toNat
  | _ => none

theorem PortCtl.lengthField_eq (c : PortCtl) : c.lengthField = bufferLength c.buffer := rfl

/-- The length field stays as more bytes come. -/
theorem bufferLength_append {buffer : List Byte} {l : Nat} (known : bufferLength buffer = some l) (bytes : List Byte) :
    bufferLength (buffer ++ bytes) = some l := by
  match buffer with
  | _ :: _ :: _ :: _ => exact known
  | [] | [_] | [_, _] => exact nomatch known

theorem Frame.bufferLength_wire (fits : f.payload.length ≤ 1024) : bufferLength f.wire = some (f.payload.length + 2) := by
  simp [bufferLength, Frame.wire_eq, Frame.covered, u16, Half.bytes, Frame.length_wire fits]

/-! ### One byte (R176) -/

variable {s : State} {p : Port} {b : Byte}

theorem exec_byteReceived (running : s.power = .running) (stopBit : Bool) :
    exec (.byteReceived p b stopBit) s = .next (s.takeCharacter p b stopBit).arbitrate :=
  congrArg _ (State.event_running running _)

theorem exec_portGapTimerExpiry (running : s.power = .running) :
    exec (.portGapTimerExpiry p) s = .next (s.takePortGap p).arbitrate :=
  congrArg _ (State.event_running running _)

theorem exec_goodByte (running : s.power = .running) : exec (.byteReceived p b true) s = .next (s.receiveByte p b).arbitrate :=
  exec_byteReceived running true

theorem State.receiveByte_hunt (stage : (s.port p).stage = .hunt) :
    s.receiveByte p b = if b = 0xA5 then s.keepByte p [b] .length else s := by
  unfold State.receiveByte
  dsimp only
  rw [stage]

/-- The first length byte is kept. -/
theorem State.receiveByte_lengthLow {start : Byte} (stage : (s.port p).stage = .length) (buffer : (s.port p).buffer = [start]) :
    s.receiveByte p b = s.keepByte p [start, b] .length := by
  unfold State.receiveByte
  dsimp only
  rw [stage, buffer]
  rfl

/-- The second length byte is judged with the first. -/
theorem State.receiveByte_lengthHigh {start lo : Byte} (stage : (s.port p).stage = .length) (buffer : (s.port p).buffer = [start, lo]) :
    s.receiveByte p b =
      if 2 ≤ (half lo b).toNat ∧ (half lo b).toNat ≤ 1026 then s.keepByte p [start, lo, b] .body
      else s.abandon p .length 3 (some (half lo b).toNat) := by
  unfold State.receiveByte
  dsimp only
  rw [stage, buffer]
  rfl

/-- A body byte is kept; the last one leads on to the CRC. -/
theorem State.receiveByte_body {l : Nat} (stage : (s.port p).stage = .body) (known : bufferLength (s.port p).buffer = some l) :
    s.receiveByte p b =
      s.keepByte p ((s.port p).buffer ++ [b]) (if 3 + l ≤ (s.port p).buffer.length + 1 then .crc else .body) := by
  unfold State.receiveByte
  dsimp only
  rw [stage]
  simp only [PortCtl.lengthField_eq, bufferLength_append known, Option.getD_some, List.length_append, List.length_singleton]

/-- The second CRC byte completes the frame. -/
theorem State.receiveByte_crc {l : Nat} (stage : (s.port p).stage = .crc)
    (known : bufferLength ((s.port p).buffer ++ [b]) = some l) :
    s.receiveByte p b =
      if 5 + l ≤ (s.port p).buffer.length + 1 then s.frameComplete p ((s.port p).buffer ++ [b]) l
      else s.keepByte p ((s.port p).buffer ++ [b]) .crc := by
  unfold State.receiveByte
  dsimp only
  rw [stage]
  simp only [PortCtl.lengthField_eq, known, Option.getD_some, List.length_append, List.length_singleton]

/-! ### The end of a frame (R176, R178) -/

/-- An abandoned frame leaves the receiver hunting, and FRAME_ERROR where the port reports it. -/
theorem State.abandon_eq (s : State) (p : Port) (reason : FrameFault) (received : Nat) (length : Option Nat) :
    s.abandon p reason received length =
      if p = .station ∧ s.unit.resetPending = false then
        (s.setPort p (s.port p).hunting).report 0x79 (reason.fields received length)
      else s.setPort p (s.port p).hunting := by
  rw [State.abandon, State.discardFrame_eq, State.setPort_unit]

theorem State.frameComplete_damaged {buffer : List Byte} {l : Nat} (damaged : crc16 (coveredBytes buffer l) ≠ receivedCrc buffer l) :
    s.frameComplete p buffer l = s.abandon p .crc buffer.length (some l) := if_neg damaged

/-- The bytes of a frame arrive as its kind, tag and payload. -/
theorem State.frameComplete_wire (s : State) (p : Port) (f : Frame) :
    s.frameComplete p f.wire (f.payload.length + 2) =
      (s.setPort p (s.port p).hunting).arrive p f.kind f.tag (parseRequest f.kind f.payload) f.payload.length := by
  have payload : (f.wire.drop 5).take f.payload.length = f.payload := List.take_left
  have intact : crc16 (coveredBytes f.wire (f.payload.length + 2)) = receivedCrc f.wire (f.payload.length + 2) := by
    rw [f.coveredBytes_wire, f.receivedCrc_wire]
  rw [State.frameComplete, if_pos intact, Nat.add_sub_cancel, payload]
  rfl

/-- The last byte of a frame delivers it. -/
theorem State.receiveByte_wire (stage : (s.port p).stage = .crc) (whole : (s.port p).buffer ++ [b] = f.wire)
    (fits : f.payload.length ≤ 1024) :
    s.receiveByte p b =
      (s.setPort p (s.port p).hunting).arrive p f.kind f.tag (parseRequest f.kind f.payload) f.payload.length := by
  have count : (s.port p).buffer.length + 1 = f.payload.length + 7 := by
    rw [← f.wire_length, ← whole, List.length_append, List.length_singleton]
  rw [State.receiveByte_crc stage (by rw [whole, Frame.bufferLength_wire fits]), if_pos (by omega), whole, State.frameComplete_wire]

/-! ### Kinds that name no request (R179, R180) -/

/-- The system port serves no kind that names no request. -/
theorem systemKinds_subset {kind : Byte} (served : kind ∈ systemKinds) : kind ∈ requestKinds := by
  simp only [systemKinds, List.mem_cons, List.not_mem_nil, or_false] at served
  obtain rfl | rfl | rfl := served <;> decide

theorem State.screen_unknown {kind : Byte} (s : State) (p : Port) (tag : Byte) (request : Option Request) (unknown : kind ∉ requestKinds) :
    s.screen p kind tag request = s.refuseKind p kind tag (if p = .station then .unknownKind else .denied) := by
  unfold State.screen
  cases p with
  | station => rw [if_neg (by simp), if_pos unknown, if_pos rfl]
  | system => rw [if_pos ⟨rfl, mt systemKinds_subset unknown⟩, if_neg (by simp)]

/-- A refused kind outside 0x01 to 0x7F is answered under 0xFF (R180). -/
theorem refusedKind_eq (kind : Byte) :
    (if kind = 0 ∨ 0x80 ≤ kind.toNat then 0xFF else kind + 0x80 : Byte) =
      if 1 ≤ kind.toNat ∧ kind.toNat ≤ 0x7F then kind + 0x80 else 0xFF := by
  have zero : kind = 0 ↔ kind.toNat = 0 := BitVec.toNat_eq
  by_cases inside : 1 ≤ kind.toNat ∧ kind.toNat ≤ 0x7F
  · rw [if_pos inside, if_neg (by rw [zero]; omega)]
  · rw [if_neg inside, if_pos (by rw [zero]; omega)]

end

end Sys2Proof.Machine

/-! CERTIFICATE. The receiver (O9). -/

namespace Sys2Proof
open Sys2Proof.Machine

/-- Settles O9: each clause is one case of the receiver's stage and of what its buffer holds. -/
theorem receiverAssemblesAndAbandonsFrames : Obligations.ReceiverAssemblesAndAbandonsFrames := by
  intro s p b lo running kept hunting ends buffer
  have count : buffer.length = (s.port p).buffer.length := rfl
  have good {c : Byte} {t : State} (receives : s.receiveByte p c = t) : exec (.byteReceived p c true) s = .next t.arbitrate := by
    rw [exec_goodByte running, receives]
  have fault {reason : FrameFault} {received : Nat} {length : Option Nat} {bytes : List Byte}
      (fields : reason.fields received length = bytes) : .next (s.abandon p reason received length).arbitrate = ends bytes := by
    rw [State.abandon_eq, fields]
    rfl
  have character (assembling : (s.port p).stage ≠ .hunt) {bytes : List Byte}
      (fields : FrameFault.character.fields (buffer.length + 1) (s.port p).lengthField = bytes) :
      exec (.byteReceived p b false) s = ends bytes := by
    rw [exec_byteReceived running, ← fault fields]
    exact congrArg (fun t : State => Host.Outcome.next t.arbitrate) (if_neg assembling)
  have gap (timed : (s.port p).gapRunning = true) {bytes : List Byte}
      (fields : FrameFault.gap.fields buffer.length (s.port p).lengthField = bytes) :
      exec (.portGapTimerExpiry p) s = ends bytes := by
    rw [exec_portGapTimerExpiry running, State.takePortGap, if_pos timed, ← fault fields]
  refine ⟨fun stage => ⟨?_, fun other => ?_, ?_⟩, fun stage opened => ?_, fun stage opened => ⟨fun low high => ?_, fun outside => ?_⟩,
    fun l known => ⟨fun stage short => ?_, fun stage last => ?_, fun stage first => ?_, fun stage second damaged => ?_,
      fun assembling => ?_, fun timed => ?_⟩,
    fun none => ⟨fun assembling => ?_, fun timed => ?_⟩, fun stopped => ?_, fun f stage whole fits noReset room unknown => ?_⟩
  · exact good ((State.receiveByte_hunt stage).trans (if_pos rfl))
  · exact good ((State.receiveByte_hunt stage).trans (if_neg other))
  · rw [exec_byteReceived running]
    exact congrArg (fun t : State => Host.Outcome.next t.arbitrate) (if_pos stage)
  · exact good (State.receiveByte_lengthLow stage opened)
  · exact good ((State.receiveByte_lengthHigh stage opened).trans (if_pos ⟨low, high⟩))
  · rw [good ((State.receiveByte_lengthHigh stage opened).trans (if_neg (by omega)))]
    exact fault (by rw [FrameFault.fields_some, u16_toNat, half_bytes]; rfl)
  · exact good ((State.receiveByte_body stage known).trans (congrArg (s.keepByte p _) (if_neg (by omega))))
  · exact good ((State.receiveByte_body stage known).trans (congrArg (s.keepByte p _) (if_pos (by omega))))
  · exact good ((State.receiveByte_crc stage (bufferLength_append known _)).trans (if_neg (by omega)))
  · rw [good ((State.receiveByte_crc stage (bufferLength_append known _)).trans (if_pos (by omega))),
      State.frameComplete_damaged damaged]
    exact fault (by rw [FrameFault.fields_some, List.length_append, second]; rfl)
  · exact character assembling (by rw [known, FrameFault.fields_some]; rfl)
  · exact gap timed (by rw [known, FrameFault.fields_some]; rfl)
  · exact character assembling (by rw [none, FrameFault.fields_none]; rfl)
  · exact gap timed (by rw [none, FrameFault.fields_none]; rfl)
  · rw [exec_portGapTimerExpiry running, State.takePortGap, if_neg (by simp [stopped])]
  · have room' : (hunting.port p).replies.length < overrunThreshold p := by rwa [State.setPort_port]
    have noReset' : hunting.unit.resetPending = false := by rwa [State.setPort_unit]
    have refused : s.receiveByte p b = hunting.refuseKind p f.kind f.tag (if p = .station then .unknownKind else .denied) := by
      rw [State.receiveByte_wire stage whole fits]
      exact (State.arrive_screened room' noReset' ..).trans (State.screen_unknown _ _ _ _ unknown)
    rw [good refused, State.refuseKind, refusedKind_eq]
    cases p <;> rfl

end Sys2Proof

/-! SUPPORT. A request's payload read back (R186, R187), and the bytes of a whole frame taken one by one. -/

namespace Sys2Proof.Machine
open Sys2Proof

/-! ### Payloads (R186, R187) -/

theorem halvesBytes_length (hs : List Half) : (halvesBytes hs).length = 2 * hs.length := by
  induction hs with
  | nil => rfl
  | cons h hs ih =>
    simp only [halvesBytes, List.flatMap_cons, Half.bytes, List.length_append, List.length_cons, List.length_nil] at ih ⊢
    omega

theorem halves_halvesBytes (hs : List Half) : halves (halvesBytes hs) = some hs := by
  induction hs with
  | nil => rfl
  | cons h hs ih =>
    show (halves (halvesBytes hs)).map (half (h.extractLsb' 0 8) (h.extractLsb' 8 8) :: ·) = some (h :: hs)
    rw [ih, half_extract, Option.map_some]

theorem halvesOf_halvesBytes (n : Nat) (hs : List Half) : halvesOf n (halvesBytes hs) = if hs.length = n then some hs else none := by
  rw [halvesOf, halvesBytes_length, halves_halvesBytes]
  exact if_congr (by omega) rfl rfl

/-- A run of the length that a kind fixes is read as that request. -/
theorem map_halvesOf (n : Nat) (hs : List Half) (request : List Half → Request) :
    (halvesOf n (halvesBytes hs)).map request = if hs.length = n then some (request hs) else none := by
  rw [halvesOf_halvesBytes]
  split <;> rfl

/-- A request's payload has the length of its fields. -/
theorem Request.length_payload (r : Request) : r.payload.length = r.payloadLength := by
  cases r <;> simp [Request.payload, Request.payloadLength, Half.bytes, Quad.bytes, halvesBytes_length] <;> omega

/-- A frame can carry the payload (R175). -/
theorem Request.payload_fits {r : Request} (wf : r.wellFormed = true) : r.payload.length ≤ 1024 := by
  rw [Request.length_payload]
  simp only [Request.wellFormed, Bool.and_eq_true, decide_eq_true_eq] at wf
  exact wf.1

/-- A request that a frame can carry is read back from its kind and payload, where its length suits its kind. -/
theorem parseRequest_payload {r : Request} (wf : r.wellFormed = true) :
    parseRequest r.kind r.payload = if r.lengthSuits then some r else none := by
  have fits := Request.payload_fits wf
  rw [Request.length_payload] at fits
  cases r with
  | openUnit given serial =>
    have count : serial.length ≤ 255 := by simpa [Request.wellFormed] using (Bool.and_eq_true_iff.mp wf).2
    simp [Request.kind, Request.payload, Request.lengthSuits, parseRequest, Half.bytes, Nat.mod_eq_of_lt (Nat.lt_succ_of_le count)]
  | keyBegin id cls length check regions =>
    have count : regions.length ≤ 255 := by simpa [Request.wellFormed] using (Bool.and_eq_true_iff.mp wf).2
    simp [Request.kind, Request.payload, Request.lengthSuits, parseRequest, Half.bytes, Quad.bytes, halvesOf_halvesBytes,
      Nat.mod_eq_of_lt (Nat.lt_succ_of_le count)]
  | keyChunk id offset body =>
    have count : body.length ≤ 65535 := by
      simp only [Request.payloadLength] at fits
      omega
    simp [Request.kind, Request.payload, Request.lengthSuits, parseRequest, Half.bytes, Nat.mod_eq_of_lt (Nat.lt_succ_of_le count)]
  | _ => simp [Request.kind, Request.payload, Request.lengthSuits, parseRequest, Half.bytes, Quad.bytes, map_halvesOf]

/-! ### A run of bytes -/

theorem execAll_cons {c : Instr} {s t : State} (run : exec c s = .next t) (rest : List Instr) : execAll (c :: rest) s = execAll rest t := by
  rw [execAll, run]

theorem execAll_append {first : List Instr} {s t : State} (run : execAll first s = .next t) (rest : List Instr) :
    execAll (first ++ rest) s = execAll rest t := by
  induction first generalizing s with
  | nil => rw [Host.Outcome.next.inj run, List.nil_append]
  | cons c first ih =>
    rw [List.cons_append, execAll]
    rw [execAll] at run
    split at run
    · exact ih run
    · contradiction
    · contradiction

/-- The commands that bring a port these bytes, each with its stop bit. -/
def received (p : Port) (bytes : List Byte) : List Instr := bytes.map (fun b => .byteReceived p b true)

section
variable {s : State} {p : Port}

/-- Keeping a byte leaves the transmitters' side of the ports alone. -/
theorem State.Quiet.keepByte (quiet : s.Quiet) (p : Port) (buffer : List Byte) (stage : RxStage) : (s.keepByte p buffer stage).Quiet := by
  cases p <;> exact quiet

theorem State.keepByte_keepByte (s : State) (p : Port) (buffer buffer' : List Byte) (stage stage' : RxStage) :
    (s.keepByte p buffer stage).keepByte p buffer' stage' = s.keepByte p buffer' stage' := by cases p <;> rfl

theorem State.keepByte_port (s : State) (p : Port) (buffer : List Byte) (stage : RxStage) :
    (s.keepByte p buffer stage).port p = { s.port p with stage := stage, buffer := buffer, gapRunning := true } := State.setPort_port ..

theorem State.keepByte_running (running : s.power = .running) (p : Port) (buffer : List Byte) (stage : RxStage) :
    (s.keepByte p buffer stage).power = .running := by rwa [(s.keepByte_frame ..).1]

/-- A hunting receiver that has assembled something stands, once it hunts again, as it stood before. -/
theorem State.keepByte_hunting (hunts : (s.port p).Hunting) (buffer : List Byte) (stage : RxStage) :
    (s.keepByte p buffer stage).setPort p ((s.keepByte p buffer stage).port p).hunting = s := by
  obtain ⟨stage', buffer', gap⟩ := hunts
  have same : (s.port p).hunting = s.port p := by rw [PortCtl.hunting, ← stage', ← buffer', ← gap]
  have back : (s.keepByte p buffer stage).setPort p (s.port p) = s := by cases p <;> rfl
  rw [State.keepByte_port]
  exact (congrArg _ same).trans back

/-- A kept byte leaves a quiet part's arbiters nothing to do. -/
theorem exec_keptByte {u : State} {b : Byte} {buffer : List Byte} {stage : RxStage} (running : u.power = .running) (quiet : s.Quiet)
    (kept : u.receiveByte p b = s.keepByte p buffer stage) : exec (.byteReceived p b true) u = .next (s.keepByte p buffer stage) := by
  rw [exec_goodByte running, kept, (quiet.keepByte p buffer stage).arbitrate_eq]

/-- The receiver with the length bytes and then some bytes of the body and the CRC assembled. -/
def State.assembled (s : State) (p : Port) (lo hi : Byte) (bytes : List Byte) : State :=
  s.keepByte p (0xA5 :: lo :: hi :: bytes) (if (half lo hi).toNat ≤ bytes.length then .crc else .body)

theorem State.assembled_running (running : s.power = .running) (p : Port) (lo hi : Byte) (bytes : List Byte) :
    (s.assembled p lo hi bytes).power = .running := State.keepByte_running running ..

theorem State.assembled_hunting (hunts : (s.port p).Hunting) (lo hi : Byte) (bytes : List Byte) :
    (s.assembled p lo hi bytes).setPort p ((s.assembled p lo hi bytes).port p).hunting = s := State.keepByte_hunting hunts ..

/-- A byte before the frame's last is kept. -/
theorem State.receiveByte_assembled {lo hi : Byte} {bytes : List Byte} (inside : bytes.length ≤ (half lo hi).toNat) (b : Byte) :
    (s.assembled p lo hi bytes).receiveByte p b = s.assembled p lo hi (bytes ++ [b]) := by
  have port : (s.assembled p lo hi bytes).port p = _ := s.keepByte_port ..
  have buffer : ((s.assembled p lo hi bytes).port p).buffer = 0xA5 :: lo :: hi :: bytes := congrArg PortCtl.buffer port
  have known : bufferLength ((s.assembled p lo hi bytes).port p).buffer = some (half lo hi).toNat := by rw [buffer]; rfl
  by_cases last : (half lo hi).toNat ≤ bytes.length
  · have stage : ((s.assembled p lo hi bytes).port p).stage = .crc := (congrArg PortCtl.stage port).trans (if_pos last)
    rw [State.receiveByte_crc stage (bufferLength_append known _), buffer, if_neg (by simp only [List.length_cons]; omega),
      State.assembled, State.keepByte_keepByte, State.assembled, if_pos (by simp only [List.length_append]; omega)]
    rfl
  · have stage : ((s.assembled p lo hi bytes).port p).stage = .body := (congrArg PortCtl.stage port).trans (if_neg last)
    rw [State.receiveByte_body stage known, buffer, State.assembled, State.keepByte_keepByte, State.assembled]
    refine congrArg (s.keepByte p _) (if_congr ?_ rfl rfl)
    simp only [List.length_append, List.length_cons, List.length_nil]
    omega

/-- The bytes of a body with the first byte of its CRC are kept one after the other. -/
theorem execAll_assembled (running : s.power = .running) (quiet : s.Quiet) {lo hi : Byte} {bytes more : List Byte}
    (inside : bytes.length + more.length ≤ (half lo hi).toNat + 1) :
    execAll (received p more) (s.assembled p lo hi bytes) = .next (s.assembled p lo hi (bytes ++ more)) := by
  induction more generalizing bytes with
  | nil => rw [List.append_nil]; rfl
  | cons b more ih =>
    rw [List.length_cons] at inside
    have kept := exec_keptByte (State.assembled_running running p lo hi bytes) quiet (State.receiveByte_assembled (by omega) b)
    rw [show received p (b :: more) = .byteReceived p b true :: received p more from rfl, execAll_cons kept,
      show bytes ++ b :: more = (bytes ++ [b]) ++ more by simp]
    exact ih (by rw [List.length_append, List.length_singleton]; omega)

/-- The start byte opens a frame, and the length bytes are kept and judged. -/
theorem execAll_header (running : s.power = .running) (quiet : s.Quiet) (hunts : (s.port p).stage = .hunt) {lo hi : Byte}
    (low : 2 ≤ (half lo hi).toNat) (high : (half lo hi).toNat ≤ 1026) :
    execAll (received p [0xA5, lo, hi]) s = .next (s.assembled p lo hi []) := by
  have stage (buffer : List Byte) : ((s.keepByte p buffer .length).port p).stage = .length := congrArg PortCtl.stage (s.keepByte_port ..)
  have buffer (bytes : List Byte) : ((s.keepByte p bytes .length).port p).buffer = bytes := congrArg PortCtl.buffer (s.keepByte_port ..)
  have first : s.receiveByte p 0xA5 = s.keepByte p [0xA5] .length := (State.receiveByte_hunt hunts).trans (if_pos rfl)
  have second : (s.keepByte p [0xA5] .length).receiveByte p lo = s.keepByte p [0xA5, lo] .length :=
    (State.receiveByte_lengthLow (stage _) (buffer _)).trans (s.keepByte_keepByte ..)
  have third : (s.keepByte p [0xA5, lo] .length).receiveByte p hi = s.assembled p lo hi [] := by
    rw [State.receiveByte_lengthHigh (stage _) (buffer _), if_pos ⟨low, high⟩, State.keepByte_keepByte, State.assembled,
      if_neg (by simp only [List.length_nil]; omega)]
  show execAll [.byteReceived p 0xA5 true, .byteReceived p lo true, .byteReceived p hi true] s = _
  rw [execAll_cons (exec_keptByte running quiet first), execAll_cons (exec_keptByte (State.keepByte_running running ..) quiet second),
    execAll_cons (exec_keptByte (State.keepByte_running running ..) quiet third)]
  rfl

/-- A frame's bytes: its header, the rest but one, and the last. -/
theorem Frame.wire_split {f : Frame} (fits : f.payload.length ≤ 1024) :
    ∃ lo hi bytes last, f.wire = [0xA5, lo, hi] ++ (bytes ++ [last]) ∧ (half lo hi).toNat = f.payload.length + 2 ∧
      bytes.length = f.payload.length + 3 := by
  obtain ⟨c0, c1, crc⟩ : ∃ c0 c1, Half.bytes (crc16 f.covered) = [c0, c1] := ⟨_, _, rfl⟩
  refine ⟨_, _, f.kind :: f.tag :: f.payload ++ [c0], c1, ?_, (congrArg BitVec.toNat (half_extract _)).trans (Frame.length_wire fits), ?_⟩
  · rw [f.wire_eq, crc, Frame.covered, u16, Half.bytes]
    simp
  · simp

/-- The bytes of a frame, received one by one by a hunting receiver of a quiet part, are the frame's arrival. -/
theorem execAll_wire (running : s.power = .running) (quiet : s.Quiet) (hunts : (s.port p).Hunting) {f : Frame}
    (fits : f.payload.length ≤ 1024) :
    execAll (received p f.wire) s =
      .next (s.arrive p f.kind f.tag (parseRequest f.kind f.payload) f.payload.length).arbitrate := by
  obtain ⟨lo, hi, bytes, last, wire, length, count⟩ := Frame.wire_split fits
  have header := execAll_header running quiet hunts.1 (lo := lo) (hi := hi) (by omega) (by omega)
  have body := execAll_assembled (p := p) running quiet (lo := lo) (hi := hi) (bytes := []) (more := bytes)
    (by rw [List.length_nil]; omega)
  have port : (s.assembled p lo hi bytes).port p = _ := s.keepByte_port ..
  have stage : ((s.assembled p lo hi bytes).port p).stage = .crc := (congrArg PortCtl.stage port).trans (if_pos (by omega))
  have whole : ((s.assembled p lo hi bytes).port p).buffer ++ [last] = f.wire := by rw [congrArg PortCtl.buffer port, wire]; rfl
  have delivered := State.receiveByte_wire stage whole fits
  rw [State.assembled_hunting hunts] at delivered
  have ends : exec (.byteReceived p last true) (s.assembled p lo hi bytes) =
      .next (s.arrive p f.kind f.tag (parseRequest f.kind f.payload) f.payload.length).arbitrate := by
    rw [exec_goodByte (State.assembled_running running ..), delivered]
  have split : received p f.wire = received p [0xA5, lo, hi] ++ (received p bytes ++ received p [last]) := by
    rw [wire, received, List.map_append, List.map_append]
    rfl
  rw [split, execAll_append header, execAll_append body]
  exact execAll_cons ends []

end

end Sys2Proof.Machine

/-! CERTIFICATE. The bytes of a request's frame (O4). -/

namespace Sys2Proof
open Sys2Proof.Machine

/-- Settles O4: the bytes come to the arrival of the frame, whose payload is read back as the request. -/
theorem frameBytesDeliverTheRequest : Obligations.FrameBytesDeliverTheRequest := by
  intro c p tag r s command wf running hunts quiet
  rw [exec_request command, State.request_running wf running, ← parseRequest_payload wf, ← Request.length_payload]
  exact execAll_wire (f := { kind := r.kind, tag := tag, payload := r.payload }) running quiet hunts (Request.payload_fits wf)

end Sys2Proof

/-! CERTIFICATE. A request's payload read back (O3). -/

namespace Sys2Proof
open Sys2Proof.Machine

/-- Settles O3: the payload has the length of its fields (R186), and a request that a frame can carry is read back from it where its length
suits its kind (R187). -/
theorem requestSurvivesItsPayload : Obligations.RequestSurvivesItsPayload := by
  intro r wf
  exact ⟨Request.length_payload r, parseRequest_payload wf⟩

end Sys2Proof

/-! SUPPORT. What a command does to the queue of commands, and which commands have a next state (log 1, 23). -/

namespace Sys2Proof.Machine
open Sys2Proof

/-! ### The queue of commands -/

section
variable {s t : State}

/-- No owner of a request touches the queue of commands. -/
theorem State.takeRequest_pending (s : State) (p : Port) (tag : Byte) (r : Request) : (s.takeRequest p tag r).pending = s.pending := by
  cases r with
  | status | openUnit | close | reopen | partReset =>
    simp only [State.takeRequest, State.takeStatus, State.takeOpen, State.takeClose, State.beginCommit, State.takeReopen,
      State.takePartReset]
    (repeat' split) <;> simp
  | setTuning | setLevels | setAims | setPin | gridRestart | readNodes | readZones | measure =>
    simp only [State.takeRequest, State.takeSetTuning, State.takeSetLevels, State.takeSetAims, State.takeSetPin, State.takeGridRestart,
      State.takeReadNodes, State.takeReadZones, State.takeMeasure]
    (repeat' split) <;> simp
  | arm | disarm | start | stop | halt | advance | patchAppend | patchClear =>
    simp only [State.takeRequest, State.takeArm, State.takeDisarm, State.takeStart, State.takeStop, State.takeHalt, State.takeAdvance,
      State.takePatchAppend, State.takePatchClear]
    (repeat' split) <;> simp
  | readRegion | loadProfile | setRegion | setCheck | evaluate =>
    simp only [State.takeRequest, State.takeReadRegion, State.takeLoadProfile, State.takeSetRegion, State.takeSetCheck,
      State.takeEvaluate]
    (repeat' split) <;> simp
  | keyBegin | keyChunk | keyDiscard | keyFix | keyWithdraw | keyList | keyFetch =>
    simp only [State.takeRequest, State.takeKeyBegin, State.takeKeyChunk, State.takeKeyDiscard, State.takeKeyFix, State.takeKeyWithdraw,
      State.takeKeyList, State.takeKeyFetch]
    (repeat' split) <;> simp

/-- A count looks at the queue of commands (R127, log 33) and leaves it as it is. -/
theorem State.stepRow_pending (s : State) : s.stepRow.pending = s.pending := by
  unfold State.stepRow
  split
  · rfl
  · rename_i r row
    obtain ⟨-, -, counted⟩ := s.takeCount_rows r
    dsimp only
    split
    · simp [counted]
    · exact counted

/-- Start-up loading carries the queue over (R161). -/
theorem State.startedUp_pending (s : State) (cause : ResetCause) : (s.startedUp cause).pending = s.pending := by
  have marked : ∀ u : State, (u.loadMark cause).pending = u.pending := by
    intro u
    unfold State.loadMark
    (repeat' split) <;> rfl
  exact marked _

/-- No event behind the ports touches the queue of commands. -/
theorem State.Event.pending {c : Instr} (event : s.Event c t) : t.pending = s.pending := by
  cases event with
  | count => exact s.stepRow_pending
  | frameStart | gapExpiry | tick | trimSent | progress | marker => simp
  | openWrite | commitWrite | reopenWrite | fixWrite | withdrawWrite => simp

/-- No command touches the queue of those that wait; a reset and start-up loading carry it over. -/
theorem exec_pending {c : Instr} (run : exec c s = .next t) : t.pending = s.pending := by
  cases exec_cases run with
  | nothing => rfl
  | reset => rfl
  | startup cause => exact s.startedUp_pending cause
  | requestedReset => simp [State.requestedReset, State.volatileReset]
  | ports u running only => simp [only.blocks.pending]
  | request u p tag r running taken => simp [State.takeRequest_pending, taken.same.blocks.pending]
  | event u running event => simp [event.pending]

end

/-! ### Which commands have a next state (log 23) -/

section
variable {c : Instr} (s : State)

/-- A request has a next state just where a frame can carry it. -/
theorem State.request_next_or_refused (p : Port) (tag : Byte) (r : Request) :
    (r.wellFormed = true → ∃ t, s.request p tag r = .next t) ∧ (r.wellFormed = false → s.request p tag r = .refused .illFormed) := by
  unfold State.request
  exact ⟨fun wf => ⟨_, if_pos wf⟩, fun ill => if_neg (by simp [ill])⟩

/-- A marker read has a next state just where it has the pixels of a line. -/
theorem exec_markerRead_next_or_refused (line : LineRead) :
    (line.pixels.length = 768 → ∃ t, exec (.markerRead line) s = .next t) ∧
      (line.pixels.length ≠ 768 → exec (.markerRead line) s = .refused .illFormed) :=
  ⟨fun whole => ⟨_, if_pos whole⟩, fun short => if_neg short⟩

/-- A command that carries no request is a marker read, or is well formed and has a next state. -/
theorem exec_event_next (event : c.request? = none) :
    (∃ line, c = .markerRead line) ∨ (c.wellFormed = true ∧ ∃ t, exec c s = .next t) := by
  cases c with
  | markerRead line => exact .inl ⟨line, rfl⟩
  | byteReceived | portGapTimerExpiry | transmissionComplete | reset | startupLoading => exact .inr ⟨rfl, _, rfl⟩
  | inputFrameStart | inputGapExpiry | internalGeneratorTick | trimFrameComplete => exact .inr ⟨rfl, _, rfl⟩
  | progressTimerExpiry | rowCount => exact .inr ⟨rfl, _, rfl⟩
  | openWriteComplete | commitWriteComplete | reopenWriteComplete => exact .inr ⟨rfl, _, rfl⟩
  | keyFixWriteComplete | keyWithdrawWriteComplete => exact .inr ⟨rfl, _, rfl⟩
  | _ => simp [Instr.request?] at event

/-- A command has a next state where the part can meet it, and is refused elsewhere. -/
theorem exec_next_or_refused (c : Instr) :
    (c.wellFormed = true → ∃ t, exec c s = .next t) ∧ (c.wellFormed = false → exec c s = .refused .illFormed) := by
  cases carried : c.request? with
  | some x =>
    obtain ⟨p, tag, r⟩ := x
    have wf : c.wellFormed = r.wellFormed := by simp [Instr.wellFormed, carried]
    rw [wf, exec_request carried]
    exact s.request_next_or_refused p tag r
  | none =>
    obtain ⟨line, rfl⟩ | ⟨wf, next⟩ := exec_event_next s carried
    · simpa [Instr.wellFormed, Instr.request?] using exec_markerRead_next_or_refused s line
    · exact ⟨fun _ => next, fun ill => by simp [wf] at ill⟩

end

/-! ### One step -/

/-- A step takes the front command and runs it with the queue's rest. -/
theorem step_front {s : State} {c : Instr} {rest : List Instr} (front : s.pending = c :: rest) :
    step s = exec c (s.setPending rest) := by
  unfold step
  rw [front]

/-- With no command waiting the part idles (log 1). -/
theorem step_idle {s : State} (empty : s.pending = []) : step s = .next s := by
  unfold step
  rw [empty]

end Sys2Proof.Machine

/-! CERTIFICATE. The step and its commands (O1, O2). -/

namespace Sys2Proof
open Sys2Proof.Machine

/-- Settles O1: the queue has a front command, or none. -/
theorem stepRunsTheFrontCommand : Obligations.StepRunsTheFrontCommand := by
  intro s c rest
  exact ⟨step_front, step_idle⟩

/-- Settles O2: the well-formed commands are those with a next state, and every next state has the queue it came with. -/
theorem everyWellFormedCommandCompletes : Obligations.EveryWellFormedCommandCompletes := by
  intro c s
  obtain ⟨completes, refused⟩ := exec_next_or_refused s c
  refine ⟨fun wf => ?_, refused⟩
  obtain ⟨t, run⟩ := completes wf
  exact ⟨t, run, exec_pending run⟩

end Sys2Proof
